-- ==== Sys2Proof/Word.lean ====
section
/-! DEFINITION. The word types of the fabric: 32-bit registers, bytes, 96-bit TIMESTAMPs, 64-bit steps. -/

namespace Sys2Proof

/-- A register word (every register of either address space is read and written in 32-bit words, R368, R405). -/
abbrev Word := BitVec 32

/-- A byte of memory, of an image or of a flit. -/
abbrev Byte := BitVec 8

/-- A TIMESTAMP of Table HTM-1: SEC in [95:48], NS in [47:16], FRAC in [15:0]. -/
abbrev Stamp := BitVec 96

/-- A step number (START_STEP, STEP_COUNT, LAST_COMMIT), 64 bits. -/
abbrev StepNo := BitVec 64

/-- A node identifier of Table SCP-4, 20 bits. -/
abbrev NodeId := BitVec 20

/-- A 16-byte control message (R186); bits [127:120] are its TYPE. -/
abbrev Msg := BitVec 128

end Sys2Proof
end

