-- ==== Sys2Proof/Config.lean ====
section
/-! DEFINITION. What an implementation fixes: the kind of part, the fused values and parameters of R437, and the
free values of the model (constants with no body, which no proof can see into). -/

namespace Sys2Proof

/-- The part that the model is (R1, R2, R3). A die carries the Caertin block with the synthesis parameters of
Table BLK-1 (R390), each held as in BLOCK_PARAMS: the parameter minus one. -/
inductive Part where
  /-- Krasesta KSD-72, stepping B1. -/
  | krasesta
  /-- Caertin CTSU block 2.0 in an accelerator die: NUM_CORES - 1, NUM_REGIONS - 1, NUM_CMP - 1. -/
  | die (coresM1 : BitVec 8) (regionsM1 : BitVec 6) (cmpM1 : BitVec 4)
  deriving DecidableEq, Repr

namespace Config

/-- The fused word at a register address whose Reset column reads "fuse" (R437): any value, never assumed. -/
opaque fuse : Nat → Word

/-- The fused Vendor ID, Device ID and Revision ID of the PCIe endpoint (R366, R437). -/
opaque pcieVendor : BitVec 16
opaque pcieDevice : BitVec 16
opaque pcieRevision : BitVec 8

/-- The fused V/F table of R296: supply in mV for a frequency in MHz. -/
opaque vf : Nat → Nat

/-- The fused replica threshold MARGIN_LO of R296. -/
opaque marginLo : Int

/-- The fused replica threshold MARGIN_HI of R296. -/
opaque marginHi : Int

/-- Where a VU function (9 exp, 10 log, 11 reciprocal) of an FP32 operand stands against the exact FP32 result, modulo 3:
one ulp below, on it, one ulp above (R245): a fixed function of its input, which the spec does not state bit by bit. -/
opaque vuUlp : Nat → Word → Nat

/-- The phase of a clock region's generator at its start, in thousandths of a period, modulo 1,000: any value. -/
opaque regionPhase : Nat → Nat

/-- The time that a stack's interface takes to calibrate after the main domain starts, ns (Table TIL-13): any value. -/
opaque stackCal : Nat → Nat

/-- The temperature of a stack in a cycle, 1/16 °C (Table TIL-13): any value. -/
opaque stackTemp : Nat → Nat → Int

/-- A stack still reports its high-temperature state in a later cycle than that of its alarm (Table TIL-13): any value. -/
opaque stackHot : Nat → Nat → Bool

/-- The PCIe link of a Krasesta, while it is down, completes its training in a cycle (R366): its partner decides. -/
opaque pcieTrained : Nat → Bool

/-- CMAP_IDX of a die as sampled at the edge that begins a cycle (R398): what the integrator drives. -/
opaque cmapIdx : Nat → Byte

/-- The oven core temperature minus its setpoint, 1/1,024 °C, in a cycle (Table CLK-15): any value. -/
opaque ovenDev : Nat → Int

/-- The eye margin of a Krasesta's lane, by lane and cycle, mV (Table LNK-17): any value. -/
opaque laneMargin : Nat → Nat → BitVec 8

/-- A parity error of the structure image in the buffer of region 11 (R350) is found in this cycle of the time counter. -/
opaque bufferBad : Nat → Bool

/-- How many µrad/s of natural frequency the time servo has for each mHz of its bandwidth, minus one (R78): the spec
states the bandwidths and the damping, and not which point of the response the bandwidth names. -/
opaque servoRate : Nat

/-- The ratio, in 2^-32, by which each used exchange narrows the servo's bandwidth after lock (R79): the spec states that it
narrows geometrically, between which ends, and a bound on the time. -/
opaque narrowing : BitVec 32

/-- A reference input whose candidate is not qualified shows its monitor no fault in a cycle, by input and cycle (Table
CLK-10): any value. -/
opaque refinGood : Nat → Nat → Bool

/-- A fresh free value: applied to the counter State.fresh, for every value the spec leaves open. -/
opaque freeValue : Nat → Nat

end Config

/-- LEAP_MIN_LEAD of R20, ns. -/
def leapMinLead : Nat := 1000

/-- Logical cores served: NUM_CORES of a die, the 64 logical tiles of a Krasesta (R131). -/
def Part.numCores : Part → Nat
  | .krasesta => 64
  | .die c _ _ => c.toNat + 1

/-- Clock regions: 12 in a Krasesta (R311), NUM_REGIONS in a die. -/
def Part.numRegions : Part → Nat
  | .krasesta => 12
  | .die _ r _ => r.toNat + 1

/-- Core message ports of a die (R146); each logical tile of a Krasesta counts as one port (R147). -/
def Part.numCmp : Part → Nat
  | .krasesta => 64
  | .die _ _ m => m.toNat + 1

/-- Capacity of the CADD hold buffer (R138). -/
def Part.holdCap : Part → Nat
  | .krasesta => 16384
  | .die .. => 4096

/-- The part is a Krasesta. -/
def Part.isK : Part → Bool
  | .krasesta => true
  | .die .. => false

/-- The number of ports: 72 of a Krasesta (R176), the one uplink of a block. -/
def Part.numPorts : Part → Nat
  | .krasesta => 72
  | .die .. => 1

end Sys2Proof
end

