-- ==== Sys2Proof/Syntax.lean ====
section
/-! DEFINITION. The commands: one constructor per row of the table of operations and events. Operands are what comes
from outside the node: the written word, the port, the message, the measured time mark, the bytes. -/

namespace Sys2Proof

/-- A request word of the core message port (R146): the port it comes on and its 128 bits. -/
structure CmpReq where
  port : Nat
  word : Msg
  deriving DecidableEq, Repr

/-- What the monitor of a reference candidate shows (R45): the candidate, the row of Table CLK-3 (0 no edge, 1 a drift of
`dev` ppb, 2 the port, 3 missing TIME messages, 4 an offset that departs by `dev`, 2^-16 ns), and what was measured. -/
structure MonitorFault where
  c : Nat
  kind : Nat
  dev : Nat
  deriving DecidableEq, Repr

/-- An edge at a measurement source (R89, R90): its time in 1/256 ps, and whether it is a falling one. -/
structure SourceEdge where
  t : Int
  fall : Bool
  deriving DecidableEq, Repr

/-- What host memory answers for a transmit ring (R103): the descriptor, and the bytes of its buffer. -/
structure TxFetch where
  desc : List Byte
  data : List Byte
  deriving DecidableEq, Repr

/-- A command or event of the part. -/
inductive Instr where
  /-- STANDBY_POWER_UP (R37): 12 V standby power arrives: the gecko island powers up with every gecko register at
  its Reset value, BASK set and the oven heating. -/
  | standbyPowerUp
  /-- STANDBY_SUPPLY_FAULT (R429): 12V_SB goes out of range: every in-package converter turns off at once and the
  oven stops heating. -/
  | standbySupplyFault
  /-- MAIN_SUPPLY_FAULT (R429): 48V_IN goes out of range: within 1 µs the gecko island applies its HALT, logs code 6
  with ARG 5 and turns off the converters of regions 0 to 11. -/
  | mainSupplyFault
  /-- MAIN_SUPPLY_RETURN (R429): 48V_IN has been back in range for 20 ms: the converters restart and the node starts
  in TADPOLE with TRIPPED cleared. -/
  | mainSupplyReturn
  /-- AON_POR (R412): AON_POR_N is deasserted: the gecko part of a CTSU powers up with every gecko register, RWS
  fields included, at its Reset value. -/
  | aonPor
  /-- RESET_ASSERT (R410): One of the four block resets is asserted: the whole block is held in reset and its
  outputs go to 0 as R411 states. -/
  | resetAssert (r : Nat)
  /-- RESET_RELEASE (R410): The last of the four block resets is deasserted: release runs in order and the block
  enters TADPOLE. -/
  | resetRelease (r : Nat) (cycle : Nat)
  /-- BASK_CLEAR (R38): The oven core has held its setpoint window for 10 s without a break: BASK clears and
  BASK_CLEAR is raised. -/
  | baskClear
  /-- BASK_SET (R40): The oven core leaves its window after BASK has cleared: BASK is set again and BASK_SET is
  raised. -/
  | baskSet
  /-- ROOTPLL_LOCK (R41): The root PLL achieves lock, ROOTPLL_LOCK reads 1 and the divided clocks are phase-aligned
  to it. -/
  | rootpllLock
  /-- ROOTPLL_LOSS (R64): The root PLL loses lock: the gecko island logs the loss, suppresses leaps, holds every
  link transmitter in reset and holds the pulse outputs low. -/
  | rootpllLoss
  /-- CANDIDATE_FAULT (R45): The monitor of a reference candidate detects a fault of Table CLK-3, and the candidate
  becomes unqualified. -/
  | candidateFault (x : MonitorFault)
  /-- CANDIDATE_QUALIFIED (R45): A candidate has been free of faults for QUAL_MS without a break, and it becomes
  qualified again. -/
  | candidateQualified (c : Nat)
  /-- REF_SEL_WRITE (R47): The host writes REF_SEL: the write selects a permitted, qualified candidate or is refused
  with REF_SEL_REFUSED. -/
  | refSelWrite (v : Word)
  /-- PPS_FAULT (R46): A 1PPS fault occurs on an enabled REFIN: PPS_OK clears and PPS_FAULT is raised, without
  unqualifying the candidate. -/
  | ppsFault (c : Nat)
  /-- SLEW_COMPLETE (R53): The clean-up loop reaches the new reference alignment, and SLEWING clears. -/
  | slewComplete
  /-- PHASE_STEP_ARM (R59): PHASE_CTRL.ARM arms the staged PHASE_STEP at the root, or is refused with PSTEP_REFUSED.
  -/
  | phaseStepArm (v : Word)
  /-- PHASE_STEP_CANCEL (R61): PHASE_CTRL.CANCEL withdraws a pending phase step. -/
  | phaseStepCancel (v : Word)
  /-- PHASE_STEP_APPLY (R60): At the next 1 ms boundary of hall time, the armed step is applied or refused by the
  leap-armed limits. -/
  | phaseStepApply
  /-- ALIGN (R63): A write of PULSE_CTRL.ALIGN requests alignment of the pulse generator at the next suitable whole
  second. -/
  | align (v : Word)
  /-- ALIGN_BOUNDARY (R63): The alignment boundary B is reached: the generator loads hall time, the new tick
  settings take effect and ALIGN_DONE is raised. -/
  | alignBoundary
  /-- PPS_OUT_EDGE (R62): The generator time reaches a whole second, and PPS_OUT pulses if it is enabled. -/
  | ppsOutEdge
  /-- TICK_OUT_EDGE (R62): The generator time reaches the next tick instant, and TICK_OUT pulses if it is enabled.
  -/
  | tickOutEdge
  /-- TIME_INCR_WRITE (R69): A write of TIME_INCR_H puts TIME_INCR into effect at the root, or is refused with
  INCR_REFUSED. -/
  | timeIncrWrite (v : Word)
  /-- SEC_ARM (R70): TIME_CTRL.SEC_ARM arms a seconds load at the root, or is refused with SEC_REFUSED. -/
  | secArm (v : Word)
  /-- SEC_LOAD_APPLY (R70): At the next whole second, SEC takes SEC_LOAD, or the load is withdrawn because leaps are
  armed. -/
  | secLoadApply
  /-- WIDE_REGISTER_LOW_READ (R417): A read of the lowest word of a wide register latches every word of that
  register. -/
  | wideRegisterLowRead (a : Nat)
  /-- WIDE_REGISTER_HIGH_WRITE (R419): A write of the highest word of a wide RW register puts the staged words into
  effect together. -/
  | wideRegisterHighWrite (a : Nat) (v : Word)
  /-- SYNC_SEND (R74): The parent's SYNC interval expires, and it sends a TIME SYNC carrying t1. -/
  | syncSend (p : Nat)
  /-- SYNC (R73): A child receives a TIME SYNC: it records t2 and the flags, then sends REQ with t3 in its next T
  slot. -/
  | sync (p : Nat) (m : Msg) (mark : Stamp) (rep : Bool)
  /-- REQ (R73): A parent receives a TIME REQ: it records t4 and sends RESP in its next T slot. -/
  | req (p : Nat) (m : Msg) (mark : Stamp) (rep : Bool)
  /-- RESP (R75): A child receives a TIME RESP: it computes delay and offset, and uses or discards the exchange for
  its servo. -/
  | resp (p : Nat) (m : Msg) (mark : Stamp) (rep : Bool)
  /-- EXCHANGE_TIMEOUT (R76): No RESP arrives within three SYNC intervals, and the exchange is discarded and counted
  in EXCH_DISCARD. -/
  | exchangeTimeout (p : Nat)
  /-- SETTLE_DONE (R79): The servo bandwidth has narrowed to tracking: SETTLED is set and SETTLE_DONE is raised. -/
  | settleDone
  /-- TDC_EDGE (R89): An edge arrives at a measurement source: it is time-stamped, dropped or sampled into its
  channel. -/
  | tdcEdge (src : Nat) (e : SourceEdge)
  /-- CH_GO (R93): CH_CTRL.GO starts or restarts a measurement block, or is refused with CFG_ERR. -/
  | chGo (ch : Nat) (v : Word)
  /-- CH_ABORT (R93): CH_CTRL.ABORT ends a block without results and clears BUSY and CONT. -/
  | chAbort (ch : Nat) (v : Word)
  /-- FRAME_RECEIVE (R97): A frame arrives at the management port: it is filtered, time-stamped, classified and
  written to an RX3 descriptor, or dropped. -/
  | frameReceive (frame : List Byte) (fcsOk : Bool) (frac : Nat)
  /-- ETH_TRANSMIT_DESCRIPTOR (R98): The device takes a TX3 descriptor: it sends the frame with an optional time
  stamp, or completes it with LINK_DOWN or LEN_ERR. -/
  | ethTransmitDescriptor (x : TxFetch) (frac : Nat)
  /-- LINK_CHANGE (R98): PCS or RS-FEC lock of the management port changes, so LINK_UP changes and LINK_CHANGE is
  raised. -/
  | linkChange (up : Bool)
  /-- MOD_CHANGE (R98): A status line of the SFP28 module changes, and MOD_CHANGE is raised. -/
  | modChange (st : BitVec 3)
  /-- UTC_CLAIM_WRITE (R107): A write of UTC_CLAIM := 1 is accepted at the root or refused with UTC_REFUSED. -/
  | utcClaimWrite (v : Word)
  /-- START (R110): LEAP_CTRL.START at the root starts a run from n0, or is refused with START_REFUSED. -/
  | start (v : Word)
  /-- HALT_REQ (R114): LEAP_CTRL.HALT_REQ sets a pending HALT at the root, or is refused elsewhere. -/
  | haltReq (v : Word)
  /-- STOP_REQ (R114): LEAP_CTRL.STOP_REQ sets a pending STOP at the root, or is refused elsewhere. -/
  | stopReq (v : Word)
  /-- CANCEL_STOP (R114): LEAP_CTRL.CANCEL_STOP withdraws a pending STOP_REQ. -/
  | cancelStop (v : Word)
  /-- START_T_START_N (R112): A node receives the START_T and START_N pair: it forwards them and arms, or sends FAIL
  NOT_READY. -/
  | startTStartN (p : Nat) (mt : Option Msg) (mn : Option Msg)
  /-- DECISION_INSTANT (R114): The root reaches D(m) and sends exactly one of HALT, STOP, GO or SKIP. -/
  | decisionInstant
  /-- GO (R116): A node receives GO for its pending step: it forwards it, sets E and sets GO_HELD. -/
  | go (p : Nat) (m : Msg)
  /-- SKIP (R116): A node receives SKIP: it forwards it, moves E, and counts the skip. -/
  | skip (p : Nat) (m : Msg)
  /-- HALT (R124): A node receives HALT: it forwards it, drops its pending launch and enters STOPPED with HALTED
  set. -/
  | halt (p : Nat) (m : Msg)
  /-- STOP (R125): A node receives STOP: it forwards it, drops its pending launch and enters STOPPED with STOP_ENTRY
  set. -/
  | stop (p : Nat) (m : Msg)
  /-- ORPHAN_LIMIT (R116): The reading reaches E − LEAP_MIN_LEAD without GO_HELD, so the node sets ORPHAN and fires
  no further leap. -/
  | orphanLimit
  /-- LEAP_FIRE (R117): The reading reaches E with GO_HELD set: the node fires leap n and does all the work of the
  fire cycle. -/
  | leapFire
  /-- READY (R120): A Krasesta receives a READY from a child, records the vote, and forwards the combined vote when
  all are present. -/
  | ready (p : Nat) (m : Msg)
  /-- FAIL (R120): A node receives an upward FAIL: it forwards at most one per step, and the root records it in
  FAIL_INFO. -/
  | fail (p : Nat) (m : Msg)
  /-- CACK (R122): A node receives CACK from a child, combines it, and at the root sets LAST_COMMIT when all have
  acknowledged. -/
  | cack (p : Nat) (m : Msg)
  /-- LAST_COMMIT_WRITE (R123): A host write of LAST_COMMIT takes effect while leaps are not armed, or is ignored
  with CFG_LOCKED. -/
  | lastCommitWrite (v : StepNo)
  /-- EPOCH_ARM (R129): EPOCH_CTRL.ARM arms a software profile epoch and begins the pre-raise, or is refused with
  EPOCH_REFUSED. -/
  | epochArm (v : Word)
  /-- EPOCH_CANCEL (R129): EPOCH_CTRL.CANCEL withdraws a pending software epoch. -/
  | epochCancel (v : Word)
  /-- SOFTWARE_EPOCH (R128): The reading reaches EPOCH_TIME, and the node switches profile and raises EPOCH_DONE. -/
  | softwareEpoch
  /-- ADD (R135): A core or tile ADD request is accepted; a remote ADD leaves as a CADD in the next T slot. -/
  | add (c : CmpReq)
  /-- READ (R150): A READ request for a counter of the node is accepted. -/
  | read (c : CmpReq)
  /-- WATCH (R141): A WATCH request naming a counter, target, timeout and tag is accepted. -/
  | watch (c : CmpReq)
  /-- UNWATCH (R145): An UNWATCH request naming a tag is accepted. -/
  | unwatch (c : CmpReq)
  /-- REQUEST_REFUSAL (R135): At a + 36 ns, a malformed request is discarded or refused, counted in BAD_REQ and
  recorded in BAD_REQ_INFO. -/
  | requestRefusal
  /-- ADD_EFFECT (R135): In stage 1 of the cycle at a + L − 4, FORCEs and ADDs are applied to the counters, and the
  pair checks and watch conditions follow. -/
  | addEffect
  /-- WATCH_ENTRY (R141): In stage 1 of its effect cycle, a WATCH is entered into a watch slot, or refused with
  REFUSED_FULL or REFUSED_REQ. -/
  | watchEntry
  /-- UNWATCH_EFFECT (R145): In stage 5 of its effect cycle, an UNWATCH cancels the oldest watch with its tag, or
  answers CANCEL_MISS. -/
  | unwatchEffect
  /-- READ_SAMPLE (R150): In stage 6 of its effect cycle, a READ samples the counter and READ_OK is decided. -/
  | readSample
  /-- WATCH_TIMEOUT (R134): An open watch's deadline is reached in stage 4, and the watch completes with TIMEOUT. -/
  | watchTimeout
  /-- RESPONSE_PRESENT (R147): A decided response is presented at the core message port or to the tile, in the order
  of R147. -/
  | responsePresent (port : Nat)
  /-- CMP_STALL (R148): A valid response has not been accepted for more than 8 ns, and the CTSU counts it and raises
  CMP_STALL. -/
  | cmpStall (port : Nat)
  /-- CADD (R136): A CADD message arrives: it is forwarded, discarded as stray, or held at the counter's node by the
  rules of R137. -/
  | cadd (p : Nat) (m : Msg)
  /-- CADD_APPLY (R137): The cycle at DUE is reached, and a held CADD is applied in stage 1. -/
  | caddApply
  /-- TASK_SWITCH (R151): CNT_CTRL.TASK_SWITCH clears the counters, watches, barriers and queues of the node, or is
  refused while armed. -/
  | taskSwitch (v : Word)
  /-- FORCE_DATA (R336): A write of FORCE_DATA issues a FORCE of the counter named by FORCE_ADDR, or counts it in
  BAD_REQ if the address is out of range. -/
  | forceData (v : Word)
  /-- FORCE_APPLY (R153): A FORCE replaces a counter's value in stage 1, marks it FORCED and raises FORCE_WRITE and
  FORCE_DONE. -/
  | forceApply
  /-- ARRIVE_WAIT (R160): An ARRIVE_WAIT barrier request is accepted. -/
  | arriveWait (c : CmpReq)
  /-- ARRIVE (R160): An ARRIVE barrier request is accepted. -/
  | arrive (c : CmpReq)
  /-- WAIT (R160): A WAIT barrier request is accepted. -/
  | wait (c : CmpReq)
  /-- BREAD (R160): A BREAD request is accepted and samples the entry's ROUND, CUR and NEXT in stage 6. -/
  | bread (c : CmpReq)
  /-- BARRIER_REQUEST_EFFECT (R157): At a + 36 ns, a barrier arrival is classified and counted, a wait is entered,
  or the request is refused. -/
  | barrierRequestEffect
  /-- COMBINED_ARRIVAL (R163): An ARRIVE SYNC message from a child is received and counted at an HBAR entry, or
  discarded. -/
  | combinedArrival (p : Nat) (m : Msg)
  /-- RELEASE (R164): A RELEASE SYNC message is received, forwarded on the CHILD_MAP ports, and scheduled for
  application. -/
  | release (p : Nat) (m : Msg)
  /-- RELEASE_APPLY (R164): The release cycle is reached: the release is applied, and the waits on that round
  complete with RELEASED. -/
  | releaseApply
  /-- BAR_STALL (R168): An entry's stall timer reaches STALL_TIMEOUT: STALLED is set and the miss record is filled.
  -/
  | barStall (e : Nat)
  /-- DEADLOCK (R170): The deadlock conditions have held for DL_WINDOW: DEADLOCK is raised and a snapshot is taken.
  -/
  | deadlock
  /-- SLOT_TRANSMIT (R184): A slot of a port's wheel begins, and the port sends the flit chosen by the slot's class.
  -/
  | slotTransmit (p : Nat)
  /-- FLIT_RECEIVE (R193): A flit is received and checked: its control messages, data or identity record are
  handled, or the flit is marked failed. -/
  | flitReceive (p : Nat) (ofs : Nat) (cws : List (List Nat)) (pos : List Nat) (mark : Stamp)
  /-- REPLAY_TIMEOUT (R191): A replay request gets no answer within REPLAY_TMO, so it counts as a further failure
  and is sent again. -/
  | replayTimeout (p : Nat) (sq : Nat)
  /-- LINK_DEAD (R195): A port declares LINK_DEAD, drops its replay buffer and begins training again. -/
  | linkDead (p : Nat) (cause : Nat)
  /-- TRAINING_STATE_DONE (R196): The condition of a training state is met, and the port moves to the next state, up
  to UP. -/
  | trainingStateDone (p : Nat)
  /-- TRAINING_TIMEOUT (R196): A training state overruns its bound, so the port returns to SIGNAL and counts
  TRAIN_FAIL. -/
  | trainingTimeout (p : Nat)
  /-- RETRAIN (R196): LINK_CTRL.RETRAIN returns the port to SIGNAL, or is refused while leaps are armed. -/
  | retrain (p : Nat) (v : Word)
  /-- BER_CHECK (R198): Each second, corrected symbols per lane are compared with BER_THR, which may set BER_HIGH:
  one lane of a port. -/
  | berCheck (p : Nat) (lane : Nat)
  /-- PHY_RX_LOCK (R395): PHY_RX_LOCK of a lane changes, which readies the lane for SIGNAL or counts as a loss of
  framing in UP. -/
  | phyRxLock (lane : Nat) (lock : Bool)
  /-- PHY_TXFFE_DONE (R395): The SerDes toggles PHY_TXFFE_DONE after it applies a transmit FFE setting. -/
  | phyTxffeDone
  /-- PHY_MARGIN_TGL (R395): The SerDes presents a new eye margin, which is copied into LANE_STATUS. -/
  | phyMarginTgl (lane : Nat) (mv : Byte)
  /-- CROAK_SEND (R189): At each multiple of 10,000 ns, the gecko island forms and sends a CROAK on every trained
  port. -/
  | croakSend
  /-- CROAK (R313): A CROAK is received and recorded for the port's failure detector, where it may trigger a fence
  cause. -/
  | croak (p : Nat) (m : Msg)
  /-- DETECTOR_CHECK (R313): At each check instant, the detector updates MISS for its port. -/
  | detectorCheck (p : Nat)
  /-- FENCE_NOTICE (R319): A FENCE fault notice naming the node arrives on an up port, and the node enters FENCED.
  -/
  | fenceNotice (p : Nat) (payload : List Byte)
  /-- UP_SWITCH_NOTICE (R321): An UP_SWITCH notice arrives on a twin's down port, and the twin takes over. -/
  | upSwitchNotice (p : Nat) (payload : List Byte)
  /-- MGMT_RECEIVE (R377): A MGMT flit is received and written to an RX1 descriptor, or counted in MGMT_LOST. -/
  | mgmtReceive (p : Nat) (payload : List Byte)
  /-- BULK_READ_DATA (R401): A read beat returns on the bulk port and completes a ring, image or spawn read, or
  reports a bulk error. -/
  | bulkReadData (tag : Nat) (data : List Byte) (err : Bool)
  /-- BULK_WRITE_RESPONSE (R401): A write response returns on the bulk port and completes a ring or spawn write, or
  reports a bulk error. -/
  | bulkWriteResponse (tag : Nat) (err : Bool)
  /-- DATA_DUE (R205): A received DATA flit reaches its due time: its arrival ADD is applied, or it becomes eligible
  for forwarding. -/
  | dataDue (p : Nat) (q : Nat)
  /-- SPAWN_ARM (R215): SPAWN_CTRL.ARM arms the node's spawn, or is refused with ARM_REFUSED. -/
  | spawnArm (v : Word)
  /-- SPAWN_DISARM (R215): SPAWN_CTRL.DISARM ends the node's spawn activity and keeps the eggs it holds. -/
  | spawnDisarm (v : Word)
  /-- EGG_PART (R217): An EGG DATA part is received and written into the spawn region. -/
  | eggPart (p : Nat) (payload : List Byte)
  /-- EGG_TRAILER (R217): An EGG TRAILER is received, and the egg's check begins. -/
  | eggTrailer (p : Nat) (payload : List Byte)
  /-- EGG_CHECK_DONE (R217): The egg's check ends: it is held, counted as a duplicate, or counted in EGG_BAD and
  asked again. -/
  | eggCheckDone
  /-- CONTROL_RECORD (R218): An EGG CONTROL record is received and updates LIMIT, the cumulative reports, or a
  resumption. -/
  | controlRecord (p : Nat) (payload : List Byte)
  /-- CONTROL_RECORD_SEND (R218): A CONTROL record is sent on a port direction after a field changes, or when
  100,000 ns have passed. -/
  | controlRecordSend (p : Nat)
  /-- LOAD (R249): A LOAD descriptor copies LEN bytes from a far space into local memory. -/
  | load (t : Nat)
  /-- STORE (R249): A STORE descriptor copies LEN bytes from local memory to a far space. -/
  | store (t : Nat)
  /-- MATMUL (R240): A MATMUL descriptor computes C from A and B in the fixed chunked order. -/
  | matmul (t : Nat)
  /-- VECTOR (R250): A VECTOR descriptor applies its elementwise function. -/
  | vector (t : Nat)
  /-- SOFTMAX_PART (R251): A SOFTMAX_PART descriptor computes P, m and l per row. -/
  | softmaxPart (t : Nat)
  /-- MERGE (R252): A MERGE descriptor merges two partial triples per row. -/
  | merge (t : Nat)
  /-- REDUCE (R253): A REDUCE descriptor sums contribution vectors into exact accumulators. -/
  | reduce (t : Nat)
  /-- TOPK (R254): A TOPK descriptor selects the K largest values with their indices. -/
  | topk (t : Nat)
  /-- SEND (R255): A SEND descriptor writes N entries to a transmit ring and ADDs N to the posted counter. -/
  | send (t : Nat)
  /-- RECV (R256): A RECV descriptor waits for arrivals, copies N entries from the receive ring and ADDs N to the
  consumed counter. -/
  | recv (t : Nat)
  /-- SIGNAL (R257): A SIGNAL descriptor issues an ADD request. -/
  | signal (t : Nat)
  /-- WATCH_DESCRIPTOR (R258): A WATCH descriptor registers a watch or barrier request and waits for its response.
  -/
  | watchDescriptor (t : Nat)
  /-- LOOP (R259): A LOOP descriptor advances its index and branches back to its body or continues. -/
  | loop (t : Nat)
  /-- DESCRIPTOR_COMPLETE (R248): A descriptor completes, and any DONE_EN ADD is accepted. -/
  | descriptorComplete (t : Nat) (unit : Nat)
  /-- PARITY_CLEAN (R263): A read finds a parity error in a clean block, so the unit holds and the tile refetches
  the block. -/
  | parityClean (t : Nat) (block : Nat)
  /-- REFETCH_DONE (R263): A refetch completes: the block is rewritten and the read resumes. -/
  | refetchDone (t : Nat) (block : Nat)
  /-- PARITY_DIRTY (R264): A parity error in a dirty block or datapath poisons the step and sends FAIL POISON. -/
  | parityDirty (t : Nat) (block : Nat)
  /-- STACK_ECC_CORRECTED (R265): The stack's on-die ECC corrects an error, which is counted in ECC_CORR. -/
  | stackEccCorrected (st : Nat)
  /-- STACK_UNCORRECTABLE (R265): An uncorrectable stack error or a controller-path parity error poisons the data
  read: `path` tells a controller-path parity error, `t` the physical tile that reads, if one does. -/
  | stackUncorrectable (st : Nat) (a : Nat) (path : Bool) (t : Option Nat)
  /-- TILE_MAP_WRITE (R227): A write of TILE_MAP remaps a logical tile, or is ignored with CFG_LOCKED. -/
  | tileMapWrite (l : Nat) (v : Word)
  /-- OPEN (R272): The PFX_CTRL.OPEN command opens a FREE clutch entry. -/
  | pfxOpen (v : Word)
  /-- IMPORT (R272): The PFX_CTRL.IMPORT command starts copying clutch areas from the spawn cache. -/
  | pfxImport (v : Word)
  /-- IMPORT_DONE (R272): An IMPORT finishes its copy: every page is marked present and IMPORT_DONE is raised. -/
  | importDone (e : Nat)
  /-- SEAL (R272): The PFX_CTRL.SEAL command seals an OPEN entry whose pages are all present. -/
  | pfxSeal (v : Word)
  /-- EVICT (R272): The PFX_CTRL.EVICT command sets EVICT_STEP, or frees the entry at once. -/
  | pfxEvict (v : Word)
  /-- FREE (R272): The PFX_CTRL.FREE command frees an entry and drops its residence entries. -/
  | pfxFree (v : Word)
  /-- INSTALL_PAGE (R275): A PAGE install packet is consumed: the page is written or dropped. -/
  | installPage (d : Nat)
  /-- INSTALL_SEAL (R275): A SEAL install packet is consumed and acts as the SEAL command. -/
  | installSeal (d : Nat)
  /-- INSTALL_EVICT (R275): An EVICT install packet is consumed and acts as the EVICT command. -/
  | installEvict (d : Nat)
  /-- PAGE_WRITE_DONE (R275): A page write of a clutch entry completes, so PRESENT increments and any notification ADD is
  sent; `err` tells a parity error on the write path. -/
  | pageWriteDone (e : Nat) (err : Bool)
  /-- PASS_START (R277): A prefix pass starts once its conditions hold, and consumes the query packets of its dies.
  -/
  | passStart (j : Nat)
  /-- PASS_REPLY_POST (R282): At start + L, the engine adds RF to each die's posted reply counter. -/
  | passReplyPost (j : Nat)
  /-- MIGRATION_SLOT (R286): At T(c+1) + MIG_OFS, a migration slot opens and copies pages into the cache. -/
  | migrationSlot
  /-- MIGRATION_COPY_DONE (R286): A migration slot's copies complete, and the residence changes wait for the next
  leap. -/
  | migrationCopyDone
  /-- LOOP_DECISION (R296): At each whole microsecond, the loop of each unpinned tile region steps its frequency and
  its trim. -/
  | loopDecision (r : Nat) (err : Int)
  /-- VOLTAGE_REACHED (R296): A raised VSET is reached, and the region's frequency rises by 25 MHz. -/
  | voltageReached (r : Nat)
  /-- THERMAL_CAP_UPDATE (R297): Every 10 µs, a tile region's thermal cap is updated from its hottest sensor. -/
  | thermalCapUpdate (r : Nat) (t : Int)
  /-- POWER_CAP_UPDATE (R298): Every 100 µs, CAP_MHZ is updated from PWR_IN. -/
  | powerCapUpdate (pwr : Nat)
  /-- THERMAL_TRIP (R300): A tile sensor reads 115 °C or more, so the gecko HALT is applied and the regions are held
  at 1,500 MHz. -/
  | thermalTrip (t : Nat)
  /-- DROOP (R301): A droop detector fires: the period in progress is lengthened and STRETCH_COUNT is incremented.
  -/
  | droop (r : Nat)
  /-- RG_PIN_WRITE (R305): A write of RG_PIN pins or releases a tile region, or is refused with PIN_REFUSED. -/
  | rgPinWrite (r : Nat) (v : Word)
  /-- PIN_DONE (R305): The voltage and frequency moves of a pin complete, PINNED is set and PIN_DONE is raised. -/
  | pinDone (r : Nat)
  /-- STRETCH_CNT_STEP (R403): The integrator advances STRETCH_CNT of a region, and the difference is added to
  STRETCH_COUNT. -/
  | stretchCntStep (r : Nat) (cnt : Nat)
  /-- MON_TGL (R404): The integrator toggles MON_TGL, and the monitor set is copied into MON_VF and MON_T. -/
  | monTgl (r : Nat) (vf : Word) (t : Word)
  /-- FENCE_REQ (R320): The gecko FENCE_REQ fences a named down port or the node itself, or is refused. -/
  | fenceReq (v : Word)
  /-- UNFENCE (R320): The gecko UNFENCE clears the fence of a down port whose child has passed through TADPOLE, or
  is refused. -/
  | unfence (v : Word)
  /-- EFT_CFG_WRITE (R324): A write of EFT_CFG sets an eft entry, or is refused with EFT_REFUSED or CFG_LOCKED. -/
  | eftCfgWrite (e : Nat) (v : Word)
  /-- EFT_STEP_CLOSE (R326): At T(n+1) + 10,000 ns, the eft comparison of step n closes as clean or as a mismatch.
  -/
  | eftStepClose (e : Nat)
  /-- CORE_MAP_WRITE (R328): A write of CORE_MAP remaps a logical core and steps CMAP_SEQ, or is ignored with
  CFG_LOCKED. -/
  | coreMapWrite (l : Nat) (v : Word)
  /-- SENTINEL_START (R331): After a tile's step program ends, the sentinel program starts when the guard and queue
  conditions allow it. -/
  | sentinelStart (t : Nat)
  /-- SENTINEL_END (R331): A sentinel ends, and the CRC of its output is compared and counted as a pass or a miss.
  -/
  | sentinelEnd (t : Nat)
  /-- SNAP_REQ (R330): FLT_CTRL.SNAP_REQ takes a conditions snapshot if none is held. -/
  | snapReq (v : Word)
  /-- GECKO_HALT (R335): GK_CTRL.HALT applies the gecko HALT to the node. -/
  | geckoHalt (v : Word)
  /-- LOG_FREEZE (R337): GK_CTRL.LOG_FREEZE sets LOG_FROZEN. -/
  | logFreeze (v : Word)
  /-- LOG_UNFREEZE (R337): GK_CTRL.LOG_UNFREEZE clears LOG_FROZEN. -/
  | logUnfreeze (v : Word)
  /-- SUBRESET (R336): A write of SUBRESET starts the reset of the named sub-blocks, after a gecko HALT where
  required. -/
  | subreset (v : Word)
  /-- SUBRESET_X (R340): A write of SUBRESET_X starts the reset of the named Krasesta sub-blocks. -/
  | subresetX (v : Word)
  /-- SUBRESET_DONE (R336): A sub-block reset completes: its busy bit clears and SUBRESET_DONE is raised. -/
  | subresetDone (b : Nat)
  /-- LOAD_STRUCT (R348): CFG_CTRL.LOAD_STRUCT starts a structure-image load, or is refused with cause STATE. -/
  | loadStruct (v : Word)
  /-- LOAD_PLAN (R348): CFG_CTRL.LOAD_PLAN starts a plan-image load, or is refused with cause STATE. -/
  | loadPlan (v : Word)
  /-- ABORT (R350): CFG_CTRL.ABORT ends a load in fetch or check as a refusal with cause IO. -/
  | loadAbort (v : Word)
  /-- RESTART (R359): CFG_CTRL.RESTART abandons any load, disarms leaps, resets the sub-blocks and returns the node
  to TADPOLE. -/
  | restart (v : Word)
  /-- LOAD_FETCH_DONE (R438): The image fetch ends, with a FORMAT refusal on a bad header or with LENGTH bytes
  taken, and checking begins. -/
  | loadFetchDone
  /-- LOAD_CHECK_DONE (R351): The check phase ends, with a refusal recorded in CHECK_INFO or with the start of the
  apply phase. -/
  | loadCheckDone
  /-- LOAD_APPLY_DONE (R353): The apply phase ends: the image takes effect and STRUCT_LOADED or PLAN_LOADED is
  raised, or a CHANGED or IO refusal is recorded. -/
  | loadApplyDone
  /-- PLAN_REGISTER_WRITE (R355): A host write to a plan register while leaps are not armed is carried out and sets
  PLAN_EDITED, or is ignored with CFG_LOCKED. -/
  | planRegisterWrite (a : Nat) (v : Word)
  /-- PCIE_RESET (R367): PERST_N, FLR or D3hot-to-D0 resets the endpoint and HOSTIF, and PCIE_RESET is set when the
  reset ends. -/
  | pcieReset
  /-- BAR0_BAD (R368): A BAR0 request that is not a single aligned DW is completed with Unsupported Request. -/
  | bar0Bad (a : Nat) (be : List Bool) (wr : Bool)
  /-- BAR2_READ (R369): A BAR2 read of stack space is served as host traffic. -/
  | bar2Read (ofs : Nat) (len : Nat)
  /-- BAR2_WRITE (R369): A BAR2 write to stack space is served as host traffic, or dropped if poisoned. -/
  | bar2Write (ofs : Nat) (data : List (Option Byte)) (poisoned : Bool)
  /-- APER_TIMEOUT (R370): A BAR2 access is still unserved 1 ms after it arrived, so it is aborted or dropped and
  counted. -/
  | aperTimeout (wr : Bool)
  /-- RING_POLL (R373): POLL_INTERVAL expires, and the device reads the descriptor at HEAD of an enabled ring. -/
  | ringPoll (r : Nat) (desc : List Byte)
  /-- IMAGE_DESCRIPTOR (R375): A TX0 descriptor supplies image bytes to the load in its fetch phase. -/
  | imageDescriptor (desc : List Byte) (data : List Byte)
  /-- LOG_RECORD (R376): A log entry selected by LOG_DMA_SEL is queued and written to an RX0 descriptor, or counted
  as lost. -/
  | logRecord (desc : List Byte)
  /-- MGMT_SEND (R377): A TX1 descriptor sends a MGMT flit in the port's next F slot, or ends with CLASS, PORT or
  RANGE. -/
  | mgmtSend (desc : List Byte) (data : List Byte)
  /-- STACK_COPY_IN (R378): A TX2 descriptor copies host memory into stack space. -/
  | stackCopyIn (desc : List Byte) (data : List Byte)
  /-- STACK_COPY_OUT (R378): An RX2 descriptor copies stack space into host memory. -/
  | stackCopyOut (desc : List Byte)
  /-- RING_CTRL_WRITE (R372): A write of RING_CTRL.EN enables or stops a descriptor ring. -/
  | ringCtrlWrite (r : Nat) (v : Word)
  /-- RING_RESET (R372): RING_CTRL.RING_RESET sets HEAD to 0 while the ring is disabled. -/
  | ringReset (r : Nat) (v : Word)
  /-- BME_OFF (R379): Bus Master Enable is cleared, so DMA stops and BME_OFF is raised. -/
  | bmeOff
  /-- INT_REARM (R383): A write of INT_REARM sends a new MSI-X message if INT_SUMMARY is not 0. -/
  | intRearm (v : Word)
  /-- MSIX_UNMASK (R383): The MSI-X vector or function is unmasked, and a pending message is sent. -/
  | msixUnmask
  /-- PERF_SEL_WRITE (R386): A write of PERF_SEL selects an event and mode and clears the counter, or leaves the
  register unchanged. -/
  | perfSelWrite (a : Nat) (v : Word)
  /-- CLEAR_ALL (R386): PERF_CTRL.CLEAR_ALL sets every counter and PERF_LAST to 0. -/
  | clearAll (x : Bool) (v : Word)
  /-- FREEZE (R386): A write of PERF_CTRL.FREEZE stops or resumes counting. -/
  | freeze (x : Bool) (v : Word)
  /-- LCLK_WINDOW (R393): A window of 1,000 AON_CLK cycles ends, and the LCLK edge count is judged. -/
  | lclkWindow (edges : Nat)
  /-- TEST_CTRL_WRITE (R413): A write of TEST_CTRL enters or leaves loopback mode, or sets LOOP_REFUSED. -/
  | testCtrlWrite (v : Word)
  /-- LOOP_REQ_SEND (R413): In loopback UP, the uplink sends a TIME REQ every 1,000 ns. -/
  | loopReqSend
  /-- REGISTER_WRITE (R12): A register-port or BAR0 write to a register with no row of its own acts by its access
  type. -/
  | registerWrite (a : Nat) (v : Word)
  /-- PWR_PEAK_READ (R12): A read of the RC register PWR_PEAK returns the highest PWR_IN since the last read and
  then clears it, with a hardware update in the same cycle handled by R13. -/
  | pwrPeakRead
  /-- BUS_MASTER_ENABLE (R379): Bus Master Enable is set again, so DMA resumes, a load waiting in its fetch phase
  continues, and MSI-X messages held back are sent by R383. -/
  | busMasterEnable
  /-- TEMP_ALARM (R267): A stack reports its high-temperature state: TEMP_HIGH is set and TEMP_ALARM is raised in
  STACK_CAUSE. -/
  | tempAlarm (st : Nat)
  /-- OVF (R384): An event counter that counts per-cycle events, such as time-counter cycles or tile cycles, wraps
  from 2^48 − 1 to 0, which sets OVF[k] and raises the cause. -/
  | ovf (x : Bool) (k : Nat)
  deriving DecidableEq, Repr

end Sys2Proof
end

