-- ==== Sys2Proof/Machine/Tbl.lean ====
section
/-! DEFINITION. Sparse tables: a list of (key, value) pairs in one canonical form (keys strictly rising, no entry
equal to what an unlisted key reads as). Registers, memories, ports, counters and every other indexed piece of
state are held in such tables, so that equal contents are equal data. -/

namespace Sys2Proof.Machine

/-- A sparse table; what an unlisted key reads as is a function of the key, given to every operation. -/
abbrev Tbl (α : Type) := List (Nat × α)

/-- The value at a key: the listed one, else the default of the key. -/
def tget {α : Type} (d : Nat → α) : Tbl α → Nat → α
  | [], k => d k
  | (j, v) :: t, k => if j = k then v else tget d t k

/-- Insert a pair before the first larger key. -/
def tins {α : Type} (k : Nat) (v : α) : Tbl α → Tbl α
  | [] => [(k, v)]
  | (j, w) :: t => if k < j then (k, v) :: (j, w) :: t else (j, w) :: tins k v t

/-- The table without a key. -/
def tdel {α : Type} (k : Nat) (t : Tbl α) : Tbl α := t.filter (fun p => p.1 != k)

/-- Write a value; writing what an unlisted key reads as removes the entry. -/
def tset {α : Type} [DecidableEq α] (d : Nat → α) (t : Tbl α) (k : Nat) (v : α) : Tbl α :=
  if v = d k then tdel k t else tins k v (tdel k t)

/-- The canonical form. -/
def twf {α : Type} [DecidableEq α] (d : Nat → α) (t : Tbl α) : Bool :=
  decide (t.Pairwise (fun a b => a.1 < b.1)) && t.all (fun p => p.2 != d p.1)

/-- Write `vs` at keys k, k + 1, … -/
def tsetMany {α : Type} [DecidableEq α] (d : Nat → α) (t : Tbl α) (k : Nat) : List α → Tbl α
  | [] => t
  | v :: vs => tsetMany d (tset d t k v) (k + 1) vs

/-- Read n values at keys k, k + 1, … -/
def tgetMany {α : Type} (d : Nat → α) (t : Tbl α) (k : Nat) : Nat → List α
  | 0 => []
  | n + 1 => tget d t k :: tgetMany d t (k + 1) n

/-- Memory: bytes by address. -/
abbrev Memory := List Host.Cell

/-- What a byte of memory that nothing has written reads as (DESIGN CHOICE, log entry 3). -/
def memDefault : Nat → Byte := fun _ => 0

/-- Read one byte. -/
def Memory.byte (m : Memory) (a : Nat) : Byte := tget memDefault m a

/-- Write one byte. -/
def Memory.setByte (m : Memory) (a : Nat) (b : Byte) : Memory := tset memDefault m a b

/-- Read n bytes. -/
def Memory.read (m : Memory) (a n : Nat) : List Byte := tgetMany memDefault m a n

/-- Write bytes. -/
def Memory.write (m : Memory) (a : Nat) (bs : List Byte) : Memory := tsetMany memDefault m a bs

/-- The canonical form of a memory. -/
abbrev Memory.wf (m : Memory) : Bool := twf memDefault m

/-- Little-endian value of a list of bytes. -/
def leNat : List Byte → Nat
  | [] => 0
  | b :: bs => b.toNat + 256 * leNat bs

/-- The n little-endian bytes of a value. -/
def leBytes : Nat → Nat → List Byte
  | 0, _ => []
  | n + 1, v => BitVec.ofNat 8 v :: leBytes n (v / 256)

/-- The n big-endian bytes of a value (most significant byte first, R180, R186). -/
def beBytes (n v : Nat) : List Byte := (leBytes n v).reverse

/-- Big-endian value of a list of bytes. -/
def beNat (bs : List Byte) : Nat := leNat bs.reverse

/-- Bits [lo + w - 1 : lo] of a number. -/
def bitsOf (x lo w : Nat) : Nat := x / 2 ^ lo % 2 ^ w

/-- One bit of a number. -/
def bitOf (x i : Nat) : Bool := x / 2 ^ i % 2 == 1

/-- A Bool as 0 or 1. -/
def b2n (b : Bool) : Nat := if b then 1 else 0

/-- The value of a two's-complement field of w bits. -/
def signed (w x : Nat) : Int := if x % 2 ^ w < 2 ^ (w - 1) then (x % 2 ^ w : Nat) else (x % 2 ^ w : Nat) - (2 : Int) ^ w

/-- The w-bit two's-complement image of an integer. -/
def unsignedOf (w : Nat) (i : Int) : Nat := (i % (2 : Int) ^ w).toNat

/-- ceil (a / b). -/
def ceilDiv (a b : Nat) : Nat := (a + b - 1) / b

end Sys2Proof.Machine
end

