-- ==== Sys2Proof/Machine/Fec.lean ====
section
/-! DEFINITION. The RS(544,514) code of IEEE 802.3 Clause 91 (R179): symbols of 10 bits, a field with the polynomial
x^10 + x^3 + 1, the generator with the roots 1, a, …, a^29 (PRESUMED from the standard that R179 names, log entry 114). -/

namespace Sys2Proof.Machine

/-- A field element times a. -/
def gfStep (x : Nat) : Nat := if x < 512 then 2 * x else (2 * x) ^^^ 0x409

/-- The product of x and the n low bits of y. -/
def gfMulN : Nat → Nat → Nat → Nat
  | 0, _, _ => 0
  | n + 1, x, y => (if y % 2 = 1 then x else 0) ^^^ gfMulN n (gfStep x) (y / 2)

/-- The product of two field elements. -/
def gfMul (x y : Nat) : Nat := gfMulN 10 x y

/-- x to the power of 2^n - 1. -/
def gfPowOnes : Nat → Nat → Nat
  | 0, _ => 1
  | n + 1, x => gfMul x (gfPowOnes n (gfMul x x))

/-- The inverse of a field element other than 0: x^1022. -/
def gfInv (x : Nat) : Nat := let y := gfPowOnes 9 x; gfMul y y

/-- The n first powers of x, from the one given. -/
def gfPowers (x : Nat) : Nat → Nat → List Nat
  | 0, _ => []
  | n + 1, p => p :: gfPowers x n (gfMul p x)

/-- A polynomial times (x + r), lowest coefficient first. -/
def gfTimesRoot (r : Nat) (p : List Nat) : List Nat := List.zipWith (· ^^^ ·) (0 :: p) (p.map (gfMul r) ++ [0])

/-- The generator, lowest coefficient first. -/
def rsGen : List Nat := (gfPowers 2 30 1).foldl (fun p r => gfTimesRoot r p) [1]

/-- One message symbol into the 30 symbols of the remainder, highest first. -/
def rsShift (g rem : List Nat) (m : Nat) : List Nat :=
  let c := m ^^^ rem.headD 0
  List.zipWith (fun x y => x ^^^ gfMul c y) (rem.drop 1 ++ [0]) g

/-- A codeword: 514 message symbols in the order sent, and the 30 symbols of parity. -/
def rsEncode (m : List Nat) : List Nat :=
  let g := (rsGen.take 30).reverse
  m ++ m.foldl (rsShift g) (List.replicate 30 0)

/-- The value of a polynomial, highest coefficient first. -/
def gfEval (p : List Nat) (x : Nat) : Nat := p.foldl (fun v c => gfMul v x ^^^ c) 0

/-- The 30 syndromes of a received word. -/
def rsSyndromes (w : List Nat) : List Nat := (gfPowers 2 30 1).map (gfEval w)

/-- The shortest recurrence that the syndromes obey so far: its polynomial and length, the one before its last change
with the discrepancy and the age of that change. -/
structure Locator where
  c : List Nat := [1]
  len : Nat := 0
  b : List Nat := [1]
  d : Nat := 1
  age : Nat := 1

/-- Sum of two polynomials, lowest coefficient first. -/
def gfAdd : List Nat → List Nat → List Nat
  | [], q => q
  | p, [] => p
  | x :: p, y :: q => (x ^^^ y) :: gfAdd p q

/-- Take syndrome number n into the recurrence; `past` are the syndromes up to it, newest first. -/
def Locator.next (x : Locator) (n : Nat) (past : List Nat) : Locator :=
  let d := (List.zipWith gfMul x.c (past.take (x.len + 1))).foldl (· ^^^ ·) 0
  if d = 0 then { x with age := x.age + 1 }
  else
    let c := gfAdd x.c (List.replicate x.age 0 ++ x.b.map (gfMul (gfMul d (gfInv x.d))))
    if 2 * x.len ≤ n then { c := c, len := n + 1 - x.len, b := x.c, d := d, age := 1 }
    else { x with c := c, age := x.age + 1 }

/-- The recurrence of a list of syndromes. -/
def locate : List Nat → Nat → List Nat → Locator → Locator
  | [], _, _, x => x
  | s :: t, n, past, x => locate t (n + 1) (s :: past) (x.next n (s :: past))

/-- The first n coefficients of the product of two polynomials, lowest first. -/
def gfMulLow (n : Nat) (p q : List Nat) : List Nat :=
  (List.range n).map (fun k => ((List.range (k + 1)).map (fun i => gfMul (p.getD i 0) (q.getD (k - i) 0))).foldl (· ^^^ ·) 0)

/-- The formal derivative of a polynomial, lowest coefficient first: each odd coefficient moves down by one place. -/
def gfDeriv (p : List Nat) : List Nat := (List.range (p.length - 1)).map (fun i => if i % 2 = 0 then p.getD (i + 1) 0 else 0)

/-- The error of a symbol: w and c are the evaluator and the locator, x the inverse of the symbol's place a^k. -/
def rsValue (w c : List Nat) (x : Nat) : Nat :=
  gfMul (gfInv x) (gfMul (gfEval w.reverse x) (gfInv (gfEval (gfDeriv c).reverse x)))

/-- The symbols in error of a received word of 544 symbols: the place of each, in the order sent, and what to add to it;
none where the decoder finds the word uncorrectable: it corrects up to 15 symbols. -/
def rsErrors (w : List Nat) : Option (List (Nat × Nat)) :=
  let s := rsSyndromes w
  if s.all (· == 0) then some []
  else
    let x := locate s 0 [] {}
    let pw := gfPowers (gfInv 2) 544 1
    let at_ := pw.map (gfEval x.c.reverse)
    let bad := (List.range 544).filter (fun i => at_.getD (543 - i) 1 == 0)
    if x.len ≤ 15 ∧ bad.length = x.len then
      some (bad.map (fun i => (i, rsValue (gfMulLow x.len x.c s) x.c (pw.getD (543 - i) 1))))
    else none

/-- A received word with its errors taken out (R179). -/
def rsFix (w : List Nat) (es : List (Nat × Nat)) : List Nat := es.foldl (fun w e => w.set e.1 (w.getD e.1 0 ^^^ e.2)) w

/-- The bits of a list of symbols, the first bit lowest. -/
def symbolBits (w : List Nat) : Nat := w.foldr (fun x v => x % 1024 + 1024 * v) 0

/-- n symbols of a string of bits, the first bit lowest. -/
def symbolsOf (n v : Nat) : List Nat := (List.range n).map (fun i => v / 2 ^ (10 * i) % 1024)

/-- The symbols of a codeword that go to one of n lanes: they are dealt out in turn (R179). -/
def laneSymbols (w : List Nat) (n l : Nat) : List Nat :=
  (List.range (w.length / n)).map (fun j => w.getD (n * j + l) 0)

end Sys2Proof.Machine
end

