-- ==== Sys2Proof/Machine/RegMap.lean ====
section
/-! DEFINITION. The register map (17_address_map.md, R417 to R425) and the field maps of every block: one row per
register, with its Reset column, its fields and their access types (Table SCP-6). Addresses are those of the
Krasesta's BAR0; the CTSU window lies at 0x010_0000 there (R421), and the window of a die's block is held at the same
place. -/

namespace Sys2Proof.Machine

/-- How a field answers a write from the register port (Table SCP-6). -/
inductive Acc where
  /-- RO: a write is ignored. -/
  | ro
  /-- RW with a stated range min..max: a port write outside leaves the field unchanged (R345). -/
  | rw (min max : Nat)
  /-- RW whose range binds an image only (R345): a port write takes any value. -/
  | rwi (min max : Nat)
  /-- RW, signed, magnitude at most lim: a port write outside leaves the field unchanged. -/
  | rwS (lim : Nat)
  /-- RO, a fused signed value of magnitude at most lim. -/
  | roS (lim : Nat)
  /-- RO, a fused value in the range min..max. -/
  | roR (min max : Nat)
  /-- RO, set by the structure image in the range min..max ("structure image" in the Reset column). -/
  | img (min max : Nat)
  /-- W1C. -/
  | w1c
  /-- WO: reads 0. -/
  | wo
  /-- RC: a read clears it. -/
  | rc
  deriving DecidableEq, Repr

/-- One field of a register: its lowest bit, its width and its access. -/
structure Fd where
  lo : Nat
  w : Nat
  acc : Acc
  deriving DecidableEq, Repr

/-- What besides the access type binds a register-port write. -/
inductive Lock where
  | none
  /-- Marked "plan": ignored with CFG_LOCKED while leaps are armed; otherwise sets PLAN_EDITED (R130, R355). -/
  | plan
  /-- A manifest register (R224): as plan, and locked while a spawn is armed. -/
  | manifest
  /-- Locked while leaps are armed, not a plan register (BULK_BASE by R212, the SENT registers by R340). -/
  | armed
  /-- RWS: kept through a sub-block reset (Table SCP-6). -/
  | rws
  deriving DecidableEq, Repr

/-- The parts that have the register (R420). -/
inductive Only where
  | both | kras | die
  deriving DecidableEq, Repr

/-- One row of a register map: offset, up to two index ranges with their strides, reset word, fields, lock, place in
a wide register (word i of n), and the parts that have it. -/
structure RRow where
  ofs : Nat
  reset : Nat := 0
  fds : List Fd := []
  n1 : Nat := 1
  s1 : Nat := 4
  n2 : Nat := 1
  s2 : Nat := 4
  lock : Lock := .none
  wi : Nat := 0
  wn : Nat := 1
  only : Only := .both
  fused : Bool := false
  deriving DecidableEq, Repr

/-- A full RW field. -/
def fRW (lo w : Nat) : Fd := ⟨lo, w, .rw 0 (2 ^ w - 1)⟩
/-- An RW field with a range. -/
def fR (lo w mn mx : Nat) : Fd := ⟨lo, w, .rw mn mx⟩
/-- An RO field. -/
def fRO (lo w : Nat) : Fd := ⟨lo, w, .ro⟩
/-- A W1C field. -/
def fC (lo w : Nat) : Fd := ⟨lo, w, .w1c⟩
/-- A field of the structure image. -/
def fImg (lo w mn mx : Nat) : Fd := ⟨lo, w, .img mn mx⟩
/-- A whole RO word. -/
def ro32 : List Fd := [fRO 0 32]
/-- A whole RW word. -/
def rw32 : List Fd := [fRW 0 32]

/-- A row of plain words. -/
def row (ofs : Nat) (fds : List Fd) (reset : Nat := 0) (lock : Lock := .none) (only : Only := .both) : RRow :=
  { ofs := ofs, fds := fds, reset := reset, lock := lock, only := only }
/-- A row of an array. -/
def arr (ofs n s : Nat) (fds : List Fd) (reset : Nat := 0) (lock : Lock := .none) (only : Only := .both) : RRow :=
  { ofs := ofs, fds := fds, reset := reset, n1 := n, s1 := s, lock := lock, only := only }
/-- The words of a wide register, ascending. -/
def wide (ofs : Nat) (ws : List (List Fd × Nat)) (lock : Lock := .none) (n : Nat := 1) (s : Nat := 4)
    (only : Only := .both) : List RRow :=
  ws.zipIdx.map (fun p =>
    { ofs := ofs + 4 * p.2, fds := p.1.1, reset := p.1.2, n1 := n, s1 := s, lock := lock, wi := p.2,
      wn := ws.length, only := only })

/-- n RO words of a wide register. -/
def wideRO (ofs k : Nat) (n : Nat := 1) (s : Nat := 4) (only : Only := .both) : List RRow :=
  wide ofs (List.replicate k (ro32, 0)) .none n s only
/-- n RW words of a wide register. -/
def wideRW (ofs k : Nat) (lock : Lock := .none) (n : Nat := 1) (s : Nat := 4) : List RRow :=
  wide ofs (List.replicate k (rw32, 0)) lock n s

/-- A counter reference (READY_SEL layout, Table LEP-13): COUNTER 0 to 47. -/
def fSel : List Fd := [fRW 8 8, fR 0 6 0 47]

/-! ### Blocks of the CTSU window (Tables MAP-2 to MAP-9) -/

/-- ID (Table BLK-7). -/
def blkId : List RRow := [
  row 0x000 ro32 0x00020000, row 0x004 [fRO 16 4, fRO 8 6, fRO 0 8], row 0x008 [fC 3 3, fRO 0 3],
  row 0x00C [fRO 0 16], row 0x010 [fRW 0 2] 0 .none .die]

/-- GECKO (Table FLT-11). -/
def blkGecko : List RRow := [
  row 0x000 [fRO 0 11], row 0x004 [fRO 8 1, fC 0 8], row 0x008 [fRW 0 9], row 0x00C [⟨0, 3, .wo⟩],
  row 0x010 [⟨0, 11, .wo⟩], row 0x014 [fRO 0 11], row 0x018 [fRW 8 8, ⟨0, 6, .rwi 0 47⟩], row 0x01C [⟨0, 32, .wo⟩]]
  ++ wideRO 0x020 4 ++ [row 0x030 [⟨31, 1, .wo⟩, ⟨0, 7, .wo⟩], row 0x034 [⟨0, 7, .wo⟩],
  row 0x038 [fRO 31 1, fRO 0 6], row 0x03C ro32] ++ wideRW 0x040 2 .rws ++ wideRO 0x100 4 64 0x10

/-- INT (Table HST-10). -/
def blkInt : List RRow := [
  row 0x000 ro32 1, row 0x004 [⟨0, 1, .wo⟩], arr 0x8000 3 4 ro32 0 .none .kras, arr 0x8010 3 4 ro32 0 .none .kras,
  row 0x8020 [fRO 0 6] 0 .none .kras]

/-- TIME (Tables HTM-10 to HTM-18). -/
def blkTime : List RRow := wideRO 0x000 3 ++ wide 0x010 [(rw32, 0), ([fRW 0 16], 0x100)] ++ [
  row 0x018 [fRO 0 9] 0x20, row 0x01C [fR 16 8 5 255, fR 0 16 100 65535] 0x001407D0]
  ++ wide 0x020 [(ro32, 0), ([fRO 0 16], 0)] ++ [
  row 0x028 ro32, { ofs := 0x02C, fds := [⟨0, 32, .rwS 100000⟩] }, row 0x030 [fC 0 9],
  row 0x034 [fRW 0 9], row 0x038 ro32, row 0x03C ro32, row 0x040 [⟨0, 1, .wo⟩]]
  ++ wide 0x044 [(rw32, 0), ([fRW 0 16], 0)] ++ [
  { ofs := 0x8000, fds := [⟨0, 32, .rwS 100000⟩], n1 := 18, s1 := 0x10, n2 := 4, s2 := 4, only := .kras },
  { ofs := 0x8200, fds := ro32, n1 := 18, s1 := 0x10, n2 := 4, s2 := 4, only := .kras }]

/-- TDC and TDCX with n channels (Tables HTM-19 to HTM-22). -/
def blkTdc (n : Nat) : List RRow := [row 0x000 [fC 4 n, fC 0 n], row 0x004 [fRW 0 8],
  row 0x008 [fRW 0 8] 0xFF .none .kras,
  arr 0x100 n 0x100 [fRW 16 2, fRW 8 8, fRW 0 8],
  arr 0x104 n 0x100 [fRW 9 1, ⟨8, 1, .wo⟩, ⟨7, 1, .wo⟩, fR 0 5 0 20],
  arr 0x108 n 0x100 [fRO 0 4], arr 0x10C n 0x100 ro32]
  ++ wideRO 0x110 2 n 0x100 ++ wideRO 0x118 2 n 0x100 ++ wideRO 0x120 2 n 0x100 ++ wideRO 0x128 2 n 0x100
  ++ [arr 0x130 n 0x100 ro32, arr 0x134 n 0x100 ro32] ++ wideRO 0x138 2 n 0x100
  ++ [arr 0x140 n 0x100 [fR 0 32 2 1000000000] 0x3B9ACA00]

/-- LEAP (Tables LEP-8 to LEP-14). -/
def blkLeap : List RRow := [
  row 0x000 [fRO 0 16], row 0x004 [⟨0, 5, .wo⟩], row 0x008 [fC 0 14], row 0x00C [fRW 0 14],
  row 0x010 [fRW 24 8, fR 16 6 1 32, fR 0 4 1 1] 0x10010001 .plan, row 0x014 [fRO 0 16] 2,
  row 0x018 rw32 0x1F40 .plan, row 0x01C rw32 0x3E80 .plan]
  ++ wide 0x020 [(rw32, 0xF4240), ([fRW 0 2], 0)] .plan ++ wideRW 0x028 3 ++ wideRW 0x038 2
  ++ wideRO 0x040 2 ++ wideRO 0x048 3 ++ wideRO 0x058 2 ++ [row 0x060 [fRO 0 8], row 0x064 ro32 0xFFFFFFFF]
  ++ wide 0x068 [(rw32, 0xFFFFFFFF), (rw32, 0xFFFFFFFF)] .rws ++ wideRO 0x070 2 ++ [
  row 0x078 fSel 0 .plan, row 0x07C rw32 0 .plan, row 0x080 rw32 0 .plan, row 0x084 ro32,
  row 0x088 (fRW 31 1 :: fSel) 0 .plan, row 0x08C rw32 0 .plan, row 0x090 rw32 0 .plan, row 0x094 ro32,
  row 0x098 [fRO 31 1, fRO 24 4, fRO 0 20], row 0x09C ro32] ++ wideRW 0x0A0 3
  ++ [row 0x0AC [⟨9, 1, .wo⟩, ⟨8, 1, .wo⟩, fRW 0 4]] ++ wideRW 0x100 2 .plan 16 0x10
  ++ [arr 0x108 16 0x10 [fRW 31 1, fRW 0 4] 0 .plan]

/-- REGION (Tables REG-5, REG-6). -/
def blkRegion : List RRow := [row 0x000 [fImg 16 16 0 65535, fRO 0 7], row 0x004 [fRO 0 8], row 0x008 [fC 0 2],
  row 0x00C [fRW 0 2]] ++ wideRO 0x010 3 ++ [arr 0x100 64 4 ro32, arr 0x200 64 4 ro32, arr 0x300 64 8 ro32,
  arr 0x304 64 8 [fRO 0 16]]

/-- COUNTER array (Tables CNT-8, CNT-9). -/
def blkCounter : List RRow := [
  { ofs := 0, fds := ro32, n1 := 256, s1 := 0x100, n2 := 48, s2 := 4 }] ++ wideRO 0xC0 2 256 0x100
  ++ wideRO 0xC8 2 256 0x100

/-- WATCH (Tables CNT-10 to CNT-14). -/
def blkWatch : List RRow := [row 0x000 [⟨0, 1, .wo⟩], row 0x004 [fRO 0 4], row 0x008 [fC 0 12], row 0x00C [fRW 0 12],
  row 0x010 ro32, arr 0x020 9 4 ro32, row 0x044 ro32] ++ wideRO 0x050 4 ++ [
  arr 0x060 8 4 [fC 0 32], arr 0x100 256 4 [fRO 0 8],
  arr 0x1000 256 8 [fRW 31 1, fRW 20 8, fR 14 6 0 47, fRW 6 8, fR 0 6 0 47] 0 .plan,
  arr 0x1004 256 8 rw32 0 .plan,
  { ofs := 0x2000, fds := ro32, n1 := 256, s1 := 0x40, n2 := 8, s2 := 8 },
  { ofs := 0x2004, fds := ro32, n1 := 256, s1 := 0x40, n2 := 8, s2 := 8 }]

/-- BARRIER (Tables BRS-8 to BRS-12). -/
def blkBarrier : List RRow := [row 0x000 [fC 0 5], row 0x004 [fRW 0 5],
  row 0x008 [fRW 31 1, fR 0 31 1000 2147483647] 0x800186A0, row 0x00C [fC 31 1, fRO 0 5], arr 0x010 6 4 ro32,
  row 0x040 [fC 31 1, fRO 30 1, fRO 0 8], row 0x044 ro32, arr 0x048 8 4 ro32,
  arr 0x100 16 0x10 [fRW 31 1, fRW 0 12] 0 .plan, arr 0x104 16 0x10 rw32 0 .plan, arr 0x108 16 0x10 [fRO 0 29]]
  ++ wideRO 0x400 4 16 0x10 ++ [
  arr 0x1000 64 0x10 [fRW 29 3, fRW 0 12] 0 .plan, arr 0x1004 64 0x10 [fR 0 32 0 1000000] 7000 .plan,
  arr 0x1008 64 0x10 rw32 0 .plan, arr 0x100C 64 0x10 [fRO 0 29],
  { ofs := 0x8000, fds := rw32, n1 := 64, s1 := 0x10, n2 := 2, lock := .plan, only := .kras },
  arr 0x8008 64 0x10 [fRW 0 8] 0 .plan .kras,
  { ofs := 0x8400, fds := ro32, n1 := 64, s1 := 0x10, n2 := 3, only := .kras }, arr 0x8800 3 4 ro32 0 .none .kras]

/-- Port registers (Table MAP-7, Tables LNK-13 to LNK-16); WHEEL is held by the port and is not a row here. -/
def blkPort (p : Part) : List RRow := [
  row 0x000 [fImg 24 2 0 3, fImg 20 3 0 4, fImg 0 20 0 0xFFFFF] (if p.isK then 0 else 0x02000000),
  row 0x004 [⟨0, 1, .wo⟩], row 0x008 ro32, row 0x00C [fC 0 10], row 0x010 [fRW 0 10],
  { ofs := 0x014, fds := [if p.isK then ⟨0, 32, .roR 0 1000000⟩ else fR 0 32 0 1000000], n1 := 2, fused := p.isK },
  row 0x01C [fR 0 16 100 65535] 2000] ++ wideRO 0x020 4 ++ [row 0x030 rw32 2125000, arr 0x040 14 4 ro32,
  arr 0x080 4 4 ro32, arr 0x100 8 4 ro32 0 .none .die]

/-- Queue table (Tables TRN-10, TRN-11), at offset 0x2000 of the port registers in a Krasesta. -/
def blkQueue (p : Part) : List RRow := [arr 0x00 64 0x40 [fImg 16 16 0 32768, fImg 0 15 0 32767],
  arr 0x04 64 0x40 [fR 30 2 0 (if p.isK then 2 else 1), fRW 16 7, fRW 8 6, fRW 0 4] 0 .plan,
  arr 0x08 64 0x40 rw32 0 .plan, arr 0x0C 64 0x40 [fR 0 21 1 1048576] 1 .plan,
  arr 0x10 64 0x40 (fRW 31 1 :: fSel) 0 .plan, arr 0x14 64 0x40 [fR 30 2 0 2, fRW 0 4] 0 .plan,
  arr 0x18 64 0x40 rw32 0 .plan, arr 0x1C 64 0x40 [fR 0 21 1 1048576] 1 .plan,
  arr 0x20 64 0x40 (fRW 31 1 :: fSel) 0 .plan, arr 0x24 64 0x40 (fRW 31 1 :: fSel) 0 .plan,
  arr 0x28 64 0x40 ro32, arr 0x2C 64 0x40 ro32, arr 0x30 64 0x40 ro32]

/-- QUEUE, the spawn and address registers (Tables TRN-6 to TRN-9). -/
def blkSpawn : List RRow := [row 0x000 [fC 0 10], row 0x004 [fRW 0 10], row 0x008 [⟨0, 2, .wo⟩], row 0x00C [fRO 0 6],
  row 0x010 [fRW 0 16] 0 .manifest, row 0x014 [⟨0, 24, .rwi 1 16777215⟩] 1 .manifest,
  row 0x018 [⟨0, 32, .rwi 1 1048576⟩] 0x100000 .manifest, row 0x01C [fRW 0 24] 0 .manifest,
  row 0x020 [fRW 0 24] 0 .manifest, row 0x024 [fRW 0 4] 0 .manifest .die, row 0x028 rw32 0 .manifest .die,
  row 0x024 [⟨0, 4, .rw 0 0⟩] 0 .manifest .kras, row 0x028 [⟨0, 32, .rw 0 0⟩] 0 .manifest .kras,
  arr 0x02C 3 4 [fRO 0 24] 0xFFFFFF, arr 0x040 7 4 ro32]
  ++ wide 0x100 [([fRW 8 24], 0), ([fRW 0 20], 0)] .armed 16 8 .die ++ [
  row 0x8000 [fImg 0 20 0 0xFFFFF] 0 .none .kras, row 0x8004 [fImg 0 24 0 0xFFFFFF] 0 .none .kras,
  arr 0x8100 16 8 [fImg 0 20 0 0xFFFFF] 0 .none .kras, arr 0x8104 16 8 [fImg 0 20 0 0xFFFFF] 0 .none .kras,
  arr 0x8200 72 4 [fRO 0 24] 0xFFFFFF .none .kras]

/-- FAULT (Tables FLT-12 to FLT-14). -/
def blkFault : List RRow := [row 0x000 [fRO 4 5, fRO 0 3], row 0x004 [fC 0 3], row 0x008 [fRW 0 3],
  row 0x00C [⟨0, 1, .wo⟩], row 0x010 [fRO 28 4], row 0x020 [fC 31 1, fRO 0 24]] ++ wideRO 0x024 2
  ++ [row 0x02C ro32, row 0x030 ro32] ++ wide 0x040 [(ro32, 0), ([fRO 0 16], 0)] .none 16 8
  ++ [{ ofs := 0x400, fds := ro32, n1 := 64, s1 := 0x10, n2 := 4 },
  arr 0x1000 256 4 [fRW 0 8] 0 .none .die] ++ wideRO 0x2000 4 16 0x10 ++ [row 0x2100 [fRO 0 4]]

/-- CFG (Tables IMG-10, IMG-11). -/
def blkCfg : List RRow := [row 0x000 [fRO 31 1, fImg 0 20 0 0xFFFFF], row 0x004 [fRO 0 12], row 0x008 [⟨0, 4, .wo⟩],
  row 0x00C [fC 0 5] 8, row 0x010 [fRW 0 5]] ++ wide 0x014 [([fRW 6 26], 0), ([fRW 0 20], 0)] .none 1 4 .die
  ++ [row 0x020 ro32, arr 0x024 5 4 ro32]

/-- PERF and PERFX with n counters (Tables HST-11, HST-12); the counts and OVF are held in State.perf. -/
def blkPerf (n : Nat) : List RRow := [row 0x000 [⟨1, 1, .wo⟩, fRW 0 1], row 0x004 [fC 0 n], row 0x008 [fRW 0 n],
  arr 0x100 n 0x20 [fRW 30 2, fRW 16 9, fRW 0 7] 0x7F]
  ++ wide 0x104 [(ro32, 0), ([fRO 0 16], 0)] .none n 0x20 ++ wide 0x10C [(ro32, 0), ([fRO 0 16], 0)] .none n 0x20

/-! ### Blocks of the Krasesta's BAR0 (Tables MAP-10 to MAP-18) -/

/-- GLB (Tables MAP-11, MAP-12). -/
def blkGlb : List RRow := [row 0x000 [fRO 0 8] 0xB1] ++
  (wideRO 0x004 2).map (fun r => { r with fused := true }) ++ [
  row 0x8000 [fRW 2 30], row 0x8004 rw32, row 0x8008 rw32, row 0x800C [fRW 0 1] 1, arr 0x9000 2 4 ro32]

/-- CLOCKROOT (Tables CLK-5 to CLK-20). -/
def blkClk : List RRow := [row 0x000 [fRO 0 10] 0x389, row 0x004 [fRW 0 3] 7, row 0x008 [fRW 0 12] 0xFFF,
  row 0x00C [fR 16 10 1 1000, fR 0 3 0 6] 0x000A0002, row 0x010 [fRO 0 18] 0x8080, row 0x014 [fC 0 12],
  row 0x018 [fRW 0 12], arr 0x020 2 4 [fR 16 16 1 65535, fR 8 8 1 255, fRW 0 2] 0x07D01400,
  arr 0x028 3 4 [fR 16 16 1 65535, fR 8 8 1 255, fRW 0 2] 0x000A1400,
  arr 0x034 2 4 [fR 16 16 1 65535, fR 8 8 1 255, fRW 0 2] 0x00001400,
  row 0x03C [fR 16 16 1 65535, fR 8 8 1 255, fRW 0 2] 0x00001401,
  { ofs := 0x040, fds := [⟨0, 32, .rwS 2048000⟩], fused := true }, { ofs := 0x044, fds := [⟨0, 32, .roS 2048000⟩], fused := true },
  row 0x048 [fRO 0 16]] ++ wide 0x050 [(rw32, 0), ([fRW 0 16], 0)] ++ [row 0x058 [⟨0, 2, .wo⟩], row 0x05C rw32,
  row 0x060 [⟨3, 1, .wo⟩, fRW 0 3], row 0x064 [fR 0 32 100 0xFFFFFFFF] 1000000, row 0x068 rw32,
  row 0x070 [fR 0 20 1 1048575] 100000, row 0x074 [fR 0 20 1 1048575] 100, row 0x078 [fR 0 20 1 1048575] 50]
  ++ wide 0x080 [(ro32, 0), ([fRO 0 16], 0)]

/-- NET (Tables NTM-5 to NTM-8). -/
def blkNet : List RRow := [row 0x000 [fRW 0 4] 2, row 0x004 [fRO 0 2], row 0x008 [fC 1 5], row 0x00C [fRW 0 6]]
  ++ (wide 0x010 [(rw32, 0), ([fRW 0 16], 0)]).map (fun r => { r with fused := true }) ++ [
  { ofs := 0x018, fds := [⟨0, 32, .rwS 100000⟩], n1 := 2, fused := true }, row 0x020 [fRO 0 3], arr 0x030 5 4 ro32]

/-- HOSTIF (Tables HST-8, HST-9). -/
def blkHost : List RRow := [row 0x000 [fRO 6 10, fRO 0 1], row 0x004 [fC 0 15], row 0x008 [fRW 0 15],
  row 0x00C [fR 0 17 500 100000] 10000, row 0x010 [fR 0 12 0 2303], row 0x014 [fRW 0 3], arr 0x018 3 4 ro32]
  ++ wide 0x100 [([fRW 5 27], 0), (rw32, 0)] .none 8 0x20 ++ [arr 0x108 8 0x20 [fR 0 17 2 65536] 2,
  arr 0x10C 8 0x20 [⟨1, 1, .wo⟩, fRW 0 1], arr 0x110 8 0x20 [fRO 0 17], arr 0x114 8 0x20 ro32]

/-- IMG (Tables IMG-12, IMG-13). -/
def blkImg : List RRow := [row 0x000 ro32, { ofs := 0x004, fds := [fRO 0 2], fused := true },
  row 0x008 [fImg 0 20 0 0xFFFFF], row 0x00C [fImg 0 9 0 511], { ofs := 0x010, fds := ro32, n1 := 12, fused := true }]

/-- FAULTX (Tables MAP-15, FLT-15). -/
def blkFaultX : List RRow := [arr 0x000 3 4 ro32, arr 0x010 3 4 ro32, row 0x020 [⟨0, 22, .wo⟩], row 0x024 [fRO 0 22],
  arr 0x100 72 4 [fRO 31 1, fRO 4 4, fRO 0 3], arr 0x300 64 4 ro32, arr 0x2E0 8 4 ro32,
  arr 0x400 2 0x40 [fRW 31 1, fRW 8 7, fRW 0 7],
  { ofs := 0x404, fds := ro32, n1 := 2, s1 := 0x40, n2 := 3 }, arr 0x410 2 0x40 [fRO 0 6],
  row 0x500 [fC 0 4], row 0x504 [fRW 0 4]] ++ wideRO 0x800 4 16 0x10 ++ wideRO 0x900 4 16 0x10 ++ [
  row 0xC00 [fRW 31 1]] ++ wideRW 0xC04 2 .armed ++ [row 0xC0C [fRW 0 22] 0 .armed, row 0xC10 [fRW 0 22] 0 .armed,
  arr 0xC14 4 4 [fRW 0 27] 0 .armed, row 0xC24 rw32 0 .armed, row 0xC28 rw32 50000 .armed, arr 0xC30 4 4 ro32,
  row 0xC40 [fRO 0 7] 0x7F] ++ wide 0x1000 [(ro32, 0), ([fRO 0 16], 0)] .none 32 8

/-- PORT[g] group registers (Table LNK-17). -/
def blkGroup : List RRow := [row 0x000 [fImg 2 1 0 1, fImg 0 2 0 3] 3, row 0x004 [fRO 0 8],
  arr 0x100 8 4 [fRO 27 5, fRO 0 8]]

/-- TILE[t] (Tables TIL-9 to TIL-11). -/
def blkTile : List RRow := [row 0x000 [fRO 0 12] 0x87F, row 0x004 [fC 1 7], row 0x008 [fRW 0 8],
  row 0x00C [fRW 0 22] 0 .plan, row 0x010 [fRW 0 22] 0 .plan, row 0x014 [fRO 0 22], arr 0x018 6 4 ro32,
  row 0x030 [fRO 28 4, fRO 0 22], row 0x034 [fRO 0 27], arr 0x100 64 4 ro32]

/-- STACK[s] (Tables TIL-12, TIL-13). -/
def blkStack (s0 : Bool) : List RRow := [row 0x000 [fRO 0 3], row 0x004 [fC 0 4], row 0x008 [fRW 0 4],
  arr 0x00C 3 4 ro32] ++ wide 0x018 [(ro32, 0), ([fRO 0 8], 0)] ++ [row 0x020 [fRO 0 16]] ++
  (if s0 then [arr 0x1000 66 4 [fR 0 11 0 1024] 0 .plan, row 0x1200 [fRO 0 11]] else [])

/-- PREFIX (Tables PFX-11 to PFX-16). -/
def blkPfx : List RRow := [row 0x00 [fRO 1 6], row 0x04 [⟨0, 5, .wo⟩], row 0x08 [fC 0 10], row 0x0C [fRW 0 10],
  row 0x10 [fRW 0 24], row 0x14 rw32] ++ wideRW 0x18 2 .plan ++ [row 0x20 [fRW 16 6, fRW 8 6, fRW 0 6] 0 .plan,
  row 0x24 [fRW 0 17] 0 .plan, row 0x28 [⟨0, 17, .rwi 0 65536⟩] 0 .plan, row 0x2C [fRW 31 1, fRW 0 12] 0 .plan,
  row 0x30 rw32 0 .plan, arr 0x40 8 4 ro32, row 0x60 ro32,
  arr 0x10000 4096 0x40 [fRO 16 12, fRO 3 2, fRO 0 2],
  arr 0x10004 4096 0x40 [fRW 20 12, fRW 12 8, fRW 6 6, fRW 4 2, fRW 0 2], arr 0x10008 4096 0x40 [fRW 0 28],
  arr 0x1000C 4096 0x40 rw32, arr 0x10010 4096 0x40 [fRO 0 27]]
  ++ wideRO 0x10014 2 4096 0x40 ++ wide 0x1001C [(ro32, 0xFFFFFFFF), (ro32, 0x7FFFFFFF)] .none 4096 0x40 ++ [
  arr 0x10024 4096 0x40 ro32,
  arr 0x50000 1024 0x10 [fRW 31 1, fR 28 3 0 6, fRW 26 2, fRW 24 2, fRW 23 1, fRW 0 12] 0 .plan,
  arr 0x50004 1024 0x10 rw32 0 .plan, arr 0x50008 1024 0x10 [fRW 16 16, fR 0 8 1 255] 0 .plan,
  arr 0x5000C 1024 0x10 ro32, arr 0x60000 65536 8 [fRO 31 1, fRO 0 28], arr 0x60004 65536 8 [fRO 0 27]]

/-- REGIONX (Tables REG-7, REG-8). -/
def blkRgx : List RRow := [row 0x000 [fRO 31 1, fRO 0 16] 2000, row 0x004 [fC 0 6], row 0x008 [fRW 0 6],
  row 0x00C [fImg 0 16 300 1800] 1800, row 0x010 [fImg 0 8 70 105] 100, row 0x014 [fRO 0 16],
  row 0x018 [⟨0, 16, .rc⟩], arr 0x100 9 0x10 [fRO 28 4, fRO 0 16] 1500, row 0x190 [fRO 28 4, fRO 0 16] 1600,
  row 0x1A0 [fRO 28 4, fRO 0 16] 1000, row 0x1B0 [fRO 28 4, fRO 0 16] 1250,
  arr 0x104 12 0x10 [fRO 0 24], arr 0x108 12 0x10 [fRW 31 1, fRW 0 16] 1500, arr 0x10C 12 0x10 [fRW 0 16] 750,
  { ofs := 0x200, fds := [fImg 16 16 0 65535, fImg 0 16 0 65535], n1 := 16, s1 := 0x40, n2 := 9 },
  arr 0x224 16 0x40 [fImg 0 16 0 65535]]

/-- TILE_MAP (Table TIL-11). -/
def blkTileMap : List RRow := [arr 0 64 4 [fR 0 7 0 71]]

/-! ### Finding the row of an address -/

/-- Is an offset within an index range, and with what remainder? -/
def RRow.covers (r : RRow) (o : Nat) : Bool :=
  decide (r.ofs ≤ o) &&
    (let d := o - r.ofs
     if r.n2 = 1 then d % r.s1 == 0 && decide (d / r.s1 < r.n1)
     else decide (d / r.s1 < r.n1) && (d % r.s1) % r.s2 == 0 && decide (d % r.s1 / r.s2 < r.n2))

/-- The block of a CTSU window offset: its rows and the offset of the block (Table MAP-1). In a Krasesta the TIME block
serves its extension where the TDC block would lie (R95, R96; DESIGN CHOICE, log entry 117). -/
def windowBlock (p : Part) (o : Nat) : List RRow × Nat :=
  if o < 0x1000 then (blkId, 0)
  else if o < 0x2000 then (blkGecko, 0x1000)
  else if o < 0x10000 then (blkInt, 0x2000)
  else if o < 0x18000 then (blkTime, 0x10000)
  else if o < 0x18400 ∧ ¬ p.isK then (blkTdc 1, 0x18000)
  else if o < 0x20000 then (blkTime, 0x10000)
  else if o < 0x30000 then (blkLeap, 0x20000)
  else if o < 0x40000 then (blkRegion, 0x30000)
  else if o < 0x50000 then (blkCounter, 0x40000)
  else if o < 0x60000 then (blkWatch, 0x50000)
  else if o < 0x70000 then (blkBarrier, 0x60000)
  else if o < 0x80000 then ([], 0x70000)
  else if o < 0x90000 then (if p.isK then [] else blkPort p, 0x80000)
  else if 0x92000 ≤ o ∧ o < 0x93000 then (if p.isK then [] else blkQueue p, 0x92000)
  else if o < 0xA0000 then (blkSpawn, 0x90000)
  else if o < 0xB0000 then (blkFault, 0xA0000)
  else if o < 0xC0000 then (blkCfg, 0xB0000)
  else if o < 0xD0000 then (blkPerf 16, 0xC0000)
  else ([], 0xD0000)

/-- The block of a port group offset (R200): group registers, then the port registers at 0x8000 × (s + 1), each with
its queue table at 0x2000 (R224). -/
def groupBlock (p : Part) (o : Nat) : List RRow × Nat :=
  if o < 0x8000 then (blkGroup, 0)
  else
    let b := o / 0x8000 * 0x8000
    if b > 0x20000 then ([], b)
    else if o - b < 0x2000 then (blkPort p, b)
    else if o - b < 0x3000 then (blkQueue p, b + 0x2000) else ([], b)

/-- The block of a BAR0 address, and where it begins (Table MAP-10). -/
def blockOf (p : Part) (a : Nat) : List RRow × Nat :=
  if 0x100000 ≤ a ∧ a < 0x200000 then
    let r := windowBlock p (a - 0x100000)
    (r.1, r.2 + 0x100000)
  else if ¬ p.isK then ([], 0)
  else if a < 0x100000 then (blkGlb, 0)
  else if a < 0x300000 then (blkClk, 0x200000)
  else if a < 0x400000 then (blkTdc 4, 0x300000)
  else if a < 0x500000 then (blkNet, 0x400000)
  else if a < 0x600000 then (blkHost, 0x500000)
  else if a < 0x700000 then (blkImg, 0x600000)
  else if a < 0x800000 then (blkFaultX, 0x700000)
  else if a < 0x900000 then (blkPerf 32, 0x800000)
  else if a < 0x1000000 then ([], 0)
  else if a < 0x1480000 then
    let g := 0x1000000 + (a - 0x1000000) / 0x40000 * 0x40000
    let r := groupBlock p (a - g)
    (r.1, r.2 + g)
  else if a < 0x2000000 then ([], 0)
  else if a < 0x2900000 then (blkTile, 0x2000000 + (a - 0x2000000) / 0x20000 * 0x20000)
  else if a < 0x2F00000 then ([], 0)
  else if a < 0x3000000 then (blkTileMap, 0x2F00000)
  else if a < 0x3400000 then (blkPfx, 0x3000000)
  else if a < 0x3460000 then (blkStack (a < 0x3410000), 0x3400000 + (a - 0x3400000) / 0x10000 * 0x10000)
  else if a < 0x3800000 then ([], 0)
  else if a < 0x4000000 then (blkRgx, 0x3800000)
  else ([], 0)

/-- The part has the register (R420). -/
def Only.has : Only → Part → Bool
  | .both, _ => true
  | .kras, p => p.isK
  | .die, p => !p.isK

/-- The row of an address; none where no register lies (R420). -/
def regRow (p : Part) (a : Nat) : Option RRow :=
  if a % 4 = 0 then
    let b := blockOf p a
    if a < b.2 then none else b.1.find? (fun r => r.covers (a - b.2) && r.only.has p)
  else none

/-- The Reset value of the registers that the parameters set (R390, R311). -/
def paramReset (p : Part) (a : Nat) : Option Nat :=
  if a = 0x100004 then
    some (match p with
      | .krasesta => 0x00000B3F
      | .die c r m => m.toNat * 65536 + r.toNat * 256 + c.toNat)
  else if a = 0x130000 then some p.numRegions
  else if p.isK && decide (0x3800104 ≤ a) && decide (a < 0x38001C4) && a % 16 == 4 then some (Config.vf 1500 % 2 ^ 16)
  else none

/-- A field of a fused word: some value within the range that its field map states (R437). -/
def Fd.fit (fd : Fd) (x : Nat) : Nat :=
  match fd.acc with
  | .rwS lim | .roS lim => unsignedOf fd.w ((x % (2 * lim + 1) : Nat) - (lim : Int))
  | .rw mn mx | .roR mn mx => mn + x % (mx - mn + 1)
  | _ => x % 2 ^ fd.w

/-- A fused word: every field within its range, every reserved bit 0 (R12, R437). -/
def fusedWord (fds : List Fd) (x : Word) : Word :=
  BitVec.ofNat 32 (fds.foldl (fun w fd => w + fd.fit (bitsOf x.toNat fd.lo fd.w) * 2 ^ fd.lo) 0)

/-- Where the fused word of a register stands: OVEN_TUNE and HOLD_TUNE hold the one calibration value (Table CLK-14). -/
def fuseAt (a : Nat) : Nat := if a = 0x200044 then 0x200040 else a

/-- The Reset column as a word: what a register holds that nothing has written since its reset. -/
def regReset (p : Part) (a : Nat) : Word :=
  match paramReset p a with
  | some v => BitVec.ofNat 32 v
  | none =>
    match regRow p a with
    | none => 0
    | some r => if r.fused then fusedWord r.fds (Config.fuse (fuseAt a)) else BitVec.ofNat 32 r.reset

end Sys2Proof.Machine
end

