-- ==== Sys2Proof/Machine/Parts.lean ====
section
/-! DEFINITION. The structured pieces of state that no plain register of the map holds: node state, supplies and
resets, the pulse generator, the time servo and its exchanges, and the measurement channels. -/

namespace Sys2Proof.Machine

/-- The node states of Table MDL-6, with the codes of Table LNK-6 (0 TADPOLE). -/
inductive NodeState where
  | tadpole | armed | live | chorus | running | stopped | fenced
  deriving DecidableEq, Repr

/-- The code of a state in CFG_STATUS.NODE_STATE, GK_STATE, croaks and identity records. -/
def NodeState.code : NodeState → Nat
  | .tadpole => 0 | .armed => 1 | .live => 2 | .chorus => 3 | .running => 4 | .stopped => 5 | .fenced => 6

/-- The present register-clock cycle (R13, R408, R417): what the commands between two idle steps share (log entry 4). -/
structure Beat where
  /-- Cycles of 1 ns counted since power-up. -/
  n : Nat := 0
  /-- Register words and hall time as the cycle began; a word that a port write has changed in it stands as written. -/
  regs : Tbl Word := []
  time : Nat := 0
  /-- The event counters with their copies, the pulse generator and the age of the time shadow as the cycle began (R417). -/
  cnt : Tbl Nat := []
  last : Tbl Nat := []
  gen : Nat := 0
  age : Nat := 0
  /-- Bits, by address, that hardware has set in it. -/
  hard : Tbl Nat := []
  /-- The highest PWR_IN of it (R12). -/
  peak : Nat := 0
  deriving DecidableEq, Repr

/-- Supplies and block resets (R37, R429, R410, R412). -/
structure Power where
  /-- 12V_SB in range: the gecko island is up. -/
  standby : Bool := true
  /-- 48V_IN in range and the converters of the regions on. -/
  main : Bool := true
  /-- 48V_IN has failed since the last standby power-up (R429, third row). -/
  mainFault : Bool := false
  /-- The oven heater is powered. -/
  heating : Bool := true
  /-- The converters of regions 0 to 11 are on (R300, R429). -/
  converters : Bool := true
  /-- The block resets now asserted (R409): RST_TIME_N, RST_LINK_N, RST_CORE_N, RST_REG_N as 0 to 3. -/
  rstOn : List Nat := []
  /-- The AON_CLK cycle, counted from the first release, of each deassertion since all four were asserted. -/
  rstRel : List Nat := []
  /-- The block is held in reset (R410). -/
  held : Bool := false
  /-- A reset has been released since LCLK_FAULT was set (R393). -/
  released : Bool := false
  deriving DecidableEq, Repr

/-- The pulse generator and the three pulse outputs (R62, R63). -/
structure Pulse where
  /-- Generator time, units of 2^-16 ns. -/
  gen : Nat := 0
  /-- The pending alignment boundary, a whole second of hall time (R63), and the cycle of the last alignment. -/
  bound : Option Nat := none
  alignedAt : Option Nat := none
  /-- A of R62: the last alignment boundary in generator time, 2^-16 ns. -/
  base : Option Nat := none
  /-- TICK_PERIOD and TICK_OFFSET in effect, ns. -/
  per : Nat := 1000000
  ofs : Nat := 0
  /-- The next k of TICK_OUT. -/
  k : Nat := 0
  /-- The next whole second of generator time that PPS_OUT marks. -/
  ppsNext : Nat := 1
  /-- Generator times, 2^-16 ns, at which STEP_OUT is due for leaps that have fired. -/
  stepDue : List Nat := []
  /-- The pending launch time for which a generator ahead of hall time has already pulsed STEP_OUT. -/
  ahead : Option Nat := none
  /-- Remaining width, ns, of PPS_OUT, STEP_OUT and TICK_OUT; the pin is high while it is not 0. -/
  pps : Nat := 0
  step : Nat := 0
  tick : Nat := 0
  deriving DecidableEq, Repr

/-- The clock root's runtime (R45 to R60). -/
structure Clk where
  /-- The tuning words of the present lock, newest first, at most 64 s of them (R56). -/
  tunes : List Int := []
  /-- The cycle of the last fault that a monitor has shown, by candidate (R45). -/
  faultAt : Tbl Nat := []
  /-- A candidate that an accepted write of REF_SEL in this cycle names, and REF_SEL before it (R50). -/
  selReq : Option (Nat × Nat) := none
  /-- Candidates unqualified until restart by a dead declaration (Table FLT-1). -/
  deadCand : List Nat := []
  /-- The armed phase step, a 48-bit image (R59), and the 1 ms boundary at which it applies, 2^-16 ns. -/
  pstep : Option Nat := none
  pstepAt : Nat := 0
  /-- The last 1PPS edge of REFIN_A (0) and REFIN_B (1), 1/256 ps. -/
  pps : Tbl (Option Int) := []
  /-- The oven core temperature minus its setpoint as last measured, 1/1,024 °C, and the cycles for which it has stayed
  within ±0.02 °C (R38). -/
  oven : Int := 0
  ovenIn : Nat := 0
  /-- SEL_ACTIVE when UTC_CLAIM was accepted (R107). -/
  claimSel : Nat := 7
  /-- A SEC_ARM is pending, with the whole second at which it applies; leaps have been armed since (R70). -/
  secArm : Option Nat := none
  secBad : Bool := false
  deriving DecidableEq, Repr

/-- The time servo (R78 to R83). -/
structure Servo where
  /-- The first used exchange of the acquisition is still to come (R79). -/
  first : Bool := false
  /-- Used exchanges since acquisition began (R76). -/
  acq : Nat := 0
  /-- Consecutive used exchanges within the lock window, and above the loss threshold. -/
  good : Nat := 0
  bad : Nat := 0
  /-- A SYNC with PSTEP came; the next used offset is judged by R82. -/
  pstepRx : Bool := false
  /-- PSTEP of the last SYNC from the source in use, which is relayed downward. -/
  pstepLast : Bool := false
  /-- The cycle in which PSTEP was last seen or applied here (PSTEP_SEEN, 10 ms). -/
  pstepAt : Option Nat := none
  /-- The integral part of the loop (R78): the sum of w² · offset · interval over the offsets used, with w in µrad/s. -/
  integ : Int := 0
  /-- The bandwidth of a locked servo, mHz (R79). -/
  band : Nat := 0
  deriving DecidableEq, Repr

/-- An open exchange at a child: its SEQ, t1, t2 and t3 (scalars, 2^-16 ns; t3 once its REQ has left), a message of it
came by replay, the cycle of its SYNC, and PORT_ASYM as it stood then (R73, R75, R76). -/
structure OpenEx where
  sq : Nat
  t1 : Nat
  t2 : Nat
  t3 : Option Nat
  replayed : Bool
  at_ : Nat
  asym : Nat
  deriving DecidableEq, Repr

/-- Two-way time transfer at one port (R73 to R76). -/
structure Exch where
  /-- Parent: SEQ of the next SYNC, SEQs that still await their REQ, the cycle of the last SYNC. -/
  seqNext : Nat := 0
  open_ : List Nat := []
  sentAt : Option Nat := none
  /-- Child: the cycle of the last TIME message of the parent (Table CLK-3). -/
  heard : Nat := 0
  /-- Child: the open exchanges, newest first. -/
  opens : List OpenEx := []
  /-- Delays of the last used exchanges, newest first, at most 64, 2^-16 ns. -/
  delays : List Int := []
  deriving DecidableEq, Repr

/-- One measurement channel (R89 to R93). -/
structure Chan where
  /-- The accepted START edge that waits for its STOP, or the previous edge (MODE 1), 1/256 ps. -/
  start : Option Int := none
  /-- CH_SRC as it stood at GO (R91), and N of the block in progress (R92). -/
  src : Nat := 0
  n : Nat := 1
  /-- Exact accumulators of 128 bits and the extremes of the block (R92). -/
  sum : BitVec 128 := 0
  sumsq : BitVec 128 := 0
  min : Int := 0
  max : Int := 0
  bask : Nat := 0
  /-- PHASE_MOD as read at GO. -/
  phaseMod : Nat := 1000000000
  deriving DecidableEq, Repr

/-- Leap launch runtime that no LEAP register holds (R109 to R125). -/
structure Leap where
  /-- The unfenced down ports when this node armed: the children whose votes count (R17). -/
  kids : List Nat := []
  /-- Down ports whose READY for the expected step is recorded (R120). -/
  votes : List Nat := []
  /-- The combined READY for the pending step has been forwarded, or is complete at the root. -/
  upVoted : Bool := false
  /-- The commit step that this node combines next, its own CACK for it, and the ports that have acknowledged it. -/
  combC : Nat := 0
  ownCack : Bool := false
  cacks : List Nat := []
  /-- No further CACK is sent (COMMIT_RANGE, R122). -/
  cackOff : Bool := false
  /-- No vote for the step after the running one (READY_RANGE, R119). -/
  voteOff : Bool := false
  /-- The next leap is the first of a run started with RESUME = 0 (R117). -/
  firstLeap : Bool := false
  /-- STEP_LO values for which this node has sent a FAIL upward since START (R120). -/
  failSteps : List Nat := []
  /-- A plan image has been loaded since the last STOP (R110). -/
  planSinceStop : Bool := false
  /-- A gecko HALT or root-PLL loss waits for the root's next decision instant (R335). -/
  rootLocal : Bool := false
  /-- A gecko HALT has been applied and no START accepted since: downward messages are only forwarded (R335). -/
  relay : Bool := false
  /-- SKIPs received during the running step (Table FLT-14). -/
  skipsInStep : Nat := 0
  /-- The pending software epoch: its instant, 2^-16 ns, and its profile (R128). -/
  epoch : Option (Nat × Nat) := none
  /-- Hall time, 2^-16 ns, of the last leap fired. -/
  firedAt : Nat := 0
  /-- The same of the leap before it. -/
  firedPrev : Nat := 0
  /-- n0 of the run: the first step of the last START accepted (R110). -/
  n0 : Nat := 0
  deriving DecidableEq, Repr

/-- What the step report collects during a step (Table FLT-14). -/
structure StepFlags where
  poison : Bool := false
  failSent : Bool := false
  late : Bool := false
  refetch : Bool := false
  sentMiss : Bool := false
  eftMism : Bool := false
  breach : Bool := false
  progFault : Bool := false
  notRepro : Bool := false
  /-- Hottest MON_T since the step began, 1/16 degree. -/
  tempMax : Option Int := none
  deriving DecidableEq, Repr

/-- One side of an eft comparison: the keys of flits not yet matched, and counts and sum per step (R326). -/
structure EftKey where
  step : Nat
  queue : Nat
  pos : Nat
  key : Nat
  deriving DecidableEq, Repr

/-- The runtime of one eft entry (R325, R326). -/
structure Eft where
  /-- Unmatched keys from the eft and from die q. -/
  keysE : List EftKey := []
  keysQ : List EftKey := []
  /-- Flits counted so far: (step, queue, count). -/
  cntE : List (Nat × Nat × Nat) := []
  cntQ : List (Nat × Nat × Nat) := []
  /-- Sums of the CRCs of upward LEAP and SYNC messages: (step, sum). -/
  sumE : List (Nat × Nat) := []
  sumQ : List (Nat × Nat) := []
  /-- The first mismatch of each open step: (step, kind, queue, j). -/
  mism : List (Nat × Nat × Nat × Nat) := []
  /-- The first step of the comparison: n0 of the START that began it. -/
  first : Nat := 0
  /-- The next step to close. -/
  closeStep : Nat := 0
  /-- Steps below this one are closed. -/
  closed : Nat := 0
  deriving DecidableEq, Repr

/-- Faults and reports runtime (13_faults.md). -/
structure Flt where
  /-- Number of the next croak, and the next croak instant to serve, in units of 10 µs of hall time (R189). -/
  cseq : Nat := 0
  croakK : Nat := 1
  /-- Cycles of 1 ns since the last croak instant (TSHADOW_AGE counts gecko cycles of 10 ns). -/
  shadowAge : Nat := 0
  rpt : StepFlags := {}
  efts : Tbl Eft := []
  /-- Log entries selected for the log DMA and not yet written (R376): the four words of each. -/
  logQ : List (List Nat) := []
  deriving DecidableEq, Repr

/-- A missing SEQ of a receiver: its failures so far and the time of the last request, 2^-16 ns (R191, R194). -/
structure Miss where
  sq : Nat
  fails : Nat
  at_ : Nat
  /-- When the gap was found. -/
  seen : Nat
  deriving DecidableEq, Repr

/-- A DATA flit in the receive buffer (R204, R205): its due time (2^-16 ns), SEQ, PLEN and payload; its ring write has
completed; it came after its due time. -/
structure RxEnt where
  due : Nat
  sq : Nat
  plen : Nat
  data : List Byte
  wrote : Bool
  late : Bool
  deriving DecidableEq, Repr

/-- A DATA flit eligible for forwarding (R205): its due time, the port and queue that received it, its SEQ, PLEN and
payload. -/
structure FwdEnt where
  due : Nat
  port : Nat
  sq : Nat
  queue : Nat
  plen : Nat
  data : List Byte
  deriving DecidableEq, Repr

/-- A transmit queue's runtime (R202, R205). -/
structure TxQ where
  /-- Values that the posted count has taken, with the first cycle of each (2^-16 ns), newest first. -/
  posts : List (Nat × Nat) := []
  /-- The next ring entry to read, and the entries read; none for one that met a bulk error (R401). -/
  asked : Nat := 0
  buf : List (Nat × Option (List Byte)) := []
  /-- Eligible forwarded flits, in the order of R205. -/
  fwd : List FwdEnt := []
  deriving DecidableEq, Repr

/-- What a transfer at the bulk port of a die serves (R401). -/
inductive BulkUse where
  /-- Image bytes from an offset of the image. -/
  | image (ofs : Nat)
  /-- Entry i of the transmit ring of a queue. -/
  | txRing (q i : Nat)
  /-- The receive ring write of the flit with this SEQ in a queue. -/
  | rxRing (q sq : Nat)
  /-- Bytes of an egg from an offset. -/
  | eggRead (e ofs : Nat)
  /-- A write into the spawn region. -/
  | eggWrite
  /-- A transfer whose purpose has gone: its data is discarded. -/
  | dropped
  deriving DecidableEq, Repr

/-- A request at the bulk port (R399): its use, the address and number of bytes needed, and its beats (R399); the bytes
that have returned, or that a write carries. -/
structure BulkReq where
  use : BulkUse
  addr : Nat
  len : Nat
  beats : Nat
  data : List Byte
  deriving DecidableEq, Repr

/-- The bulk port of a die: requests that wait for a TAG, and the outstanding reads and writes by TAG (R399). -/
structure Bulk where
  rdWait : List BulkReq := []
  rdOut : List (Nat × BulkReq) := []
  wrWait : List BulkReq := []
  wrOut : List (Nat × BulkReq) := []
  deriving DecidableEq, Repr

/-- One step-link port: wheel, transmitter, receiver, detector and time transfer. -/
structure Port where
  /-- WHEEL as written, as in effect, and as the structure image set it (R185). -/
  wheel : Tbl Byte := []
  wheelUse : Tbl Byte := []
  wheel0 : Tbl Byte := []
  /-- Current revolution, the next flit of it, and the next SEQ (R183, R190). -/
  rev : Nat := 0
  slot : Nat := 4096
  txSeq : Nat := 0
  /-- Hall time, 2^-16 ns, at which slot 4,095 began, or at which flits began after training. -/
  padAt : Nat := 0
  /-- Replay buffer, oldest first, and the SEQs that the far end has requested, with the time of
  the request, 2^-16 ns (R190, R192). -/
  replay : List (Nat × List Byte) := []
  replayDue : List (Nat × Nat) := []
  /-- Control messages that wait for a slot, in the order in which they became ready (R186). -/
  ctrl : List Msg := []
  /-- Messages that an earlier flit had no position for, already counted in CTRL_DEFER (R188). -/
  deferred : List Msg := []
  /-- Fault notices and MGMT payloads that wait for an F slot. -/
  notices : List (List Byte) := []
  mgmt : List (List Byte) := []
  /-- The last flit sent on the port. -/
  lastTx : List Byte := []
  /-- IDLE flits sent and not yet acknowledged: SEQ, SLOT and PAD, oldest first (R190, R192). -/
  idles : List (Nat × Nat × Bool) := []
  /-- The bits sent since the last codeword boundary: their number, and their value with the first bit lowest; and the
  codeword sent last (R179). -/
  cwBits : Nat := 0
  cwValue : Nat := 0
  cwLast : List Nat := []
  /-- Die (R394): the bits that each lane has sent of the word in progress when the codeword in progress begins, their
  value by lane, and, by lane, the words PHY_TXD that the last codeword completed. -/
  txPos : Nat := 0
  txPart : List Nat := []
  txd : List (List Nat) := []
  /-- The bit of its codeword's message part at which the next flit from the far end begins, once flits are framed. -/
  rxAt : Option Nat := none
  /-- Receiver: the next SEQ expected by the numbering, the highest SEQ up to which all are accepted, and the SEQs
  accepted beyond it (R190, R193). -/
  rxNext : Option Nat := none
  cack : Option Nat := none
  got : List Nat := []
  miss : List Miss := []
  /-- Flits that failed since the last good one. -/
  failed : Nat := 0
  /-- Replay requests still to be sent in headers, in order of SEQ. -/
  reqs : List Nat := []
  /-- Good DATA and EGG flits held behind a missing flit of their queue: SEQ, bytes, and when their slot began, found at
  their arrival (R204). -/
  held : List (Nat × List Byte × Nat) := []
  /-- Symbols corrected since the last check, by lane of the port (R198). -/
  laneCorr : Tbl Nat := []
  /-- Hall time, 2^-16 ns, of the last good flit. -/
  lastGood : Nat := 0
  /-- Detector (R313): a new CSEQ since the last check, the last CSEQ, RUNNING shown by the previous croak, an
  identity record with NODE 0xFFFFF since the fence (R320), the next check instant. -/
  newCroak : Bool := false
  lastCseq : Option Nat := none
  childRan : Bool := false
  tadSeen : Bool := false
  checkK : Nat := 0
  /-- Training: hall time at which the TSTATE was entered, 2^-16 ns. -/
  trainAt : Nat := 0
  /-- Queues. -/
  txq : Tbl TxQ := []
  rxq : Tbl (List RxEnt) := []
  exch : Exch := {}
  deriving DecidableEq, Repr

/-- The generator of a clock region (R229, R292, R301): the time it has run, in thousandths of a period, and the
lengthening of its period that is still to come. -/
structure RegClk where
  run : Nat := 0
  debt : Nat := 0
  deriving DecidableEq, Repr

/-- How a tile region stood before the first switch, cap update or loop step of a cycle (R304): the cycle, FREQ, TRIM,
VSET, and the runtime fields that these actions move. -/
structure RegUndo where
  at_ : Nat
  freq : Nat
  trim : Nat
  vset : Nat
  volt : Option Nat
  rising : Bool
  therm : Nat
  floorT : Bool
  floorP : Bool
  deriving DecidableEq, Repr

/-- A clock region's runtime (R294 to R306). -/
structure Region where
  /-- Thermal cap, MHz (R297). -/
  therm : Nat := 2000
  /-- Stretches since the last leap (R303). -/
  since : Nat := 0
  /-- The voltage present while a raised VSET is still being reached; none when VSET is reached. -/
  volt : Option Nat := none
  /-- A frequency raise of 25 MHz waits for VSET (R296). -/
  rising : Bool := false
  /-- A pin in progress: frequency and voltage (R305). -/
  pin : Option (Nat × Nat) := none
  /-- FLOOR_HOLD for the thermal cap and for the power cap (R299). -/
  floorT : Bool := false
  floorP : Bool := false
  /-- The last sampled value of STRETCH_CNT, Gray decoded (R403). -/
  cntLast : Nat := 0
  /-- For an action of the same cycle that sets others aside (Table REG-2). -/
  undo : Option RegUndo := none
  deriving DecidableEq, Repr

/-- Output pins and strobes (Table LEP-6, R307, R397, R398, R411). -/
structure Outs where
  /-- LEAP_FIRE_STB, LEAP_FIRE_STEP and LEAP_FIRE_PHASE of the last local-clock cycle. -/
  fireStb : Bool := false
  fireStep : Nat := 0
  firePhase : Nat := 0
  /-- The launch time for which the fire outputs were last driven (R118). -/
  fireAt : Option Nat := none
  /-- REGION_SW_STB and REGION_SW_PROF, and the switch instant for which they were last driven (R307). -/
  regionStb : Bool := false
  regionProf : Nat := 0
  regionAt : Option Nat := none
  /-- CMAP_SEQ and CMAP_PHYS (R398). -/
  cmapSeq : Nat := 0
  cmapPhys : Nat := 0
  /-- The uplink is in loopback mode, and PHY_LPBK (R413). -/
  loop : Bool := false
  lpbk : Bool := false
  /-- PHY_TXFFE by lane as driven, the lanes whose PHY_TXFFE_TGL is 1, those that await PHY_TXFFE_DONE, and what such a
  lane is to be set to next (R395, R408). -/
  txffe : Tbl Nat := []
  txffeTgl : List Nat := []
  ffeWait : List Nat := []
  ffeNext : Tbl (Option Nat) := []
  /-- PHY_TX_EN, or the transmitters and pulse outputs of a Krasesta, held low by a gecko cause (R64, R393). -/
  txHeld : Bool := false
  /-- The response last presented: its core message port or tile, and its word (R147). -/
  rspPort : Nat := 0
  rsp : Msg := 0
  /-- Number of MSI-X messages sent, the address and the data of the last one, and the Pending Bit (R383, R424). -/
  msix : Nat := 0
  msixAt : Nat := 0
  msixData : Nat := 0
  msixPend : Bool := false
  /-- The frame that the management port sent last, with its FCS (R98). -/
  frame : List Byte := []
  /-- The value that the last read of PWR_PEAK returned (R12). -/
  peak : Nat := 0
  /-- REG_ACK, REG_RDATA and REG_ERR of a block (R405, R406), or the data of the last BAR0 read of a Krasesta (R368). -/
  regAck : Bool := false
  regData : Word := 0
  regErr : Bool := false
  deriving DecidableEq, Repr

/-- A request accepted at a core message port or from a tile: when its effect is due (2^-16 ns), when it was accepted,
its port and its word (Table CNT-4); `bad` is the REASON of a refusal for its form (R146, R142). -/
structure PendReq where
  due : Nat
  acc : Nat
  port : Nat
  word : Msg
  bad : Option Nat
  deriving DecidableEq, Repr

/-- An ADD of the device itself or a held CADD: when it is due, its counter, its increment. -/
structure PendAdd where
  due : Nat
  core : Nat
  k : Nat
  inc : Nat
  /-- It came as a CADD. -/
  cadd : Bool
  /-- The cycle in which it arrived, for one that is applied in the cycle after arrival. -/
  seen : Nat := 0
  deriving DecidableEq, Repr

/-- An active watch slot: a watch on a counter, or a barrier wait (R141, R161). -/
structure Watch where
  core : Nat
  slot : Nat
  tag : Nat
  /-- Registration order, and when the request was accepted (2^-16 ns). -/
  ord : Nat
  acc : Nat
  /-- Deadline, 2^-16 ns; none without timeout. -/
  deadline : Option Nat
  /-- Counter core, counter and target of a watch. -/
  cc : Nat
  ck : Nat
  target : Nat
  /-- For a barrier wait: its entry (LBAR[b] is b, HBAR[h] is 16 + h) and the round waited for. -/
  bar : Option (Nat × Nat)
  deriving DecidableEq, Repr

/-- A response decided and not yet presented (R147): port or tile, time of presentation (2^-16 ns), word, and, for one
outside the watch slots, when its request was accepted. -/
structure Rsp where
  port : Nat
  at_ : Nat
  word : Msg
  acc : Nat := 0
  deriving DecidableEq, Repr

/-- The counter unit's runtime (06_counters_watches.md). -/
structure Cnt where
  pend : List PendReq := []
  adds : List PendAdd := []
  /-- CADDs held for their DUE (R137), and those applied in the cycle after arrival (late, or past a full buffer). -/
  hold : List PendAdd := []
  soon : List PendAdd := []
  /-- FORCEs written and not yet applied: core, counter, value (R336). -/
  forces : List (Nat × Nat × Nat) := []
  watches : List Watch := []
  nextOrd : Nat := 0
  rsps : List Rsp := []
  /-- Most CADDs held at once since TASK_SWITCH. -/
  hwm : Nat := 0
  dirty : Bool := false
  /-- Hall time, 2^-16 ns, at which the node last armed (R137). -/
  armedAt : Nat := 0
  /-- TASK_SWITCH has been written in this cycle and takes effect in stage 0 of the next (R151). -/
  ts : Bool := false
  deriving DecidableEq, Repr

/-- The egg flow of one port direction pair (R217 to R222). -/
structure EggDir where
  /-- Eggs begun toward the far end, and the LIMIT it granted (16 bits, R218). -/
  begun : Nat := 0
  limit : Nat := 0
  /-- Eggs from that port that this node has finished. -/
  done : Nat := 0
  /-- Receiving: the egg in progress and its parts so far; complete eggs under check, oldest
  first: egg, whether it verifies, and whether it counts for LIMIT (not after a resumption, R218). -/
  rxEgg : Option Nat := none
  rxParts : Nat := 0
  rxBytes : List Byte := []
  /-- A part of it came out of order. -/
  rxBad : Bool := false
  checks : List (Nat × Bool × Bool) := []
  /-- Sending: the egg in progress and the next part; the next egg of the downward order (R219). -/
  txEgg : Option Nat := none
  txPart : Nat := 0
  downNext : Nat := 0
  /-- Eggs still to be sent upward, in order (R219, R223). -/
  upQ : List Nat := []
  /-- A CONTROL record is due; it carries RESUME with this FROM; hall time of the last one, 2^-16 ns. -/
  due : Bool := false
  resume : Option Nat := none
  sentAt : Nat := 0
  /-- A CONTROL record waits for a slot. -/
  ready : Bool := false
  deriving DecidableEq, Repr

/-- The spawn runtime (R215 to R223). -/
structure Spawn where
  /-- Held eggs, ascending, and those received from below or injected. -/
  held : List Nat := []
  below : List Nat := []
  /-- SPAWN_ID of the held eggs. -/
  heldId : Nat := 0
  /-- Eggs of failing copies from the parent since ARM, with repeats (R220). -/
  bad : List Nat := []
  /-- The first CONTROL record from the parent is awaited for the re-sending of R223. -/
  resend : Bool := false
  /-- FROM of the resumption in progress (R222). -/
  resFrom : Nat := 0
  /-- Next egg a source injects (R216). -/
  srcNext : Nat := 0
  /-- Die: the source egg being read, and its bytes so far. -/
  srcEgg : Option Nat := none
  src : Tbl (Option Byte) := []
  dirs : Tbl EggDir := []
  deriving DecidableEq, Repr

/-- A barrier entry's runtime: who has arrived for the open round and for the next, and when its stall timer started
(R157, R168). -/
structure BarEnt where
  cores : List Nat := []
  coresN : List Nat := []
  ports : List Nat := []
  portsN : List Nat := []
  stallAt : Option Nat := none
  deriving DecidableEq, Repr

/-- A release held at a node (R164): when it applies (2^-16 ns), its slot and round, whether it is held for its DUE; the
cycle of its arrival where it is late, and so applied in the cycle after it. -/
structure Rel where
  due : Nat
  slot : Nat
  round : Nat
  aligned : Bool
  seen : Option Nat := none
  deriving DecidableEq, Repr

/-- The barrier unit's runtime (07_barriers.md): LBAR[b] at key b, HBAR[h] at key 16 + h. -/
structure Bar where
  ents : Tbl BarEnt := []
  rels : List Rel := []
  /-- Combined arrivals that act in this cycle: port, slot, round (R163, R157). -/
  arrs : List (Nat × Nat × Nat) := []
  /-- Hall time, 2^-16 ns, since which nothing has broken the deadlock window (R170). -/
  dlSince : Nat := 0
  deriving DecidableEq, Repr

/-- What the counter unit has resolved in the cycle `n` (R134): the registers of its blocks, its runtime and that of the
barriers, and the number of events on their way to the event counters, before and after; the messages it has sent, by
port; whether a TASK_SWITCH and a FORCE have taken effect, and whether the step had a breach before. -/
structure UnitRun where
  n : Nat
  regs0 : Tbl Word
  regs1 : Tbl Word
  cnt0 : Cnt
  cnt1 : Cnt
  bar0 : Bar
  bar1 : Bar
  ev0 : Nat
  ev1 : Nat
  sent : List (Nat × Msg)
  switched : Bool
  forced : Bool
  breach : Bool
  deriving DecidableEq, Repr

/-- An event on its way to the event counters (R384): code, instance, number, and the cycle in which it occurred. -/
structure PerfEv where
  code : Nat
  inst : Nat
  n : Nat
  at_ : Nat
  deriving DecidableEq, Repr

/-- An exact accumulator (R241): its 320-bit value in units of 2^-149, its flags and its contribution count. -/
structure XAcc where
  value : BitVec 320 := 0
  nan : Bool := false
  pinf : Bool := false
  ninf : Bool := false
  nz : Bool := true
  cnt : Nat := 0
  deriving DecidableEq, Repr

/-- A descriptor in progress on a unit (R248): its index in the program, its 256 bits with the loop offsets added, for LS
and SQ the time of its completion (2^-16 ns), none for a stack transfer without a share, the tile clock edges received when
it issued, and, for RECV, the consumed count that it read, none once its wait is met. -/
structure TOp where
  idx : Nat
  desc : Nat
  due : Option Nat
  start : Nat
  wait : Option Nat
  deriving DecidableEq, Repr

/-- A program that runs on a tile (R246): where it lies, its next descriptor, the indices of its LOOPs by their place,
what its units do, the WATCH that waits, the ARRIVEs issued (newest first), and whether R260 has stopped it. -/
structure Prog where
  /-- The logical tile as which it runs. -/
  l : Nat
  base : Nat
  len : Nat
  pc : Nat := 0
  loops : Tbl Nat := []
  units : List (Nat × TOp) := []
  watch : Option Nat := none
  /-- The ARRIVEs completed at acceptance that may still be refused: when each was accepted, and its index (R258). -/
  arrives : List (Nat × Nat) := []
  stopped : Bool := false
  deriving DecidableEq, Repr

/-- The runtime of a physical tile (R246 to R264, R331). -/
structure Tile where
  prog : Option Prog := none
  /-- Programs queued by R246. -/
  queued : Nat := 0
  /-- The ARRIVEs of programs that have ended, while they may still be refused (R260). -/
  left : List (Nat × Nat) := []
  /-- The sentinel program that runs, and whether one may still start in this step. -/
  sent : Option Prog := none
  sentReady : Bool := false
  accs : Tbl XAcc := []
  /-- Stack source of each clean block (R262). -/
  src : Tbl (Option Nat) := []
  /-- Blocks whose refetch is in progress (R263). -/
  refetch : List Nat := []
  /-- The tile clock edges received when TILE_CYCLE last restarted (R229). -/
  cyc0 : Nat := 0
  deriving DecidableEq, Repr

/-- The program that a tile runs ends: its ARRIVEs that may still be refused are kept. -/
def Tile.ended (x : Tile) : Tile :=
  { x with prog := none, left := x.left ++ (x.prog.map (·.arrives)).getD [] }

/-- A tile stops where it is: nothing runs on it or is queued. -/
def Tile.stopped (x : Tile) : Tile := { x.ended with queued := 0, sent := none, sentReady := false }

/-- A page write of an install packet that has not completed (R275): the clutch entry and its GEN, the page, its bytes,
and the notification to send: node, core and counter. -/
structure PageWr where
  ent : Nat
  gen : Nat
  page : Nat
  data : List Byte
  ntf : Option (Nat × Nat × Nat)
  deriving DecidableEq, Repr

/-- A started pass (R277, R282): its entry, when its replies are due (2^-16 ns), and the reply of each die: its port,
and the bytes of its ring entries. -/
structure PassRun where
  j : Nat
  due : Nat
  replies : List (Nat × List Byte)
  deriving DecidableEq, Repr

/-- A page that a migration slot copies (R286): clutch entry, GEN, page, first cache block. -/
structure MigPage where
  ent : Nat
  gen : Nat
  page : Nat
  block : Nat
  deriving DecidableEq, Repr

/-- An open migration slot whose pages are not in effect (R286): when its copies complete at the earliest, whether they
have completed, the clutch entries that it demotes, and the pages that it copies. -/
structure Mig where
  due : Nat
  done : Bool
  drop : List Nat
  pages : List MigPage
  deriving DecidableEq, Repr

/-- The prefix engine's runtime (11_clutches.md). -/
structure Pfx where
  /-- Imports that run: entry, GEN and first egg (R272). -/
  imports : List (Nat × Nat × Nat) := []
  writes : List PageWr := []
  /-- Ring entries that the engine has consumed of a receive queue, by 64 × port + queue. -/
  eaten : Tbl Nat := []
  /-- A step has begun; the first pass that may still start in it; the last start in it: its pass and time (2^-16 ns). -/
  inStep : Bool := false
  nextJ : Nat := 0
  lastStart : Option (Nat × Nat) := none
  runs : List PassRun := []
  /-- T(c + 1) of the commit steps c whose migration slot has not opened (2^-16 ns), and the slots open, oldest first. -/
  slots : List Nat := []
  migs : List Mig := []
  deriving DecidableEq, Repr

/-- The host interface of a Krasesta (R371 to R383): the descriptor that a ring holds, as its eight words; what the last
write-back carried and the host address of its word 2, the bytes of the buffer of that descriptor that were written, the
buffer's address, and the offsets in it of the 64-byte units that went poisoned (R378); the status of the last completion of a
read (0 successful, 1 Unsupported Request, 4 Completer Abort), the data that the last BAR2 read returned, and whether it was
poisoned; the addresses of uncorrectable errors that a host read meets, each with whether it is a parity error of the
controller's path; INT_SUMMARY was not 0 when last looked at; the number of MSI-X messages that wait for Bus Master Enable, and
whether the descriptor that TX0 holds is to complete with STATUS IO when it is 1 again (R379). -/
structure HostIf where
  held : Tbl (Option (List Nat)) := []
  wbRing : Nat := 0
  wbAt : Nat := 0
  wb : List Nat := []
  dmaAt : Nat := 0
  dma : List Byte := []
  dmaBad : List Nat := []
  cpl : Nat := 0
  rd : List Byte := []
  rdBad : Bool := false
  bad : List (Nat × Bool) := []
  sum : Bool := true
  msixWait : Nat := 0
  endTx0 : Bool := false
  deriving DecidableEq, Repr

/-- A load in progress (R348 to R350, R438): the kind of image, the bytes taken, those of the second reading in a die,
and the number of bytes that have arrived in the reading in progress. -/
structure Load where
  plan : Bool := false
  bytes : List Byte := []
  again : List Byte := []
  got : Nat := 0
  deriving DecidableEq, Repr

/-- The event counters: PERF[k] at key k, PERFX[k] at key 16 + k (R384). -/
structure Perf where
  cnt : Tbl Nat := []
  last : Tbl Nat := []
  /-- Events that have not yet reached their counters, newest first. -/
  infl : List PerfEv := []
  /-- Cycles of the time counter so far, as far as they matter: 64 are on their way (R384). -/
  run : Nat := 0
  /-- Counters that take no further event in this cycle (R386). -/
  shut : List Nat := []
  /-- Counters that have already taken this cycle's events: the counter, their number, and OVF as it stood before. -/
  early : List (Nat × Nat × Bool) := []
  deriving DecidableEq, Repr

end Sys2Proof.Machine
end

