-- ==== Sys2Proof/Machine/Operands.lean ====
section
/-! DEFINITION. The operand forms: named register fields (each field map of the spec), TIMESTAMP conversions
(Table HTM-1) and the layouts of control messages (Tables HTM-2, LEP-2, LNK-6). -/

namespace Sys2Proof.Machine

/-- A register field: the address of its word, its lowest bit and its width. -/
structure Fld where
  addr : Nat
  lo : Nat
  w : Nat
  deriving DecidableEq, Repr

/-- A whole register word. -/
def wordF (a : Nat) : Fld := ⟨a, 0, 32⟩

/-- A single bit of a register. -/
def bitF (a i : Nat) : Fld := ⟨a, i, 1⟩

/-! ### CLOCKROOT (Tables CLK-5 to CLK-20) -/

def CLK_STATUS : Nat := 0x200000
def CLK_CAUSE : Nat := 0x200014
def OVEN_TUNE : Nat := 0x200040
def HOLD_TUNE : Nat := 0x200044
def PHASE_STEP : Nat := 0x200050
def STEP_SLEW_MAX : Nat := 0x20005C
def PULSE_CTRL : Nat := 0x200060
def TICK_PERIOD : Nat := 0x200064
def TICK_OFFSET : Nat := 0x200068
/-- PULSE_W[o]. -/
def pulseW (o : Nat) : Fld := ⟨0x200070 + 4 * o, 0, 20⟩
def PULSE_ERR : Nat := 0x200080
def SEL_ACTIVE : Fld := ⟨CLK_STATUS, 7, 3⟩
def ALIGN_PEND : Fld := bitF CLK_STATUS 6
def PSTEP_PEND : Fld := bitF CLK_STATUS 5
def SLEWING : Fld := bitF CLK_STATUS 4
def HOLDOVER : Fld := bitF CLK_STATUS 3
def CLEANUP_LOCK : Fld := bitF CLK_STATUS 2
def ROOTPLL_LOCK : Fld := bitF CLK_STATUS 1
def BASK : Fld := bitF CLK_STATUS 0
def REF_SEL : Fld := ⟨0x200004, 0, 3⟩
/-- REF_PRIO.P0 to P3. -/
def refPrio (i : Nat) : Fld := ⟨0x200008, 3 * i, 3⟩
def FREQ_CLAMP : Fld := ⟨0x20000C, 16, 10⟩
def REF_STATUS : Nat := 0x200010
def ppsOk (c : Nat) : Fld := bitF REF_STATUS (16 + c)
def qual (c : Nat) : Fld := bitF REF_STATUS (8 + c)
def refCfg (c : Nat) : Nat := 0x200020 + 4 * c
def refEn (c : Nat) : Fld := bitF (refCfg c) 0
def refPpsEn (c : Nat) : Fld := bitF (refCfg c) 1

/-! ### TIME (Tables HTM-10 to HTM-18) -/

def TIME_NOW : Nat := 0x110000
def TIME_INCR : Nat := 0x110010
def TIME_STATUS : Nat := 0x110018
def PSTEP_SEEN : Fld := bitF TIME_STATUS 8
def SLEW_ACTIVE : Fld := bitF TIME_STATUS 7
def UTC_VALID : Fld := bitF TIME_STATUS 6
def BASK_ANY : Fld := bitF TIME_STATUS 5
def PARENT_HOLD : Fld := bitF TIME_STATUS 4
def SETTLED : Fld := bitF TIME_STATUS 3
def LOCKED : Fld := bitF TIME_STATUS 2
def ACQUIRING : Fld := bitF TIME_STATUS 1
def ROOT : Fld := bitF TIME_STATUS 0
def LOSS_THR : Fld := ⟨0x11001C, 16, 8⟩
def DELAY_WIN : Fld := ⟨0x11001C, 0, 16⟩
def SERVO_OFFSET : Nat := 0x110020
def LINK_DELAY : Nat := 0x110028
def PORT_ASYM : Nat := 0x11002C
def TIME_CAUSE : Nat := 0x110030
def EXCH_USED : Nat := 0x110038
def EXCH_DISCARD : Nat := 0x11003C
def SEC_LOAD : Nat := 0x110044
/-- PORT_ASYM_X and PORT_DELAY_X of port p = 4g + s. -/
def portAsymX (p : Nat) : Nat := 0x118000 + 0x10 * (p / 4) + 4 * (p % 4)
def portDelayX (p : Nat) : Nat := 0x118200 + 0x10 * (p / 4) + 4 * (p % 4)

/-! ### LEAP (Tables LEP-8 to LEP-14) -/

def LEAP_STATUS : Nat := 0x120000
def HALT_CAUSE : Fld := ⟨LEAP_STATUS, 12, 4⟩
def EPOCH_PEND : Fld := bitF LEAP_STATUS 11
def STOP_PEND : Fld := bitF LEAP_STATUS 10
def HALT_PEND : Fld := bitF LEAP_STATUS 9
def FAIL_SEEN : Fld := bitF LEAP_STATUS 8
def ORPHAN : Fld := bitF LEAP_STATUS 7
def HALTED : Fld := bitF LEAP_STATUS 6
def STOP_ENTRY : Fld := bitF LEAP_STATUS 5
def COMMIT_HELD : Fld := bitF LEAP_STATUS 4
def VOTE_OUT : Fld := bitF LEAP_STATUS 3
def GO_HELD : Fld := bitF LEAP_STATUS 2
def LAUNCH_PEND : Fld := bitF LEAP_STATUS 1
def LEAPS_ARMED : Fld := bitF LEAP_STATUS 0
def LEAP_CAUSE : Nat := 0x120008
def SKIP_LIMIT : Fld := ⟨0x120010, 24, 8⟩
def COMMIT_EVERY : Fld := ⟨0x120010, 16, 6⟩
def CLASS : Fld := ⟨0x120010, 0, 4⟩
def LEAP_LEAD : Fld := wordF 0x120018
def READY_GUARD : Fld := wordF 0x12001C
def LEAP_PERIOD : Nat := 0x120020
def LEAP_T0 : Nat := 0x120028
def START_STEP : Nat := 0x120038
def STEP_COUNT : Nat := 0x120040
def NEXT_LAUNCH : Nat := 0x120048
def SKIPS : Nat := 0x120058
def SKIP_RUN : Fld := ⟨0x120060, 0, 8⟩
def MIN_LEAD : Nat := 0x120064
def LAST_COMMIT : Nat := 0x120068
def PEND_COMMIT : Nat := 0x120070
def READY_SEL : Nat := 0x120078
def READY_FIRST : Nat := 0x12007C
def READY_STRIDE : Nat := 0x120080
def READY_TARGET : Nat := 0x120084
def COMMIT_SEL : Nat := 0x120088
def COMMIT_FIRST : Nat := 0x12008C
def COMMIT_STRIDE : Nat := 0x120090
def COMMIT_TARGET : Nat := 0x120094
def FAIL_INFO : Nat := 0x120098
def FAIL_DROP : Nat := 0x12009C
def EPOCH_TIME : Nat := 0x1200A0
def EPOCH_PROF : Fld := ⟨0x1200AC, 0, 4⟩
def planEpoch (i : Nat) : Nat := 0x120100 + 0x10 * i

/-! ### GECKO, FAULT, FAULTX, CFG (Tables FLT-11 to FLT-15, IMG-10, IMG-11) -/

def GK_STATE : Nat := 0x101000
def TAKEN : Fld := bitF GK_STATE 10
def GECKO_HALT : Fld := bitF GK_STATE 9
def FENCED_SELF : Fld := bitF GK_STATE 8
def GK_CAUSE : Nat := 0x101004
def BLOCK_STATUS : Nat := 0x100008
def LCLK_MEAS : Fld := ⟨0x10000C, 0, 16⟩
def LCLK_FAULT : Fld := bitF BLOCK_STATUS 2
def SUBRESET_BUSY : Nat := 0x101014
def FORCE_ADDR : Nat := 0x101018
def TSHADOW : Nat := 0x101020
def TSHADOW_AGE : Nat := 0x10102C
def LOG_STATUS : Nat := 0x101038
def LOG_FROZEN : Fld := bitF LOG_STATUS 31
def LOG_WPTR : Fld := ⟨LOG_STATUS, 0, 6⟩
def LOG_LOST : Nat := 0x10103C
def FREEZE_ON : Nat := 0x101040
def logEntry (e : Nat) : Nat := 0x101100 + 0x10 * e
def DET_STATUS : Nat := 0x1A0000
def FLT_CAUSE : Nat := 0x1A0004
def FENCE_INFO : Nat := 0x1A0010
def COND_INFO : Nat := 0x1A0020
def COND_VALID : Fld := bitF COND_INFO 31
def COND_STEP : Nat := 0x1A0024
def COND_NS : Nat := 0x1A002C
def COND_LOST : Nat := 0x1A0030
def perfAt (k : Nat) : Nat := 0x1A0040 + 8 * k
def condR (r w : Nat) : Nat := 0x1A0400 + 0x10 * r + 4 * w
def coreMap (l : Nat) : Fld := ⟨0x1A1000 + 4 * l, 0, 8⟩
def stepRpt (i : Nat) : Nat := 0x1A2000 + 0x10 * i
def RPT_WPTR : Fld := ⟨0x1A2100, 0, 4⟩
/-- PORT_FENCE and PORT_DEAD bits of port p. -/
def portFence (p : Nat) : Fld := bitF (0x700000 + 4 * (p / 32)) (p % 32)
def portDead (p : Nat) : Fld := bitF (0x700010 + 4 * (p / 32)) (p % 32)
def SUBRESET_X_BUSY : Nat := 0x700024
def detPort (p : Nat) : Nat := 0x700100 + 4 * p
def fenceRec (p : Nat) : Nat := if p < 64 then 0x700300 + 4 * p else 0x7002E0 + 4 * (p - 64)
def eftCfg (e : Nat) : Nat := 0x700400 + 0x40 * e
def eftEn (e : Nat) : Fld := bitF (eftCfg e) 31
def eftPortF (e : Nat) : Fld := ⟨eftCfg e, 8, 7⟩
def eftShadowF (e : Nat) : Fld := ⟨eftCfg e, 0, 7⟩
def eftStatus (e : Nat) : Nat := 0x700410 + 0x40 * e
def EFT_CAUSE : Nat := 0x700500
def eftLog (e i : Nat) : Nat := 0x700800 + 0x100 * e + 0x10 * i
def NODE_CFG : Nat := 0x1B0000
def STRUCT_VALID : Fld := bitF NODE_CFG 31
def NODE_ID : Fld := ⟨NODE_CFG, 0, 20⟩
def CFG_STATUS : Nat := 0x1B0004
def PHASE : Fld := ⟨CFG_STATUS, 10, 2⟩
def LOAD_BUSY : Fld := bitF CFG_STATUS 9
def PLAN_EDITED : Fld := bitF CFG_STATUS 8
def PLAN_VALID : Fld := bitF CFG_STATUS 7
def CFG_CAUSE : Nat := 0x1B000C
def IMG_ADDR : Nat := 0x1B0014
def CHECK_INFO : Nat := 0x1B0020
def CHECK_OFS : Nat := 0x1B0024
def STRUCT_CRC : Nat := 0x1B0028
def STRUCT_ID : Nat := 0x1B002C
def PLAN_CRC : Nat := 0x1B0030
def PLAN_ID : Nat := 0x1B0034

/-! ### REGION and REGIONX (Tables REG-5 to REG-8) -/

def PROF_DEFINED : Fld := ⟨0x130000, 16, 16⟩
def REGION_STATUS : Nat := 0x130004
def PREV_PROFILE : Fld := ⟨REGION_STATUS, 4, 4⟩
def PROFILE : Fld := ⟨REGION_STATUS, 0, 4⟩
def REGION_CAUSE : Nat := 0x130008
def LAST_SWITCH : Nat := 0x130010
def stretchCount (r : Nat) : Nat := 0x130100 + 4 * r
def stretchLast (r : Nat) : Nat := 0x130200 + 4 * r
def monVf (r : Nat) : Nat := 0x130300 + 8 * r
def monT (r : Nat) : Nat := 0x130304 + 8 * r
def TRIPPED : Fld := bitF 0x3800000 31
def CAP_MHZ : Fld := ⟨0x3800000, 0, 16⟩
def RGX_CAUSE : Nat := 0x3800004
def PWR_LIMIT : Fld := ⟨0x380000C, 0, 16⟩
def T_LIMIT : Fld := ⟨0x3800010, 0, 8⟩
def PWR_IN : Fld := ⟨0x3800014, 0, 16⟩
def PWR_PEAK : Nat := 0x3800018
def rgState (r : Nat) : Nat := 0x3800100 + 0x10 * r
def rgPinned (r : Nat) : Fld := bitF (rgState r) 31
def rgFloorHold (r : Nat) : Fld := bitF (rgState r) 30
def rgThermCapped (r : Nat) : Fld := bitF (rgState r) 29
def rgPwrCapped (r : Nat) : Fld := bitF (rgState r) 28
def rgFreq (r : Nat) : Fld := ⟨rgState r, 0, 16⟩
def rgTrim (r : Nat) : Fld := ⟨0x3800104 + 0x10 * r, 16, 8⟩
def rgVset (r : Nat) : Fld := ⟨0x3800104 + 0x10 * r, 0, 16⟩
def rgPin (r : Nat) : Nat := 0x3800108 + 0x10 * r
def rgPinv (r : Nat) : Nat := 0x380010C + 0x10 * r
def profCeil (p r : Nat) : Fld := ⟨0x3800200 + 0x40 * p + 4 * r, 16, 16⟩
def profStart (p r : Nat) : Fld := ⟨0x3800200 + 0x40 * p + 4 * r, 0, 16⟩
def profPcap (p : Nat) : Fld := ⟨0x3800224 + 0x40 * p, 0, 16⟩

/-! ### COUNTER and WATCH (Tables CNT-8 to CNT-14) -/

def counterA (c k : Nat) : Nat := 0x140000 + 0x100 * c + 4 * k
/-- The SAT_MAP and FORCED_MAP bit of COUNTER[c][k]. -/
def satF (c k : Nat) : Fld := bitF (0x1400C0 + 0x100 * c + 4 * (k / 32)) (k % 32)
def forcedF (c k : Nat) : Fld := bitF (0x1400C8 + 0x100 * c + 4 * (k / 32)) (k % 32)
def CNT_CAUSE : Nat := 0x150008
def LOCAL_ADDS : Nat := 0x150020
def CADD_TX : Nat := 0x150024
def CADD_RX : Nat := 0x150028
def LATE_SYNC : Nat := 0x15002C
def STRAY_ADD : Nat := 0x150030
def BAD_REQ : Nat := 0x150034
def NOTIFY_QUEUED : Nat := 0x150038
def TIMEOUTS : Nat := 0x15003C
def HOLD_OVER : Nat := 0x150040
def BAD_REQ_INFO : Nat := 0x150044
def FIRST_BREACH : Nat := 0x150050
def breachF (i : Nat) : Fld := bitF (0x150060 + 4 * (i / 32)) (i % 32)
def pairCfg (i : Nat) : Nat := 0x151000 + 8 * i

/-! ### BARRIER (Tables BRS-8 to BRS-12) -/

def BAR_CAUSE : Nat := 0x160000
def DL_EN : Fld := bitF 0x160008 31
def DL_WINDOW : Fld := ⟨0x160008, 0, 31⟩
def DL_STATUS : Nat := 0x16000C
def DL_VALID : Fld := bitF DL_STATUS 31
def BAR_OVERRUNS : Nat := 0x160010
def STALLS : Nat := 0x160014
def LATE_REL : Nat := 0x160018
def STRAY_BAR : Nat := 0x16001C
def DEADLOCKS : Nat := 0x160020
def BAR_TIMEOUTS : Nat := 0x160024
def MISS_INFO : Nat := 0x160040
def MISS_NS : Nat := 0x160044
def missMap (w : Nat) : Nat := 0x160048 + 4 * w
def snapW (e j : Nat) : Nat := 0x160400 + 0x10 * e + 4 * j
def missChild (w : Nat) : Nat := 0x168800 + 4 * w
/-- The registers of barrier entry k: LBAR[k] below 16, HBAR[k - 16] from 16. -/
def barCfg (k : Nat) : Nat := if k < 16 then 0x160100 + 0x10 * k else 0x161000 + 0x10 * (k - 16)
def barStall (k : Nat) : Nat := if k < 16 then 0x160104 + 0x10 * k else 0x161008 + 0x10 * (k - 16)
def barState (k : Nat) : Nat := if k < 16 then 0x160108 + 0x10 * k else 0x16100C + 0x10 * (k - 16)
def barEn (k : Nat) : Fld := bitF (barCfg k) 31
def barScope (k : Nat) : Fld := bitF (barCfg k) 30
def barAligned (k : Nat) : Fld := bitF (barCfg k) 29
def barExpect (k : Nat) : Fld := ⟨barCfg k, 0, 12⟩
def barSentNext (k : Nat) : Fld := bitF (barState k) 28
def barRound (k : Nat) : Fld := ⟨barState k, 26, 2⟩
def barSent (k : Nat) : Fld := bitF (barState k) 25
def barStalled (k : Nat) : Fld := bitF (barState k) 24
def barNext (k : Nat) : Fld := ⟨barState k, 12, 12⟩
def barCur (k : Nat) : Fld := ⟨barState k, 0, 12⟩
def releaseLead (h : Nat) : Fld := wordF (0x161004 + 0x10 * h)
/-- CHILD_MAP[h] and ARRIVED_MAP[h], the bit of port p. -/
def childMap (h p : Nat) : Fld := bitF (0x168000 + 0x10 * h + 4 * (p / 32)) (p % 32)
def arrivedMap (h w : Nat) : Nat := 0x168400 + 0x10 * h + 4 * w

/-! ### QUEUE: spawn (Tables TRN-6 to TRN-9) -/

def Q_CAUSE : Nat := 0x190000
def SPAWN_STATUS : Nat := 0x19000C
def S_FAILED : Fld := bitF SPAWN_STATUS 5
def RESUMING : Fld := bitF SPAWN_STATUS 4
def SRC_DONE : Fld := bitF SPAWN_STATUS 3
def HELD_ALL : Fld := bitF SPAWN_STATUS 2
def COMPLETE : Fld := bitF SPAWN_STATUS 1
def S_ARMED : Fld := bitF SPAWN_STATUS 0
def SPAWN_ID : Fld := ⟨0x190010, 0, 16⟩
def EGG_COUNT : Fld := ⟨0x190014, 0, 24⟩
def LAST_LEN : Nat := 0x190018
def SRC_FIRST : Fld := ⟨0x19001C, 0, 24⟩
def SRC_COUNT : Fld := ⟨0x190020, 0, 24⟩
def DOWN_CUM : Fld := ⟨0x19002C, 0, 24⟩
def SUB_CUM : Fld := ⟨0x190030, 0, 24⟩
def PARENT_CUM : Fld := ⟨0x190034, 0, 24⟩
def EGG_RX : Nat := 0x190040
def EGG_DUP : Nat := 0x190044
def EGG_BAD : Nat := 0x190048
def STRAY_FLIT : Nat := 0x19004C
def QUEUE_OVER : Nat := 0x190050
def RX_LATE : Nat := 0x190054
def TX_STARVE : Nat := 0x190058
def SPAWN_CACHE : Fld := ⟨0x198000, 0, 20⟩
def SPAWN_CACHE_SIZE : Fld := ⟨0x198004, 0, 24⟩
def spillBase (d : Nat) : Fld := ⟨0x198100 + 8 * d, 0, 20⟩
def spillSize (d : Nat) : Fld := ⟨0x198104 + 8 * d, 0, 20⟩
def childCum (p : Nat) : Fld := ⟨0x198200 + 4 * p, 0, 24⟩

/-! ### PREFIX (Tables PFX-11 to PFX-16) -/

def PFX_STATUS : Nat := 0x3000000
def CMD_STATUS : Fld := ⟨PFX_STATUS, 4, 3⟩
def IMPORT_BUSY : Fld := bitF PFX_STATUS 3
def MIG_ACTIVE : Fld := bitF PFX_STATUS 2
def PASS_RUN : Fld := bitF PFX_STATUS 1
def PFX_CAUSE : Nat := 0x3000008
def CMD_REF : Fld := ⟨0x3000010, 0, 24⟩
def CMD_ARG : Nat := 0x3000014
def SVC_TILES : Nat := 0x3000018
def PFX_QQ : Fld := ⟨0x3000020, 0, 6⟩
def PFX_RQ : Fld := ⟨0x3000020, 8, 6⟩
def PFX_IQ : Fld := ⟨0x3000020, 16, 6⟩
def CACHE_BASE : Fld := ⟨0x3000024, 0, 17⟩
def CACHE_BLOCKS : Fld := ⟨0x3000028, 0, 17⟩
def MIG_EN : Fld := bitF 0x300002C 31
def MIG_PAGES : Fld := ⟨0x300002C, 0, 12⟩
def MIG_OFS : Nat := 0x3000030
def PASSES : Nat := 0x3000040
def LATE_PASS : Nat := 0x3000044
def PASS_ABANDON : Nat := 0x3000048
def REFUSED_PKTS : Nat := 0x300004C
def PAGES_IN : Nat := 0x3000050
def INSTALL_DROP : Nat := 0x3000054
def MIGRATED : Nat := 0x3000058
def CACHE_READS : Nat := 0x300005C
def LAST_DROP : Nat := 0x3000060
/-- The registers of clutch entry i. -/
def clE (i ofs : Nat) : Nat := 0x3010000 + 0x40 * i + ofs
def clGen (i : Nat) : Fld := ⟨clE i 0, 16, 12⟩
def clBad (i : Nat) : Fld := bitF (clE i 0) 4
def clEvictPend (i : Nat) : Fld := bitF (clE i 0) 3
/-- 0 FREE, 1 OPEN, 2 SEALED. -/
def clSt (i : Nat) : Fld := ⟨clE i 0, 0, 2⟩
def clPresent (i : Nat) : Fld := ⟨clE i 0x10, 0, 27⟩
def clSealStep (i : Nat) : Nat := clE i 0x14
def clEvictStep (i : Nat) : Nat := clE i 0x1C
def clReads (i : Nat) : Nat := clE i 0x24
/-- The registers of pass entry j. -/
def passR (j ofs : Nat) : Nat := 0x3050000 + 0x10 * j + ofs
def residA (e : Nat) : Nat := 0x3060000 + 8 * e
def residB (e : Nat) : Nat := 0x3060004 + 8 * e

/-! ### NET (Tables NTM-5 to NTM-8) -/

def NET_CTRL : Nat := 0x400000
def MOD_TX_OFF : Fld := bitF NET_CTRL 1
def UTC_CLAIM : Fld := bitF NET_CTRL 3
def PROMISC : Fld := bitF NET_CTRL 2
def PORT_EN : Fld := bitF NET_CTRL 0
def NET_STATUS : Nat := 0x400004
def HT_UTC_VALID : Fld := bitF NET_STATUS 1
def NET_LINK_UP : Fld := bitF NET_STATUS 0
def NET_CAUSE : Nat := 0x400008
def MAC_ADDR : Nat := 0x400010
def MOD_STATUS : Nat := 0x400020

/-! ### HOSTIF (Tables HST-8, HST-9) -/

def HST_STATUS : Nat := 0x500000
def BME : Fld := bitF HST_STATUS 7
def MSIX_EN : Fld := bitF HST_STATUS 6
def MSIX_MASKED : Fld := bitF 0x800C 0
def HST_CAUSE : Nat := 0x500004
def APER_BASE : Fld := ⟨0x500010, 0, 12⟩
def LOG_DMA_SEL : Nat := 0x500014
def APER_TIMEOUTS : Nat := 0x500018
def LOG_DMA_LOST : Nat := 0x50001C
def MGMT_LOST : Nat := 0x500020
def ringBase (i : Nat) : Nat := 0x500100 + 0x20 * i
def ringSize (i : Nat) : Fld := ⟨0x500108 + 0x20 * i, 0, 17⟩
def ringEn (i : Nat) : Fld := bitF (0x50010C + 0x20 * i) 0
def ringHead (i : Nat) : Fld := ⟨0x500110 + 0x20 * i, 0, 17⟩
def ringDone (i : Nat) : Nat := 0x500114 + 0x20 * i

/-! ### Port registers (Tables LNK-11 to LNK-16) -/

/-- The base of the port registers of port p (R200): the LINK block of a die, or the port block of a Krasesta. -/
def portBase (part : Part) (p : Nat) : Nat :=
  match part with
  | .krasesta => 0x1000000 + p / 4 * 0x40000 + 0x8000 * (p % 4 + 1)
  | .die .. => 0x180000

/-- The base of the queue table of port p (Table TRN-10, R224). -/
def queueBase (part : Part) (p : Nat) : Nat :=
  match part with
  | .krasesta => portBase .krasesta p + 0x2000
  | .die .. => 0x192000

/-! ### TIMESTAMPs (R66) -/

/-- The step number before another one, modulo 2^64. -/
def stepBefore (n : Nat) : Nat := (n + (2 ^ 64 - 1)) % 2 ^ 64

/-- 2^-16 ns units in a second. -/
def q16PerSec : Nat := 1000000000 * 65536

/-- The scalar of a TIMESTAMP in units of 2^-16 ns. -/
def tsScalar (x : Nat) : Nat := x / 2 ^ 48 % 2 ^ 48 * q16PerSec + x / 2 ^ 16 % 2 ^ 32 * 65536 + x % 2 ^ 16

/-- The TIMESTAMP of a scalar. -/
def tsOf (q : Nat) : Nat := q / q16PerSec % 2 ^ 48 * 2 ^ 48 + q % q16PerSec

/-- NS is at most 999,999,999: the image is a valid TIMESTAMP (R66). -/
def tsValid (x : Nat) : Bool := decide (x / 2 ^ 16 % 2 ^ 32 ≤ 999999999)

/-! ### Control messages -/

/-- TYPE of a control message. -/
def mType (m : Msg) : Nat := m.toNat / 2 ^ 120
/-- KIND, bits [119:116]. -/
def mKind (m : Msg) : Nat := bitsOf m.toNat 116 4
/-- KIND of a TIME message, bits [119:118]. -/
def mTimeKind (m : Msg) : Nat := bitsOf m.toNat 118 2
/-- ARG of a LEAP message. -/
def mArg (m : Msg) : Nat := bitsOf m.toNat 112 4
/-- STEP_LO of a LEAP message, SEQ of a TIME message: bits [111:96]. -/
def mLo (m : Msg) : Nat := bitsOf m.toNat 96 16
/-- BODY or TS: bits [95:0]. -/
def mBody (m : Msg) : Nat := m.toNat % 2 ^ 96

/-- A LEAP message (Table LEP-2). -/
def leapMsg (kind arg lo body : Nat) : Msg :=
  BitVec.ofNat 128 (2 * 2 ^ 120 + kind % 16 * 2 ^ 116 + arg % 16 * 2 ^ 112 + lo % 2 ^ 16 * 2 ^ 96 + body % 2 ^ 96)

/-- A TIME message (Table HTM-2); flags are BASK_ANY, UTC_VALID, HOLD, PSTEP in [117:114]. -/
def timeMsg (kind flags sq ts : Nat) : Msg :=
  BitVec.ofNat 128 (2 ^ 120 + kind % 4 * 2 ^ 118 + flags % 16 * 2 ^ 114 + sq % 2 ^ 16 * 2 ^ 96 + ts % 2 ^ 96)

/-- A SYNC message of kind CADD (Table CNT-3). -/
def caddMsg (dest core k inc src due : Nat) : Msg :=
  BitVec.ofNat 128 (3 * 2 ^ 120 + dest % 2 ^ 20 * 2 ^ 92 + core % 256 * 2 ^ 84 + k % 64 * 2 ^ 78 + inc % 256 * 2 ^ 68 +
    src % 2 ^ 20 * 2 ^ 48 + due % 2 ^ 32 * 2 ^ 16)

/-- DEST, CORE, COUNTER, K and DUE of a CADD. -/
def cDest (m : Msg) : Nat := bitsOf m.toNat 92 20
def cCore (m : Msg) : Nat := bitsOf m.toNat 84 8
def cCounter (m : Msg) : Nat := bitsOf m.toNat 78 6
def cK (m : Msg) : Nat := bitsOf m.toNat 68 8
def cDue (m : Msg) : Nat := bitsOf m.toNat 16 32

/-- A SYNC message of kind ARRIVE (1) or RELEASE (2) (Table BRS-4). -/
def barMsg (kind round : Nat) (aligned : Bool) (slot node due : Nat) : Msg :=
  BitVec.ofNat 128 (3 * 2 ^ 120 + kind % 16 * 2 ^ 116 + round % 4 * 2 ^ 114 + b2n aligned * 2 ^ 113 + slot % 64 * 2 ^ 106 +
    node % 2 ^ 20 * 2 ^ 80 + due % 2 ^ 32 * 2 ^ 48)

/-- ROUND, ALIGNED, SLOT and DUE of a barrier message. -/
def bRound (m : Msg) : Nat := bitsOf m.toNat 114 2
def bAligned (m : Msg) : Bool := bitOf m.toNat 113
def bSlot (m : Msg) : Nat := bitsOf m.toNat 106 6
def bDue (m : Msg) : Nat := bitsOf m.toNat 48 32

/-! Fields of a request at a core message port (Tables CNT-4, BRS-2). -/

def rqOp (m : Msg) : Nat := bitsOf m.toNat 124 4
def rqSrc (m : Msg) : Nat := bitsOf m.toNat 116 8
/-- LOCAL of a counter request, HALL of a barrier request. -/
def rqFlag (m : Msg) : Bool := bitOf m.toNat 115
def rqDest (m : Msg) : Nat := bitsOf m.toNat 92 20
def rqTag (m : Msg) : Nat := bitsOf m.toNat 96 16
def rqCore (m : Msg) : Nat := bitsOf m.toNat 84 8
def rqCounter (m : Msg) : Nat := bitsOf m.toNat 78 6
def rqK (m : Msg) : Nat := bitsOf m.toNat 64 8
def rqTarget (m : Msg) : Nat := bitsOf m.toNat 32 32
def rqTimeout (m : Msg) : Nat := m.toNat % 2 ^ 32
def rqBar (m : Msg) : Nat := bitsOf m.toNat 90 6
def rqRound (m : Msg) : Nat := bitsOf m.toNat 88 2

/-- A response word (Table CNT-5). -/
def rspMsg (core status tag value ns : Nat) (lateEdge forced sat : Bool) : Msg :=
  BitVec.ofNat 128 (2 ^ 124 + core % 256 * 2 ^ 116 + status % 16 * 2 ^ 112 + tag % 2 ^ 16 * 2 ^ 96 +
    value % 2 ^ 32 * 2 ^ 64 + ns % 2 ^ 32 * 2 ^ 32 + b2n lateEdge * 4 + b2n forced * 2 + b2n sat)
def rsCore (m : Msg) : Nat := bitsOf m.toNat 116 8
def rsStatus (m : Msg) : Nat := bitsOf m.toNat 112 4
def rsTag (m : Msg) : Nat := bitsOf m.toNat 96 16

/-- The LEAP message kinds of Table LEP-3. -/
def kGO : Nat := 0
def kSKIP : Nat := 1
def kHALT : Nat := 2
def kSTOP : Nat := 3
def kSTART_T : Nat := 4
def kSTART_N : Nat := 5
def kREADY : Nat := 8
def kCACK : Nat := 9
def kFAIL : Nat := 10

/-- A fault notice, the 16-byte record of Table FLT-3. -/
def faultNotice (nkind cause node target : Nat) : List Byte :=
  beBytes 16 (0x46 * 2 ^ 120 + nkind % 16 * 2 ^ 116 + cause % 16 * 2 ^ 112 + node % 2 ^ 20 * 2 ^ 92 + target % 2 ^ 20 * 2 ^ 72)

/-- A register of TILE[t] (Table TIL-9), and RUN and STEP_PEND of its STATUS. -/
def tileReg (t ofs : Nat) : Nat := 0x2000000 + 0x20000 * t + ofs
def tRun (t : Nat) : Fld := bitF (tileReg t 0) 7
def tPend (t : Nat) : Fld := bitF (tileReg t 0) 8

/-! ### The PCIe endpoint (R366, Table HST-1) -/

/-- A base address register: its number, its size in bytes, whether it is 64 bits wide and prefetchable. -/
structure BaseReg where
  index : Nat
  size : Nat
  wide : Bool
  prefetchable : Bool
  deriving DecidableEq, Repr

/-- A device power state of PCI Express. -/
inductive PowerState where
  | d0 | d3hot
  deriving DecidableEq, Repr

/-- What the endpoint of a Krasesta shows in configuration space (Table HST-1): its identifiers and Class Code, its BARs (no
others, and no expansion ROM); MSI-X, its vectors and the BAR and offset of the table and of the Pending Bit Array (R424),
MSI vectors and the Interrupt Pin register; the largest Max_Payload_Size and Max_Read_Request_Size; functions, lanes, and the
rate by its code, 5 for 32 GT/s; the power states, and the capabilities that it has or lacks. -/
structure Endpoint where
  vendor : BitVec 16
  device : BitVec 16
  revision : BitVec 8
  classCode : Nat
  bars : List BaseReg
  rom : Bool
  vectors : Nat
  msixTable : Nat × Nat
  msixPba : Nat × Nat
  msi : Nat
  intPin : Nat
  maxPayload : Nat
  maxRead : Nat
  functions : Nat
  lanes : Nat
  rate : Nat
  power : List PowerState
  aspm : Bool
  aer : Bool
  flr : Bool
  sriov : Bool
  ats : Bool
  pasid : Bool
  deriving DecidableEq, Repr

/-- The endpoint of a Krasesta. -/
def endpoint : Endpoint :=
  { vendor := Config.pcieVendor, device := Config.pcieDevice, revision := Config.pcieRevision, classCode := 0x120000
    bars := [⟨0, 64 * 2 ^ 20, true, false⟩, ⟨2, 256 * 2 ^ 20, true, true⟩], rom := false
    vectors := 1, msixTable := (0, 0x8000), msixPba := (0, 0x9000), msi := 0, intPin := 0
    maxPayload := 512, maxRead := 4096, functions := 1, lanes := 4, rate := 5
    power := [.d0, .d3hot], aspm := false, aer := true, flr := true, sriov := false, ats := false, pasid := false }

end Sys2Proof.Machine
end

