-- ==== Sys2Proof/Machine/State.lean ====
section
/-! DEFINITION. The state of one node, its faults and refusals, and the state after reset. -/

namespace Sys2Proof.Machine

/-- The state. Registers live in `regs`, keyed by BAR0 address (17_address_map.md); the other fields hold what no
plain register holds. -/
structure State where
  part : Part
  /-- The commands that wait, first in first out. -/
  pending : List Instr := []
  regs : Tbl Word := []
  /-- The RW words whose Reset column names the structure image, as it set them (R12): CORE_MAP and TILE_MAP. -/
  imgRegs : Tbl Word := []
  /-- Latched upper words of wide registers (R417), and words staged for a wide write (R419), by address. -/
  latch : Tbl Word := []
  staged : Tbl (Option Word) := []
  /-- Hall time in units of 2^-40 ns (R68). -/
  time : Nat := 0
  /-- The present register-clock cycle. -/
  beat : Beat := {}
  nst : NodeState := .tadpole
  /-- The levels of the hall's layout below the root: 3 in a full hall (R23; no image carries it, log entry 16). -/
  layout : Nat := 3
  power : Power := {}
  pulse : Pulse := {}
  clk : Clk := {}
  servo : Servo := {}
  chans : Tbl Chan := []
  /-- The last accepted edge of each measurement source, 1/256 ps (R89). -/
  edges : Tbl (Option Int) := []
  leap : Leap := {}
  flt : Flt := {}
  ports : Tbl Port := []
  regions : Tbl Region := []
  /-- Die: the lanes whose PHY_RX_LOCK is 1, and the cycle since which the block counts it (R395). -/
  rxLock : List (Nat × Nat) := []
  /-- The generators of the regions of a Krasesta. -/
  regClks : Tbl RegClk := []
  cnt : Cnt := {}
  bar : Bar := {}
  /-- What the counter unit has resolved so far in the present cycle. -/
  unit : Option UnitRun := none
  spawn : Spawn := {}
  bulk : Bulk := {}
  /-- Bonded memory of the 72 physical tiles, tile t from t × 2^27; stack space. -/
  bonded : Memory := []
  stack : Memory := []
  /-- The cycle of the alarm of each stack that reports its high-temperature state (Table TIL-13). -/
  stackHot : Tbl (Option Nat) := []
  /-- The edges of the stack controllers' clock at their last reset. -/
  stackAt : Nat := 0
  /-- The physical tiles. -/
  tiles : Tbl Tile := []
  /-- The prefix engine. -/
  pfx : Pfx := {}
  perf : Perf := {}
  /-- The host interface and the image loader. -/
  host : HostIf := {}
  load : Load := {}
  outs : Outs := {}
  /-- The number of free values taken so far (DESIGN CHOICE, log entry 2). -/
  fresh : Nat := 0
  deriving DecidableEq, Repr

/-- Reasons for which the machine stops. -/
inductive Fault where
  /-- An access outside the 576 GB of stack space (R231): raised by the commands that carry a stack address. Safe. -/
  | stackRange
  deriving DecidableEq, Repr

/-- Reasons for which a command is refused. -/
inductive Refusal where
  /-- The command has no meaning yet. Safe. -/
  | notModelled (mnemonic : String)
  deriving DecidableEq, Repr

/-- A Krasesta KSD-72 right after standby power-up (R37, R341): TADPOLE, every register at its Reset value. -/
def State.reset : State := { part := .krasesta }

end Sys2Proof.Machine
end

