-- ==== Sys2Proof/Machine/Ops.lean ====
section
/-! DEFINITION. The named operations every meaning uses: register and field access, wide registers, hall time, ports,
roles, free values, the error log and the sending of control messages. -/

namespace Sys2Proof.Machine

/-! ### Registers -/

/-- Read a register word as it is held. -/
def State.r (s : State) (a : Nat) : Word := tget (regReset s.part) s.regs a

/-- Write a register word. -/
def State.setR (s : State) (a : Nat) (v : Word) : State :=
  { s with regs := tset (regReset s.part) s.regs a v }

/-- Read a register as a number. -/
def State.rn (s : State) (a : Nat) : Nat := (s.r a).toNat

/-- Write a register from a number, modulo 2^32. -/
def State.setN (s : State) (a n : Nat) : State := s.setR a (BitVec.ofNat 32 n)

/-- A word with bits [lo + w - 1 : lo] replaced. -/
def insBits (x lo w n : Nat) : Nat := x - bitsOf x lo w * 2 ^ lo + n % 2 ^ w * 2 ^ lo

/-- Read a field. -/
def State.f (s : State) (F : Fld) : Nat := bitsOf (s.rn F.addr) F.lo F.w

/-- Write a field. -/
def State.setF (s : State) (F : Fld) (n : Nat) : State := s.setN F.addr (insBits (s.rn F.addr) F.lo F.w n)

/-- Is a one-bit field set? -/
def State.bit (s : State) (F : Fld) : Bool := s.f F == 1

/-- Set or clear a one-bit field. -/
def State.setB (s : State) (F : Fld) (b : Bool) : State := s.setF F (b2n b)

/-- Bits of a word that hardware has set in the present cycle. -/
def State.hardBits (s : State) (a : Nat) : Nat := tget (fun _ => 0) s.beat.hard a

/-- Hardware sets a one-bit field that a write clears: a clear in the same cycle does not win (R13). -/
def State.hit (s : State) (F : Fld) : State :=
  { s.setF F 1 with beat := { s.beat with hard := tset (fun _ => 0) s.beat.hard F.addr (s.hardBits F.addr ||| 2 ^ F.lo) } }

/-- Raise bit i of a CAUSE register. -/
def State.raise (s : State) (a i : Nat) : State := s.hit (bitF a i)

/-- A word that a port write has changed is no update by hardware (R417): it counts as standing so in this cycle. -/
def State.settle (s : State) (a : Nat) : State :=
  { s with beat := { s.beat with regs := tset (regReset s.part) s.beat.regs a (s.r a) } }

/-- What registers show, as the present cycle began (R13, R417). -/
def State.before (s : State) : State :=
  { s with
    regs := s.beat.regs, time := s.beat.time, perf := { s.perf with cnt := s.beat.cnt, last := s.beat.last },
    pulse := { s.pulse with gen := s.beat.gen }, flt := { s.flt with shadowAge := s.beat.age } }

/-- Add to a wrapping 32-bit count. -/
def State.addN (s : State) (a n : Nat) : State := s.setN a (s.rn a + n)

/-- Add 1 to a wrapping 32-bit count. -/
def State.inc (s : State) (a : Nat) : State := s.addN a 1

/-- Put a register back to its Reset column. -/
def State.resetR (s : State) (a : Nat) : State := s.setR a (regReset s.part a)

/-- A 64-bit register, low word first. -/
def State.r64 (s : State) (a : Nat) : Nat := s.rn a + 2 ^ 32 * s.rn (a + 4)

/-- Write a 64-bit register. -/
def State.setR64 (s : State) (a n : Nat) : State := (s.setN a n).setN (a + 4) (n / 2 ^ 32)

/-- A 96-bit register. -/
def State.r96 (s : State) (a : Nat) : Nat := s.r64 a + 2 ^ 64 * s.rn (a + 8)

/-- Write a 96-bit register. -/
def State.setR96 (s : State) (a n : Nat) : State := (s.setR64 a n).setN (a + 8) (n / 2 ^ 64)

/-- The next free value: any number, of which nothing is known. -/
def State.freeNat (s : State) : Nat := Config.freeValue s.fresh

/-- The state after a free value has been taken. -/
def State.took (s : State) : State := { s with fresh := s.fresh + 1 }

/-- Apply an operation to every index of a list, in order. -/
def State.each {α : Type} (s : State) (l : List α) (g : State → α → State) : State := l.foldl g s

/-! ### Hall time (R66 to R71) -/

/-- The reading in units of 2^-16 ns. -/
def State.now (s : State) : Nat := s.time / 2 ^ 24

/-- Whole nanoseconds of the reading. -/
def State.nowNs (s : State) : Nat := s.now / 65536

/-- The reading as a TIMESTAMP. -/
def State.stamp (s : State) : Nat := tsOf s.now

/-- The NS field of the reading. -/
def State.nsField (s : State) : Nat := s.nowNs % 1000000000

/-- The SEC field of the reading. -/
def State.secField (s : State) : Nat := s.nowNs / 1000000000 % 2 ^ 48

/-- Hall time wraps with its 48-bit seconds. -/
def timeWrap : Nat := 2 ^ 48 * q16PerSec * 2 ^ 24

/-- Add a signed amount, in units of 2^-40 ns, to hall time. -/
def State.addTime (s : State) (d : Int) : State := { s with time := ((s.time : Int) + d) % (timeWrap : Int) |>.toNat }

/-- The instant of a TIMESTAMP has come: the reading is that instant or later (R114). -/
def State.reached (s : State) (q : Nat) : Bool := decide (q ≤ s.now)

/-! ### The node -/

/-- LEVEL of the node identifier (Table SCP-4): 0 die, 1 tray, 2 row, 3 hall. -/
def State.level (s : State) : Nat := s.f NODE_ID / 2 ^ 18

/-- The node is the root (R110): TIME_STATUS.ROOT. -/
def State.isRoot (s : State) : Bool := s.bit ROOT

/-- The node is a twin (TWIN of its identifier). -/
def State.isTwin (s : State) : Bool := s.bit STRUCT_VALID && bitOf (s.f NODE_ID) 17

/-- A twin whose partner is alive: it has not taken over (R36, R321). -/
def State.quietTwin (s : State) : Bool := s.isTwin && !s.bit TAKEN

/-- LEAPS_ARMED (R109). -/
def State.armed (s : State) : Bool := s.bit LEAPS_ARMED

/-- The node is in TADPOLE. -/
def State.inTadpole (s : State) : Bool := s.nst == .tadpole

/-- The 20-bit node identifier a node shows: 0xFFFFF in TADPOLE (R197). -/
def State.shownId (s : State) : Nat := if s.inTadpole then 0xFFFFF else s.f NODE_ID

/-- D_down (R23): the hop contracts of Table MDL-1 from the root to the deepest node of the layout, ns. -/
def State.dDown (s : State) : Nat := if s.layout = 1 then 1600 else if s.layout = 2 then 2700 else 3200

/-- The node has the step number STEP_COUNT. -/
def State.step (s : State) : Nat := s.r64 STEP_COUNT

/-! ### Ports -/

/-- The default wheel (R185): T at multiples of 32, P at 16 of 32, F elsewhere; an entry is CLASS in [7:6]. -/
def wheelDefault (i : Nat) : Byte := if i % 32 = 0 then 0x40 else if i % 32 = 16 then 0x80 else 0xC0

/-- A port's runtime. -/
def State.port (s : State) (p : Nat) : Port := tget (fun _ => {}) s.ports p

/-- Replace a port's runtime. -/
def State.setPort (s : State) (p : Nat) (x : Port) : State :=
  { s with ports := tset (fun _ => {}) s.ports p x }

/-- Change a port's runtime. -/
def State.modPort (s : State) (p : Nat) (g : Port → Port) : State := s.setPort p (g (s.port p))

/-- The address of a port register. -/
def State.pa (s : State) (p ofs : Nat) : Nat := portBase s.part p + ofs

/-- USE of LINK_CFG: 0 unused, 1 down, 2 active up, 3 standby up, 4 twin link. The uplink of a die is its up port. -/
def State.use (s : State) (p : Nat) : Nat :=
  if p < s.part.numPorts then s.f ⟨s.pa p 0, 20, 3⟩ else 0

/-- PEER_EXP of LINK_CFG. -/
def State.peerExp (s : State) (p : Nat) : Nat := s.f ⟨s.pa p 0, 0, 20⟩

/-- WIDTH of LINK_CFG: 0 2-lane, 1 4-lane, 2 8-lane, 3 ganged. -/
def State.width (s : State) (p : Nat) : Nat := s.f ⟨s.pa p 0, 24, 2⟩

/-- TSTATE of LINK_STATUS (Table LNK-8). -/
def State.tstate (s : State) (p : Nat) : Nat := s.f ⟨s.pa p 8, 0, 3⟩

/-- The port is in UP. -/
def State.portUp (s : State) (p : Nat) : Bool := s.tstate p == 4

/-- The ports of the part. -/
def State.allPorts (s : State) : List Nat := List.range s.part.numPorts

/-- The group of port p is ganged and odd, so port p belongs to the channel of the group below it (R178). -/
def State.gangedUpper (s : State) (p : Nat) : Bool :=
  s.part.isK && p / 4 % 2 == 1 && bitOf (s.rn (0x1000000 + p / 4 * 0x40000)) 2

/-- The port whose block holds the wheel and the queue table of port p (R178, R200, R224). -/
def State.chanOf (s : State) (p : Nat) : Nat := if s.gangedUpper p then p - 4 else p

/-- Ports of one use; a ganged channel is named by its first port. -/
def State.portsOf (s : State) (u : Nat) : List Nat := s.allPorts.filter (fun p => s.use p == u && !s.gangedUpper p)

/-- Down ports. -/
def State.downPorts (s : State) : List Nat := s.portsOf 1

/-- A down port kept as a spare for an eft: PEER_EXP 0xFFFFF (R324). No child of the layout is behind it. -/
def State.spare (s : State) (p : Nat) : Bool := s.use p == 1 && s.peerExp p == 0xFFFFF

/-- The down ports toward children of the layout: an eft never votes, acknowledges, arrives or fails, and its spawn
report is not counted (R325). -/
def State.kidPorts (s : State) : List Nat := s.downPorts.filter (fun p => !s.spare p)

/-- SEL_ACTIVE names UP_STANDBY, so the standby up port has become the active one (R321). -/
def State.upSwapped (s : State) : Bool := s.part.isK && s.f SEL_ACTIVE == 3

/-- The active up port. -/
def State.upActive (s : State) : List Nat := s.portsOf (if s.upSwapped then 3 else 2)

/-- The standby up port. -/
def State.upStandby (s : State) : List Nat := if s.part.isK then s.portsOf (if s.upSwapped then 2 else 3) else []

/-- The twin link. -/
def State.twinPorts (s : State) : List Nat := s.portsOf 4

/-- The port that SEL_ACTIVE names (R113): the uplink of a die, an up port, or the twin link of a twin. -/
def State.selPort (s : State) : List Nat :=
  if ¬ s.part.isK then [0]
  else match s.f SEL_ACTIVE with
    | 2 => s.portsOf 2
    | 3 => s.portsOf 3
    | 4 => s.portsOf 4
    | _ => []

/-- PORT_FENCE of a port; a die fences no port. -/
def State.fenced (s : State) (p : Nat) : Bool := s.part.isK && s.bit (portFence p)

/-- A fenced port, or a port of a node in FENCED (R199, first case). -/
def State.fencePort (s : State) (p : Nat) : Bool := s.fenced p || s.nst == .fenced

/-- The port carries reduced traffic (R199). -/
def State.reduced (s : State) (p : Nat) : Bool :=
  s.fencePort p || s.upStandby.contains p || (s.quietTwin && s.use p == 1)

/-- May a port with reduced traffic send this message (Table LNK-10)? -/
def State.maySend (s : State) (p : Nat) (m : Msg) : Bool :=
  if ¬ s.reduced p then true
  else if mType m == 1 || mType m == 4 then true
  else if s.fencePort p then false
  else if s.upStandby.contains p then
    (mType m == 2 && (mKind m == kREADY || mKind m == kCACK || mKind m == kFAIL)) ||
      (mType m == 3 && (mKind m == 0 || mKind m == 1))
  else false

/-- Make a control message ready to leave a port (R186); a message outside Table LNK-10 is withheld without count
(R199), and a port that is not in UP sends none (DEDUCED, log entry 12). -/
def State.sendCtrl (s : State) (p : Nat) (m : Msg) : State :=
  if s.portUp p && s.maySend p m then s.modPort p (fun x => { x with ctrl := x.ctrl ++ [m] }) else s

/-- Send a message on every port of a list. -/
def State.sendAll (s : State) (ps : List Nat) (m : Msg) : State := s.each ps (fun s p => s.sendCtrl p m)

/-- The twin link of a root or row node, which carries every control message of its down ports (R36). -/
def State.mirror (s : State) : List Nat := if s.isTwin then [] else s.twinPorts

/-- The ports of a downward message: every unfenced down port, and at a root or row node its twin link (R36, R111). -/
def State.downSet (s : State) : List Nat := s.downPorts.filter (fun p => !s.fenced p) ++ s.mirror

/-- Forward a message downward. -/
def State.sendDown (s : State) (m : Msg) : State := s.sendAll s.downSet m

/-- Send a message on the active and on the standby up port (R36). -/
def State.sendUp (s : State) (m : Msg) : State := s.sendAll (s.upActive ++ s.upStandby) m

/-- The uplink of a die is in loopback mode (R413): LOOP has been accepted, and neither a clear of it nor a reset has
ended the mode. -/
def State.looped (s : State) : Bool := !s.part.isK && s.outs.loop

/-- The eft entries. -/
def eftEntries : List Nat := [0, 1]

/-- The far end's identity that a port expects: that of the shadowed port on an eft port (R325), its own in loopback
(R413), else PEER_EXP. -/
def State.expectedId (s : State) (p : Nat) : Nat :=
  if s.looped then s.f NODE_ID
  else match (if s.part.isK then eftEntries.find? (fun e => s.bit (eftEn e) && s.f (eftPortF e) == p) else none) with
    | some e => s.peerExp (s.f (eftShadowF e))
    | none => s.peerExp p

/-- Make a fault notice ready for the next F slot of a port (R317, R321). -/
def State.sendNotice (s : State) (p nkind cause : Nat) : State :=
  s.modPort p (fun x => { x with notices := x.notices ++ [faultNotice nkind cause (s.f NODE_ID) (s.expectedId p)] })

/-! ### The error log (R337) -/

/-- The four words of a log entry. -/
def State.logWords (s : State) (code arg : Nat) : List Nat :=
  [2 ^ 31 + code % 256 * 2 ^ 16, s.nsField, s.secField % 2 ^ 32, arg % 2 ^ 32]

/-- Queue a copy of a log entry for RX0 when LOG_DMA_SEL selects its source: RKIND 1 error log, 2 step report, 3 eft
log (R376). With 64 records waiting, or with Bus Master Enable 0 (R379), the record is lost. -/
def State.logDma (s : State) (rkind idx : Nat) (ws : List Nat) : State :=
  if s.part.isK && bitOf (s.rn LOG_DMA_SEL) (rkind - 1) then
    if s.bit BME && decide (s.flt.logQ.length < 64) then
      { s with flt := { s.flt with logQ := s.flt.logQ ++ [[rkind, idx, 0, 0] ++ ws] } }
    else (s.inc LOG_DMA_LOST).raise HST_CAUSE 9
  else s

/-- Write an error-log entry: lost while the log is frozen, and freezing it where FREEZE_ON selects the code. -/
def State.log (s : State) (code arg : Nat) : State :=
  if s.bit LOG_FROZEN then s.inc LOG_LOST
  else
    let w := s.logWords code arg
    let e := s.f LOG_WPTR
    let a := logEntry e
    let s := ((((s.setN a (w.getD 0 0)).setN (a + 4) (w.getD 1 0)).setN (a + 8) (w.getD 2 0)).setN (a + 12) (w.getD 3 0))
    let s := (s.setF LOG_WPTR (e + 1)).logDma 1 e w
    if bitOf (s.r64 FREEZE_ON) code then (s.setB LOG_FROZEN true).raise GK_CAUSE 4 else s

/-- An event for the event counters: n events of a code at an instance (R384, Table HST-7). -/
def State.evN (s : State) (code inst n : Nat) : State :=
  { s with perf := { s.perf with infl := ⟨code, inst, n, s.beat.n⟩ :: s.perf.infl } }

/-- One event. -/
def State.ev (s : State) (code : Nat) (inst : Nat := 0) : State := s.evN code inst 1

/-- The gecko island answers: that of a Krasesta has standby power (R37, R429). -/
def State.geckoOn (s : State) : Bool := !s.part.isK || s.power.standby

/-- A die has its local clock: the last window of R393 did not end without an edge. -/
def State.lclkOn (s : State) : Bool := !(s.bit LCLK_FAULT && s.f LCLK_MEAS == 0)

/-- The main part answers: that of a die is not held in reset and has LCLK (R406, R410); in a Krasesta 48V_IN is in range
and the converters, which the gecko island turns on, are (R429, R430). -/
def State.mainOn (s : State) : Bool :=
  if s.part.isK then s.power.main && s.power.converters else !s.power.held && s.lclkOn

/-- An access to a register of the main part: without effect while the main part does not answer (R406). -/
def State.inMain (s : State) (g : State → State) : State := if s.mainOn then g s else s

/-- A write that the lock of a load (R348) ignores while LOAD_BUSY is 1, with CFG_LOCKED. -/
def State.loadFree (s : State) (g : State → State) : State := if s.bit LOAD_BUSY then s.raise LEAP_CAUSE 12 else g s

/-- A write of a register of the main part that a load locks. -/
def State.unlocked (s : State) (g : State → State) : State := s.inMain (fun s => s.loadFree g)

/-! ### Node states (R34, R358) -/

/-- Enter a node state: STATE_CHANGE is raised when NODE_STATE changes (Table IMG-11). -/
def State.enter (s : State) (n : NodeState) : State :=
  if s.nst = n then s else { s with nst := n }.raise CFG_CAUSE 4

end Sys2Proof.Machine
end

