-- ==== Sys2Proof/Machine/Tdc.lean ====
section
/-! DEFINITION. Edge measurement (R89 to R93): the channels of TDC and TDCX, their samples and statistics. -/

namespace Sys2Proof.Machine

/-- What every meaning answers. -/
abbrev Out := Host.Outcome State Fault Refusal

/-- The base of the TDC block of a die, of TDCX in a Krasesta (R96). -/
def State.tdcBase (s : State) : Nat := if s.part.isK then 0x300000 else 0x118000

/-- Number of measurement channels. -/
def State.numCh (s : State) : Nat := if s.part.isK then 4 else 1

/-- The address of a channel register. -/
def State.ch (s : State) (c ofs : Nat) : Nat := s.tdcBase + 0x100 * (c + 1) + ofs

/-- A channel's runtime. -/
def State.chan (s : State) (c : Nat) : Chan := tget (fun _ => {}) s.chans c

/-- Replace a channel's runtime. -/
def State.setChan (s : State) (c : Nat) (x : Chan) : State := { s with chans := tset (fun _ => {}) s.chans c x }

/-- The edge sources of Table HTM-8. -/
def edgeSource (p : Part) (c : Nat) : Bool :=
  if p.isK then (decide (1 ≤ c) && decide (c ≤ 4)) || (decide (8 ≤ c) && decide (c ≤ 0x10)) ||
    (decide (0x40 ≤ c) && decide (c < 0x88))
  else c == 0xF || c == 0x10 || c == 0x11 || c == 0x13 || c == 0x40

/-- The sources that are offsets of used exchanges. -/
def offsetSource (p : Part) (c : Nat) : Bool :=
  if p.isK then decide (0x90 ≤ c) && decide (c < 0xD8) else c == 0x90

/-- The sources of a channel exist and suit its mode (R91). -/
def State.chOk (s : State) (c : Nat) : Bool :=
  let w := s.rn (s.ch c 0)
  let a := bitsOf w 0 8
  let b := bitsOf w 8 8
  match bitsOf w 16 2 with
  | 0 => edgeSource s.part a && edgeSource s.part b && a != b
  | 2 => offsetSource s.part a && b == 0
  | _ => edgeSource s.part a && b == 0

/-- Rational a / n rounded to the nearest integer, ties to even. -/
def roundEven (a : Int) (n : Nat) : Int :=
  let q := a / n
  let r := a % n
  if 2 * r < n then q else if (n : Int) < 2 * r then q + 1 else if q % 2 = 0 then q else q + 1

/-- floor (sqrt x) for x below 2^(2 b), by bits from b - 1 down. -/
def isqrt : Nat → Nat → Nat → Nat
  | 0, _, r => r
  | b + 1, x, r => if (r + 2 ^ b) * (r + 2 ^ b) ≤ x then isqrt b x (r + 2 ^ b) else isqrt b x r

/-- sqrt v / n rounded to the nearest integer, ties to even. -/
def rootEven (v n : Nat) : Nat :=
  let r := isqrt 80 v 0 / n
  let h := (2 * r + 1) * (2 * r + 1) * n * n
  if 4 * v < h then r else if h < 4 * v then r + 1 else if r % 2 = 0 then r else r + 1

/-- 2^-16 ns in units of 1/256 ps. -/
def q16ToTdc (q : Int) : Int := q * 125 / 32

/-- N of a block that begins now: K as it stands (R92; DEDUCED, log entry 118). -/
def State.blockN (s : State) (c : Nat) : Nat := 2 ^ bitsOf (s.rn (s.ch c 4)) 0 5

/-- A block begins with no samples. -/
def State.clearBlock (s : State) (c : Nat) : State :=
  (s.setN (s.ch c 0xC) 0).setChan c { s.chan c with sum := 0, sumsq := 0, min := 0, max := 0, bask := 0, n := s.blockN c }

/-- Raise TDC_DROP and count in a half of DROP_COUNT, saturating. -/
def State.tdcDrop (s : State) (c lo : Nat) : State :=
  let F : Fld := ⟨s.ch c 0x34, lo, 16⟩
  (s.setF F (min 0xFFFF (s.f F + 1))).raise s.tdcBase (4 + c)

/-- A block of n samples ends (R92); CONT is judged as it stands then (DESIGN CHOICE, log entry 118). -/
def State.endBlock (s : State) (c n : Nat) : State :=
  let x := s.chan c
  let v := n * x.sumsq.toNat - (x.sum.toInt * x.sum.toInt).toNat
  let s := (s.setR64 (s.ch c 0x10) (unsignedOf 64 (roundEven x.sum.toInt n))).setR64 (s.ch c 0x18)
    (if n = 1 then 0 else rootEven v n)
  let s := ((s.setR64 (s.ch c 0x20) (unsignedOf 64 x.min)).setR64 (s.ch c 0x28) (unsignedOf 64 x.max)).setN (s.ch c 0x30) x.bask
  let s := (s.setB (bitF (s.ch c 8) 1) true).setB (bitF (s.ch c 8) 2) (x.bask != 0)
  let s := s.raise s.tdcBase c
  if s.bit (bitF (s.ch c 4) 9) then s.clearBlock c else s.setB (bitF (s.ch c 8) 0) false

/-- One sample of a channel, 1/256 ps (R91, R92). -/
def State.sample (s : State) (c : Nat) (v : Int) : State :=
  if v.natAbs > 256 * 10 ^ 12 then s.tdcDrop c 0
  else
    let x := s.chan c
    let k := s.rn (s.ch c 0xC)
    let tainted := (s.part.isK && s.bit BASK) || s.bit BASK_ANY
    let x := { x with
      sum := x.sum + BitVec.ofInt 128 v, sumsq := x.sumsq + BitVec.ofInt 128 (v * v)
      min := if k = 0 then v else if v < x.min then v else x.min
      max := if k = 0 then v else if x.max < v then v else x.max
      bask := x.bask + b2n tainted }
    let s := ((s.setChan c x).setR64 (s.ch c 0x38) (unsignedOf 64 v)).setN (s.ch c 0xC) (k + 1)
    if x.n ≤ k + 1 then s.endBlock c x.n else s

/-- An edge follows the previous accepted edge of its source by less than 16 ns (R89); after a backward step of hall time
the reading says nothing of the interval, and the edge is accepted. -/
def tooSoon (last : Option Int) (t : Int) : Bool :=
  match last with
  | none => false
  | some u => decide (u ≤ t) && decide (t - u < 16 * 256000)

/-- Time of an edge minus the nearest multiple of PHASE_MOD ns. -/
def phaseOf (m : Nat) (t : Int) : Int :=
  let M : Int := (m : Int) * 256000
  let r := t % M
  if M < 2 * r then r - M else r

/-- An accepted edge, or an offset, at one channel, by CH_SRC as GO took it. -/
def State.chEdge (s : State) (src : Nat) (t : Int) (c : Nat) : State :=
  let x := s.chan c
  let a := bitsOf x.src 0 8
  let b := bitsOf x.src 8 8
  if ¬ s.bit (bitF (s.ch c 8) 0) then s
  else if src = a then
    match bitsOf x.src 16 2 with
    | 0 => s.setChan c { x with start := some t }
    | 1 =>
      let s := s.setChan c { x with start := some t }
      match x.start with
      | some u => s.sample c (t - u)
      | none => s
    | 2 => s.sample c t
    | _ => s.sample c (phaseOf x.phaseMod t)
  else if src = b ∧ bitsOf x.src 16 2 = 0 then
    match x.start with
    | some u => (s.setChan c { x with start := none }).sample c (t - u)
    | none => s
  else s

/-- A channel in a block takes edges of a source. -/
def State.chListens (s : State) (src c : Nat) : Bool :=
  let w := (s.chan c).src
  s.bit (bitF (s.ch c 8) 0) && (bitsOf w 0 8 == src || (bitsOf w 8 8 == src && bitsOf w 16 2 == 0))

/-- The edge that a source gives (Table HTM-8): TI_CFG selects those of a TI input; the references give rising ones. -/
def State.edgeTaken (s : State) (src : Nat) (fall : Bool) : Bool :=
  if src = 0 then false
  else if s.part.isK ∧ src ≤ 4 then
    match bitsOf (s.rn 0x300008) (2 * (src - 1)) 2 with
    | 0 => !fall
    | 1 => fall
    | 2 => true
    | _ => false
  else !fall

/-- An edge at a measurement source (R89): one that follows the last accepted edge of its source too soon is dropped. -/
def State.tdcEdge (s : State) (src : Nat) (t : Int) : State :=
  if tooSoon (tget (fun _ => none) s.edges src) t then
    s.each ((List.range s.numCh).filter (s.chListens src)) (fun s c => s.tdcDrop c 16)
  else
    { s with edges := tset (fun _ => none) s.edges src (some t) }.each (List.range s.numCh) (fun s c => s.chEdge src t c)

/-- The offset of a used exchange at the channels (Table HTM-8). -/
def State.tdcOffset (s : State) (src : Nat) (v : Int) : State :=
  s.each (List.range s.numCh) (fun s c => s.chEdge src v c)

/-- An edge of the node itself, now. -/
def State.tdcNow (s : State) (src : Nat) : State := s.tdcEdge src (q16ToTdc s.now)

/-- A write of CH_CTRL (R93): K and CONT, then ABORT, which wins over GO. A refused GO leaves no block that takes samples
(R91). -/
def State.chCtrlWrite (s : State) (c : Nat) (v : Nat) : State :=
  let s := if bitsOf v 0 5 ≤ 20 then s.setF ⟨s.ch c 4, 0, 5⟩ v else s
  let s := s.setB (bitF (s.ch c 4) 9) (bitOf v 9)
  if bitOf v 8 then (s.setB (bitF (s.ch c 8) 0) false).setB (bitF (s.ch c 4) 9) false
  else if bitOf v 7 then
    if s.chOk c then
      let s := (s.setN (s.ch c 8) 1).setN (s.ch c 0x34) 0
      (s.setChan c { phaseMod := s.rn (s.ch c 0x40), src := s.rn (s.ch c 0), n := s.blockN c }).setN (s.ch c 0xC) 0
    else (s.setB (bitF (s.ch c 8) 3) true).setB (bitF (s.ch c 8) 0) false
  else s

/-- CH_GO (R93). -/
def execChGo (ch : Nat) (v : Word) (s : State) : Out :=
  .next (if ch < s.numCh then s.unlocked (fun s => s.chCtrlWrite ch (v ||| 0x80).toNat) else s)

/-- CH_ABORT (R93). -/
def execChAbort (ch : Nat) (v : Word) (s : State) : Out :=
  .next (if ch < s.numCh then s.unlocked (fun s => s.chCtrlWrite ch (v ||| 0x100).toNat) else s)

end Sys2Proof.Machine
end

