-- ==== Sys2Proof/Machine/RegionOps.lean ====
section
/-! DEFINITION. Clock regions: frequency and voltage of a tile region, pre-raise and profile switch (R293 to R307). -/

namespace Sys2Proof.Machine

/-- A region's runtime. -/
def State.region (s : State) (r : Nat) : Region := tget (fun _ => {}) s.regions r

/-- Replace a region's runtime. -/
def State.setRegion (s : State) (r : Nat) (x : Region) : State :=
  { s with regions := tset (fun _ => {}) s.regions r x }

/-- The generator of a region. -/
def State.regClk (s : State) (r : Nat) : RegClk := tget (fun _ => {}) s.regClks r

/-- Replace it. -/
def State.setRegClk (s : State) (r : Nat) (x : RegClk) : State := { s with regClks := tset (fun _ => {}) s.regClks r x }

/-- The edges that a region's generator has given (R229). -/
def State.regEdges (s : State) (r : Nat) : Nat := ((s.regClk r).run + Config.regionPhase r % 1000) / 1000

/-- One nanosecond of a region's generator at its present frequency; a lengthened period takes of it first (R301). -/
def State.runRegion (s : State) (r : Nat) : State :=
  let c := s.regClk r
  let f := s.f (rgFreq r)
  s.setRegClk r { run := c.run + (f - c.debt), debt := c.debt - f }

/-- The generators of the 12 regions of a Krasesta run for a nanosecond. -/
def State.runRegions (s : State) : State := if s.part.isK then s.each (List.range 12) (fun s r => s.runRegion r) else s

/-- The nine tile regions. -/
def tileRegions : List Nat := List.range 9

/-- The trim of a region, mV (R296). -/
def State.trim (s : State) (r : Nat) : Int := signed 8 (s.f (rgTrim r))

/-- A setpoint kept within 600 to 950 mV (R296). -/
def clampMv (v : Int) : Nat := if v < 600 then 600 else if 950 < v then 950 else v.toNat

/-- vf(f) plus the region's trim, as a setpoint. -/
def State.vneed (s : State) (r f : Nat) : Nat := clampMv (Config.vf f + s.trim r)

/-- Set the present frequency of a region. -/
def State.setFreq (s : State) (r f : Nat) : State := s.setF (rgFreq r) f

/-- The monitors of the 12 regions of a Krasesta show the frequency and the supply of each (Table REG-6). -/
def State.monitor (s : State) : State :=
  if s.part.isK then
    s.each (List.range 12) (fun s r => s.setN (monVf r) (s.f (rgFreq r) * 2 ^ 16 + s.f (rgVset r)))
  else s

/-- Set VSET. A higher setpoint is present only after VOLTAGE_REACHED (R296). -/
def State.setVset (s : State) (r v : Nat) : State :=
  let x := s.region r
  let old := s.f (rgVset r)
  let s := s.setF (rgVset r) v
  let now := x.volt.getD old
  s.setRegion r { x with volt := if now < v then some now else none }

/-- The voltage present in a region. -/
def State.voltNow (s : State) (r : Nat) : Nat := (s.region r).volt.getD (s.f (rgVset r))

/-- f_perm of R296: the lowest of ceiling, thermal cap and power cap, never below 1,500. -/
def State.fperm (s : State) (r : Nat) : Nat :=
  max 1500 (min (s.f (profCeil (s.f PROFILE) r)) (min (s.region r).therm (s.f CAP_MHZ)))

/-- A tile region runs at CAP_MHZ below its other limits (Table REG-8). -/
def State.pwrCapped (s : State) (r : Nat) : Bool :=
  let cap := s.f CAP_MHZ
  let other := min (s.f (profCeil (s.f PROFILE) r)) (s.region r).therm
  decide (cap < other) && s.f (rgFreq r) == max 1500 cap && !s.bit (rgPinned r)

/-- THERM_CAPPED and PWR_CAPPED of a tile region. -/
def State.markCaps (s : State) (r : Nat) : State :=
  if r < 9 then (s.setB (rgThermCapped r) (decide ((s.region r).therm < 2000))).setB (rgPwrCapped r) (s.pwrCapped r) else s

/-- A region that no pin and no trip holds. -/
def State.unpinned (s : State) (r : Nat) : Bool := !s.bit (rgPinned r) && (s.region r).pin.isNone && !s.bit TRIPPED

/-- The highest frequency that a region's present voltage supports by the fused V/F table, with the region's trim as in
every voltage that a frequency requires (R294, R296; DEDUCED, log entry 139); 0 for none of the table's 25 MHz steps. -/
def State.vfMax (s : State) (r : Nat) : Nat :=
  ((List.range 21).filter (fun i => decide (s.vneed r (1500 + 25 * i) ≤ s.voltNow r))).foldl (fun m i => max m (1500 + 25 * i)) 0

/-- The step whose launch pends: STEP_COUNT + 1, modulo 2^64. -/
def State.pendStep (s : State) : Nat := (s.step + 1) % 2 ^ 64

/-- The valid PLAN_EPOCH entry that names a step, if any, that of the lowest index (DESIGN CHOICE, log entry 130): its
profile (R128). -/
def State.planEpochAt (s : State) (n : Nat) : Option Nat :=
  ((List.range 16).find? (fun i => bitOf (s.rn (planEpoch i + 8)) 31 && s.r64 (planEpoch i) == n)).map
    (fun i => s.rn (planEpoch i + 8) % 16)

/-- The profiles whose switches are in preparation (R295): the pending software epoch, and the plan epoch of the step
whose launch pends. -/
def State.prepared (s : State) : List Nat :=
  (match s.leap.epoch with
    | some e => [e.2]
    | none => []) ++
  (if s.bit LAUNCH_PEND then
      match s.planEpochAt s.pendStep with
      | some p => [p]
      | none => []
    else [])

/-- The voltage that the START of a profile requires in a tile region. -/
def State.vstart (s : State) (r p : Nat) : Nat := s.vneed r (s.f (profStart p r))

/-- The voltage that pre-raises hold in a tile region; 0 with none in force. -/
def State.preVolt (s : State) (r : Nat) : Nat :=
  (s.prepared).foldl (fun v p => max v (max (s.vstart r (s.f PROFILE)) (s.vstart r p))) 0

/-- VSET of a tile region for a frequency, with any pre-raise held. -/
def State.vfor (s : State) (r f : Nat) : Nat := max (s.vneed r f) (s.preVolt r)

/-- The frequency that VSET must support: 25 MHz above the present one while a raise waits. -/
def State.fTarget (s : State) (r : Nat) : Nat := s.f (rgFreq r) + (if (s.region r).rising then 25 else 0)

/-- Before a switch, a cap update or a loop step: note how the region stands, once in a cycle. -/
def State.noteRegion (s : State) (r : Nat) : State :=
  let x := s.region r
  if x.undo.any (fun u => u.at_ == s.beat.n) then s
  else
    s.setRegion r { x with undo := some {
      at_ := s.beat.n, freq := s.f (rgFreq r), trim := s.f (rgTrim r), vset := s.f (rgVset r), volt := x.volt,
      rising := x.rising, therm := x.therm, floorT := x.floorT, floorP := x.floorP } }

/-- What this cycle's switch and loop step have done in a region is set aside (Table REG-2). -/
def State.dropMoves (s : State) (r : Nat) : State :=
  match (s.region r).undo with
  | some u =>
    if u.at_ = s.beat.n then
      (((s.setF (rgFreq r) u.freq).setF (rgTrim r) u.trim).setF (rgVset r) u.vset).setRegion r
        { s.region r with volt := u.volt, rising := u.rising }
    else s
  | none => s

/-- The cap updates of this cycle are set aside at one region. -/
def State.dropCap (s : State) (r : Nat) : State :=
  match (s.region r).undo with
  | some u =>
    if u.at_ = s.beat.n then
      (s.setRegion r { s.region r with therm := u.therm, floorT := u.floorT, floorP := u.floorP }).setB (rgFloorHold r)
        (u.floorT || u.floorP)
    else s
  | none => s

/-- What this cycle's cap updates have done is set aside (Table REG-2): the caps, their flags, causes and events. -/
def State.dropCaps (s : State) : State :=
  let b := s.before
  let s := s.setF CAP_MHZ (b.f CAP_MHZ)
  let s := s.each [0, 1, 2] (fun s i => s.setB (bitF RGX_CAUSE i) (b.bit (bitF RGX_CAUSE i)))
  let now := fun (e : PerfEv) => e.at_ == s.beat.n && decide (0xB0 ≤ e.code) && decide (e.code ≤ 0xB2)
  let s := { s with perf := { s.perf with infl := s.perf.infl.filter (fun e => !now e) } }
  s.each tileRegions (fun s r => s.dropCap r)

/-- One region takes profile p (R294); a loop step of the same cycle is set aside. -/
def State.switchRegion (s : State) (p : Nat) (r : Nat) : State :=
  if s.unpinned r then
    let s := (s.noteRegion r).dropMoves r
    let x := s.region r
    let f := max 1500 (min (s.f (profStart p r)) (min x.therm (min (s.f CAP_MHZ) (s.vfMax r))))
    let s := (s.setRegion r { x with rising := false }).setFreq r f
    (s.setVset r (s.vfor r f)).markCaps r
  else s

/-- A profile switch (R128, R294, R307). -/
def State.switchProfile (s : State) (p : Nat) : State :=
  let s := s.setF PREV_PROFILE (s.f PROFILE)
  let s := (((s.setF PROFILE p).setR96 LAST_SWITCH s.stamp).raise REGION_CAUSE 0).ev 0x39
  if s.part.isK then s.each tileRegions (fun s r => s.switchRegion p r) else s

/-- Drive the region switch strobe of a block for the switch to profile p due at t (2^-16 ns), with its edge at hall
time h (2^-40 ns) at the measurement channel (R307, Table HTM-8). -/
def State.driveSwitch (s : State) (p t h : Nat) : State :=
  ({ s with outs := { s.outs with regionStb := true, regionProf := p % 16, regionAt := some t } }).tdcEdge 0x11
    ((h * 1000 / 2 ^ 32 : Nat) : Int)

/-- The profile switch that is due at t: a block whose strobe has not come before the instant, because the reading moved
past it, drives it now (DESIGN CHOICE, log entry 126). -/
def State.switchStrobe (s : State) (p t : Nat) : State :=
  let s := s.switchProfile p
  if s.part.isK || s.outs.regionAt == some t then s else s.driveSwitch p t s.time

/-- A raised VSET is present: the waiting frequency step is taken (R296). -/
def State.voltReached (s : State) (r : Nat) : State :=
  let x := s.region r
  let s := s.setRegion r { x with volt := none, rising := false }
  if x.rising then s.setFreq r (s.f (rgFreq r) + 25) else s

/-- A frequency raise of a tile region that waits for no voltage is taken. -/
def State.settleRise (s : State) (r : Nat) : State :=
  if r < 9 && (s.region r).rising && (s.region r).volt.isNone then s.voltReached r else s

/-- The voltage of every unpinned tile region as the epochs in preparation ask: no lower than the frequency in force, the
profile in force and every pre-raise require (R295). It begins a pre-raise, and it ends one that is withdrawn. -/
def State.holdVolts (s : State) : State :=
  if s.part.isK then
    s.each tileRegions (fun s r =>
      if s.unpinned r then
        ((s.setVset r (max (s.vfor r (s.fTarget r)) (s.vstart r (s.f PROFILE)))).settleRise r).markCaps r
      else s)
  else s

/-- Release the pin of a region: the voltage returns to vf(f) + trim, and the loop moves on from the pinned frequency
(R306). -/
def State.unpin (s : State) (r : Nat) : State :=
  let s := (s.setB (rgPinned r) false).setRegion r { s.region r with pin := none }
  let s := s.setB (bitF (rgPin r) 31) false
  s.setVset r (s.vneed r (s.f (rgFreq r)))

/-- Latch the stretches since the last leap and start counting anew; those of the present cycle belong to the step that
begins (R303, R403). -/
def State.latchStretch (s : State) : State :=
  s.each (List.range s.part.numRegions) (fun s r =>
    let new := min ((s.rn (stretchCount r) + 2 ^ 32 - s.before.rn (stretchCount r)) % 2 ^ 32) (s.region r).since
    (s.setN (stretchLast r) (min ((s.region r).since - new) 0xFFFFFFFF)).setRegion r { s.region r with since := new })

/-- n more lengthened periods in a region (R301, R309). -/
def State.addStretch (s : State) (r n : Nat) : State :=
  if n = 0 then s else
    (((s.addN (stretchCount r) n).setRegion r { s.region r with since := (s.region r).since + n }).raise
      REGION_CAUSE 1).evN 0x38 r n

end Sys2Proof.Machine
end

