-- ==== Sys2Proof/Machine/Fence.lean ====
section
/-! DEFINITION. Shared fault operations: snapshots and step reports (R330), FAIL (R120), the spawn report (R221),
leaving a run (R109, R124, R125), self-fence (R319), gecko HALT (R335), fences (R317), the selector (R48) and
takeover (R321). -/

namespace Sys2Proof.Machine

/-! ### Snapshots and reports -/

/-- A conditions snapshot by an event of a log code (0 for SNAP_REQ) and an ARG (R330); in a die it takes the monitor values
as the cycle began (R404). -/
def State.snapshot (s : State) (kind source : Nat) : State :=
  if s.bit COND_VALID then s.inc COND_LOST
  else
    let was := if s.part.isK then s else s.before
    let s := (s.setN COND_INFO (kind % 256 * 2 ^ 16 + source % 2 ^ 16)).hit COND_VALID
    let s := (s.setR64 COND_STEP s.step).setN COND_NS s.nsField
    let s := s.each (List.range s.part.numRegions) (fun s r =>
      (((s.setN (condR r 0) (was.rn (monVf r))).setN (condR r 1) (was.rn (monT r))).setN (condR r 2)
        (s.rn (stretchLast r))).setN (condR r 3) (s.rn (stretchCount r)))
    let s := s.each (List.range 16) (fun s k => s.setR64 (perfAt k) (tget (fun _ => 0) s.perf.cnt k))
    let s := if s.part.isK then
        s.each (List.range 32) (fun s k => s.setR64 (0x701000 + 8 * k) (tget (fun _ => 0) s.perf.cnt (16 + k)))
      else s
    s.raise FLT_CAUSE 2

/-- Change the flags that the step report collects. -/
def State.setRpt (s : State) (g : StepFlags → StepFlags) : State :=
  { s with flt := { s.flt with rpt := g s.flt.rpt } }

/-- The registers listed in an address range. -/
def State.listed (s : State) (lo hi : Nat) : Tbl Word := s.regs.filter (fun p => decide (lo ≤ p.1) && decide (p.1 < hi))

/-- FORCED_ANY (R153): some FORCED_MAP bit is set. -/
def State.forcedAny (s : State) : Bool :=
  (s.listed 0x140000 0x150000).any (fun p => (p.1 % 0x100 == 0xC8 || p.1 % 0x100 == 0xCC) && p.2 != 0)

/-- Write the step report entry of the step in progress (Table FLT-14). -/
def State.stepReport (s : State) (halted : Bool) : State :=
  let x := s.flt.rpt
  let i := s.f RPT_WPTR
  let nr := x.notRepro || s.forcedAny
  let rs := List.range s.part.numRegions
  let smax := rs.foldl (fun m r => max m (s.rn (stretchLast r))) 0
  let t0 : Int := rs.foldl (fun m r => max m (signed 16 (s.rn (monT r)))) (x.tempMax.getD (signed 16 (s.rn (monT 0))))
  let w2 := 2 ^ 31 + b2n nr * 2 ^ 30 + b2n x.poison * 2 ^ 29 + b2n x.failSent * 2 ^ 28 + b2n x.late * 2 ^ 27 +
    b2n x.refetch * 2 ^ 26 + b2n x.sentMiss * 2 ^ 25 + b2n x.eftMism * 2 ^ 24 + b2n x.breach * 2 ^ 23 +
    b2n x.progFault * 2 ^ 22 + b2n halted * 2 ^ 21 + min s.leap.skipsInStep 0xFFFF
  let w3 := min smax 0xFFFF * 2 ^ 16 + unsignedOf 16 t0
  let w0 := s.rn STEP_COUNT
  let w1 := s.rn (STEP_COUNT + 4)
  let a := stepRpt i
  let s := (((s.setN a w0).setN (a + 4) w1).setN (a + 8) w2).setN (a + 12) w3
  let s := (s.setF RPT_WPTR (i + 1)).logDma 2 i [w0, w1, w2, w3]
  let s := if nr then s.raise FLT_CAUSE 1 else s
  { s with flt := { s.flt with rpt := {} }, leap := { s.leap with skipsInStep := 0 } }

/-! ### FAIL (R120) -/

/-- The node keeps the root's records: the root, and the hall twin that mirrors it (R36, R123). -/
def State.atHall (s : State) : Bool := s.isRoot || (s.isTwin && s.level == 3)

/-- Send a FAIL upward, own or forwarded: at most one for each step named. At the root it is recorded. -/
def State.sendFail (s : State) (cause lo node : Nat) : State :=
  if s.atHall then
    let s := if bitOf (s.rn FAIL_INFO) 31 then s
      else s.setN FAIL_INFO (2 ^ 31 + cause % 16 * 2 ^ 24 + node % 2 ^ 20)
    ((s.setB FAIL_SEEN true).raise LEAP_CAUSE 9).ev 4
  else if s.leap.failSteps.contains (lo % 2 ^ 16) then s.inc FAIL_DROP
  else
    let s := { s with leap := { s.leap with failSteps := lo % 2 ^ 16 :: s.leap.failSteps } }
    ((s.sendUp (leapMsg kFAIL cause lo (node % 2 ^ 20 * 2 ^ 76))).raise LEAP_CAUSE 9).ev 4

/-- Form a FAIL of this node for a step (R120). -/
def State.formFailAt (s : State) (cause lo node : Nat) : State :=
  (s.setRpt (fun x => { x with failSent := true })).sendFail cause lo node

/-- Form a FAIL that names the running step. -/
def State.formFail (s : State) (cause : Nat) (node : Nat) : State := s.formFailAt cause (s.step % 2 ^ 16) node

/-! ### Commit acknowledgements (R122) -/

/-- Every child that is not fenced has acknowledged the commit that is combined (R122). -/
def State.cacksIn (s : State) : Bool := s.leap.kids.all (fun p => s.leap.cacks.contains p || s.fenced p)

/-- Combine CACKs: forward CACK upward, or set LAST_COMMIT at the root and the hall twin (R122, R123). -/
def State.combineCack (s : State) : State :=
  if s.armed && s.leap.ownCack && s.cacksIn then
    let c := s.leap.combC
    let s := if s.atHall then s.setR64 LAST_COMMIT c else s.sendUp (leapMsg kCACK 0 (c % 2 ^ 16) 0)
    { s with leap := { s.leap with combC := (c + s.f COMMIT_EVERY) % 2 ^ 64, ownCack := false, cacks := [] } }
  else s

/-! ### The spawn report (R221) -/

/-- A cumulative number in the order of R221: 0xFFFFFF comes before every egg number. -/
def cumOrd (c : Nat) : Int := if c = 0xFFFFFF then -1 else (c : Int)

/-- SUB_CUM by R221. -/
def State.subCum (s : State) : Nat :=
  if s.bit S_FAILED then 0xFFFFFF
  else if ¬ s.part.isK then s.f DOWN_CUM
  else s.kidPorts.foldl (fun m p => if cumOrd (s.f (childCum p)) < cumOrd m then s.f (childCum p) else m) (s.f DOWN_CUM)

/-- The egg flow of a port before any egg. -/
def noDir : Nat → EggDir := fun _ => {}

/-- Note that a CONTROL record is due in every direction of an armed spawn (R218). -/
def State.recordsDue (s : State) : State :=
  if s.bit S_ARMED then
    { s with spawn := { s.spawn with dirs := s.allPorts.foldl (fun t p =>
      if s.use p == 0 then t else tset noDir t p { tget noDir t p with due := true }) s.spawn.dirs } }
  else s

/-- SUB_CUM covers the whole image. -/
def State.subAll (s : State) : Bool := decide ((s.f EGG_COUNT : Int) - 1 ≤ cumOrd (s.f SUB_CUM))

/-- Recompute SUB_CUM; at the root COMPLETE is set where it reaches E - 1 while the spawn is armed, and cleared where it
falls below it (R221). -/
def State.spawnReport (s : State) : State :=
  let c := s.subCum
  let was := s.subAll
  let s := if c = s.f SUB_CUM then s else (s.setF SUB_CUM c).recordsDue
  if !s.isRoot then s
  else if !s.subAll then s.setB COMPLETE false
  else if !was && s.bit S_ARMED then (s.setB COMPLETE true).raise Q_CAUSE 6
  else s

/-! ### Clutches becoming FREE (R270, R273, R290) -/

/-- Drop the residence entries of a clutch. -/
def State.dropResid (s : State) (i : Nat) : State :=
  let es := (s.listed 0x3060000 0x30E0000).filterMap (fun p =>
    if p.1 % 8 = 0 ∧ bitOf p.2.toNat 31 ∧ bitsOf p.2.toNat 16 12 = i then some p.1 else none)
  s.each es (fun s a => (s.setN a 0).setN (a + 4) 0)

/-- A transition of an entry to FREE: GEN advances, its residence is dropped, EVICTED is raised. -/
def State.clFree (s : State) (i : Nat) : State :=
  let s := ((s.setF (clGen i) (s.f (clGen i) + 1)).setF (clSt i) 0).setF (clEvictPend i) 0
  let s := ((s.setF (clBad i) 0).setR64 (clEvictStep i) 0x7FFFFFFFFFFFFFFF).dropResid i
  s.raise PFX_CAUSE 7

/-- The entries of the clutch table that are not FREE. -/
def State.clUsed (s : State) : List Nat :=
  (s.listed 0x3010000 0x3050000).filterMap (fun p =>
    if p.1 % 0x40 = 0 ∧ p.2.toNat % 4 ≠ 0 then some ((p.1 - 0x3010000) / 0x40) else none)

/-- Every entry with EVICT_STEP set becomes FREE (R273). -/
def State.clEvictAll (s : State) : State :=
  s.each (s.clUsed.filter (fun i => s.bit (clEvictPend i))) (fun s i => s.clFree i)

/-! ### Leaving a run -/

/-- Leaps are no longer armed (R109). -/
def State.disarm (s : State) : State := s.setB LEAPS_ARMED false

/-- Drop the pending launch. -/
def State.dropLaunch (s : State) : State :=
  let had := s.bit LAUNCH_PEND && (s.planEpochAt s.pendStep).isSome
  let s := (s.setB LAUNCH_PEND false).setB GO_HELD false
  if had then s.holdVolts else s

/-- Enter STOPPED on HALT with a cause (R124). -/
def State.enterHalt (s : State) (cause : Nat) : State :=
  let s := (s.dropLaunch.setB VOTE_OUT false).stepReport true
  let s := (((s.disarm.setB HALTED true).setF HALT_CAUSE cause).raise LEAP_CAUSE 5).log 5 cause
  let s := { s with leap := { s.leap with votes := [], upVoted := false, rootLocal := false } }
  s.enter .stopped

/-- Enter STOPPED on STOP (R125, R273). -/
def State.enterStop (s : State) : State :=
  let s := (s.dropLaunch.setB VOTE_OUT false).stepReport false
  let s := (s.disarm.setB STOP_ENTRY true).raise LEAP_CAUSE 4
  let s := { s with leap := { s.leap with votes := [], upVoted := false, planSinceStop := false } }
  s.clEvictAll.enter .stopped

/-- Keep only TIME and CROAK among the messages that wait at a port that is fenced, or whose node is. -/
def Port.keepReduced (x : Port) : Port :=
  { x with
    ctrl := x.ctrl.filter (fun m => mType m == 1 || mType m == 4)
    deferred := x.deferred.filter (fun m => mType m == 1 || mType m == 4), mgmt := [] }

/-- A node outside TADPOLE fences itself; trigger 1 notice, 2 orphan, 3 R315, 4 FENCE_REQ (R319). -/
def State.selfFence (s : State) (trigger : Nat) : State :=
  if s.inTadpole || s.nst == .fenced then s
  else
    let s := (s.disarm.setB FENCED_SELF true).setN FENCE_INFO (2 ^ 31 + trigger * 2 ^ 28)
    let s := s.each s.allPorts (fun s p => s.modPort p Port.keepReduced)
    ((s.raise GK_CAUSE 1).log 3 trigger).enter .fenced

/-- The tile programs of the root stop where they are (R335; DEDUCED, log entry 142): no program or sentinel runs or is
queued, and none reports an end. -/
def State.stopPrograms (s : State) : State :=
  s.each (s.tiles.filter (fun x => x.2.prog.isSome || x.2.sent.isSome)) (fun s x =>
    let s := (s.setB (tRun x.1) false).setB (tPend x.1) false
    { s with
      tiles := tset (fun _ => {}) s.tiles x.1 x.2.stopped })

/-- Apply the gecko HALT (R335), with the ARG of log code 6. `links` is false when the links are held in reset, so
that no FAIL leaves (Table LEP-5). -/
def State.geckoHalt (s : State) (arg : Nat) (links : Bool) : State :=
  let s := (((s.setB GECKO_HALT true).raise GK_CAUSE 2).log 6 arg)
  let s := { s with leap := { s.leap with relay := true } }
  let s := if s.isRoot then s.stopPrograms else s
  if s.isRoot && s.armed then { s with leap := { s.leap with rootLocal := true } }
  else
    let s := if s.armed && links then s.formFail 5 (s.f NODE_ID) else s
    if s.nst == .running then ((s.dropLaunch.stepReport false).disarm).enter .stopped else s.disarm

/-! ### Fences (R316, R317) -/

/-- FENCE_REC of a port: VALID, cause and NS [29:6]. -/
def State.recordFence (s : State) (p cause : Nat) : State :=
  s.setN (fenceRec p) (2 ^ 31 + cause % 16 * 2 ^ 24 + s.nsField / 64 % 2 ^ 24)

/-- The fence of one port takes effect (R317). -/
def State.applyFence (s : State) (p cause : Nat) : State :=
  if s.fenced p then s
  else
    let s := ((s.setB (portFence p) true).recordFence p cause).modPort p (fun x => { x.keepReduced with tadSeen := false })
    let s := ((s.raise GK_CAUSE 1).log 2 (p * 2 ^ 8 + cause)).sendNotice p 1 cause
    let s := { s with leap := { s.leap with votes := s.leap.votes.filter (· != p) } }.combineCack
    let s := (s.setF (childCum p) 0xFFFFFF).spawnReport
    if s.armed then s.formFail 1 (s.expectedId p) else s

/-- The comparison of an eft is over: ACTIVE clears, and LOST and EFT_LOST are set (R327, Table FLT-15). -/
def State.eftLost (s : State) (e : Nat) : State :=
  ((s.setF (bitF (eftStatus e) 5) 0).setF (bitF (eftStatus e) 4) 1).raise EFT_CAUSE 2

/-- An eft ends (R327): its port is fenced and EFT_LOST is raised. -/
def State.eftEnd (s : State) (e cause : Nat) : State :=
  if s.bit (eftEn e) && !s.bit (bitF (eftStatus e) 4) then (s.applyFence (s.f (eftPortF e)) cause).eftLost e else s

/-- The enabled eft entry on a port whose eft has not ended. -/
def State.eftOf (s : State) (p : Nat) : Option Nat :=
  eftEntries.find? (fun e => s.bit (eftEn e) && !s.bit (bitF (eftStatus e) 4) && s.f (eftPortF e) == p)

/-- Fence a down port for a cause of Table FLT-2, or, at a twin whose partner is alive, record the cause (R316). A
fence of a shadowed port ends its eft (R327). -/
def State.fenceChild (s : State) (p cause : Nat) : State :=
  if s.quietTwin then (if bitOf (s.rn (fenceRec p)) 31 then s else s.recordFence p cause)
  else
    let s := s.applyFence p cause
    s.each (eftEntries.filter (fun e => s.bit (eftEn e) && s.f (eftShadowF e) == p)) (fun s e => s.eftEnd e cause)

/-! ### The reference selector (R44 to R58) -/

/-- Is a candidate permitted at this node (Table CLK-2)? -/
def State.permitted (s : State) (c : Nat) : Bool :=
  c == 7 || (s.bit STRUCT_VALID &&
    ((decide (c ≤ 1) && s.level == 3) || ((c == 2 || c == 3) && (s.level == 1 || s.level == 2) && !s.isTwin) ||
      (c == 4 && s.isTwin)))

/-- Clear the claim of UTC when a condition of R107 fails. -/
def State.utcDrop (s : State) : State :=
  if s.bit UTC_CLAIM || s.bit HT_UTC_VALID then
    let s := ((s.setB UTC_CLAIM false).setB HT_UTC_VALID false).raise NET_CAUSE 1
    if s.isRoot then s.setB UTC_VALID false else s
  else s

/-- The conditions of R107, without the one on SEL_ACTIVE's value at the claim. -/
def State.utcOk (s : State) : Bool :=
  s.isRoot && !s.bit BASK && s.bit CLEANUP_LOCK && decide (s.f SEL_ACTIVE ≤ 1) && s.bit (ppsOk (s.f SEL_ACTIVE))

/-- Evaluate R107: a claim whose conditions no longer hold is lost. -/
def State.utcCheck (s : State) : State :=
  if s.bit UTC_CLAIM && !(s.utcOk && s.f SEL_ACTIVE == s.clk.claimSel) then s.utcDrop else s

/-- UTC_CLAIM := 1, written over the port or by a structure image (R107). -/
def State.utcClaim (s : State) : State :=
  if s.utcOk then
    let s := { s with clk := { s.clk with claimSel := s.f SEL_ACTIVE } }
    ((s.setB UTC_CLAIM true).setB HT_UTC_VALID true).setB UTC_VALID true
  else s.raise NET_CAUSE 2

/-- A free tuning word within FREQ_CLAMP of HOLD_TUNE: what the loop steers to, which the spec does not state (R52). -/
def State.freeTune (s : State) : Nat :=
  let lim : Int := (s.f FREQ_CLAMP : Int) * 1024
  let v := signed 32 (s.rn HOLD_TUNE) + ((s.freeNat : Int) % (2 * lim + 1) - lim)
  unsignedOf 32 (max (-2048000) (min 2048000 v))

/-- The number of 1 ns cycles in 64 s. -/
def holdSpan : Nat := 64 * 10 ^ 9

/-- The mean of tuning words, rounded down (R56; log entry 116). -/
def meanTune (l : List Int) : Int := l.sum / (l.length : Int)

/-- The clean-up loop applies its next tuning word, and HOLD_TUNE follows the mean (R52, R56). -/
def State.tune (s : State) : State :=
  let v := s.freeTune
  let l := (signed 32 v :: s.clk.tunes).take holdSpan
  let s := (s.setN OVEN_TUNE v).took
  { s.setN HOLD_TUNE (unsignedOf 32 (meanTune l)) with clk := { s.clk with tunes := l } }

/-- Begin a resumption from the parent on a port with FROM (R222): the port's counts restart and a RESUME record is
due. -/
def State.spawnResume (s : State) (ps : List Nat) (frm : Nat) : State :=
  let fresh := fun (x : EggDir) =>
    { x with
      begun := 0, limit := 0, done := 0, rxEgg := none, rxParts := 0, rxBytes := [], rxBad := false
      checks := x.checks.map (fun y => (y.1, y.2.1, false)), due := true, resume := some frm }
  let dirs := ps.foldl (fun t p => tset noDir t p (fresh (tget noDir t p))) s.spawn.dirs
  let s := { s with spawn := { s.spawn with dirs := dirs, resFrom := frm } }
  ((s.setB RESUMING true).raise Q_CAUSE 7).ev 0x93

/-- SEL_ACTIVE takes a candidate: HOLDOVER, the clean-up loop, the UP_SWITCH notice and the resumption of a spawn that
go with it (R52, R56, R222, R321). SLEWING clears when the selector leaves the REFINs (DESIGN CHOICE, log entry 115: the
spec does not say what becomes of a slew in progress). -/
def State.selMove (s : State) (c : Nat) : State :=
  let old := s.f SEL_ACTIVE
  let s := s.setF SEL_ACTIVE c
  let s := s.setB HOLDOVER (c == 7)
  let steer := s.level == 3 && s.bit STRUCT_VALID
  let s :=
    if c ≤ 1 then
      let s := { s with clk := { s.clk with tunes := if old ≤ 1 then s.clk.tunes else [] } }
      (s.setB CLEANUP_LOCK true).setB SLEWING (old ≠ c) |>.tune
    else
      let s := (s.setB CLEANUP_LOCK false).setB SLEWING false
      if c = 7 ∧ steer ∧ old ≠ 7 then s.setN OVEN_TUNE (s.rn HOLD_TUNE) else s
  let s :=
    if (old = 2 ∧ c = 3) ∨ (old = 3 ∧ c = 2) then
      let s := s.each s.upActive (fun s p => s.sendNotice p 2 0)
      if s.bit S_ARMED then
        let s := s.spawnResume s.upActive ((s.f DOWN_CUM + 1) % 2 ^ 24)
        { s with spawn := { s.spawn with resend := true } }
      else s
    else s
  s.utcCheck

/-- The first candidate of REF_PRIO that may serve as fallback (R48); 7 ends the list. -/
def State.fallback (s : State) (failed : Nat) : Nat :=
  let rec go : List Nat → Nat
    | [] => 7
    | i :: t =>
      let c := s.f (refPrio i)
      if c = 7 then 7 else if c ≠ failed && s.permitted c && s.bit (qual c) then c else go t
  go [0, 1, 2, 3]

/-- Every up-port candidate of the node is unqualified, and the node is no twin (R315). -/
def State.upLost (s : State) : Bool :=
  !s.isTwin && (s.level == 1 || s.level == 2) && !s.bit (qual 2) && !s.bit (qual 3)

/-- A candidate becomes unqualified (R45). A write of REF_SEL in the same cycle that names it is refused (R50). -/
def State.unqualify (s : State) (c : Nat) : State :=
  let s := s.setB (qual c) false
  let s := { s with clk := { s.clk with faultAt := tset (fun _ => 0) s.clk.faultAt c s.beat.n } }
  match s.clk.selReq with
  | some (d, old) =>
    if d = c then ({ s with clk := { s.clk with selReq := none } }.setF REF_SEL old).raise CLK_CAUSE 3 else s
  | none => s

/-- The selector at the end of a cycle (R48, R50): it takes the candidate that a write of REF_SEL named, or falls back
from a candidate in use that has become unqualified (R315). -/
def State.selector (s : State) : State :=
  match s.clk.selReq with
  | some (c, _) =>
    let s := { s with clk := { s.clk with selReq := none } }
    if c = s.f SEL_ACTIVE then s else (s.selMove c).utcCheck
  | none =>
    let a := s.f SEL_ACTIVE
    if a ≠ 7 ∧ ¬ s.bit (qual a) then
      let n := s.fallback a
      let s := ((((s.selMove n).raise CLK_CAUSE 0).raise CLK_CAUSE 1).ev 0xD0).utcCheck
      if n = 7 && s.upLost then s.selfFence 3 else s
    else s

/-! ### Takeover (R321, R322) -/

/-- D(m) for the launch time that decides next, 2^-16 ns (R18): the pending one, or, once its GO is held, one period
later. -/
def State.decisionAt (s : State) : Int :=
  let e := (tsScalar (s.r96 NEXT_LAUNCH) : Int) + (if s.bit GO_HELD then (s.r64 LEAP_PERIOD : Int) * 65536 else 0)
  e - (s.f READY_GUARD : Int) * 65536

/-- The decision instant has come. -/
def State.decisionDue (s : State) : Bool := s.bit LAUNCH_PEND && decide (s.decisionAt ≤ (s.now : Int))

/-- The step that the next decision is about. -/
def State.decisionStep (s : State) : Nat := (s.step + (if s.bit GO_HELD then 2 else 1)) % 2 ^ 64

/-- The root, or a hall twin that has taken over with leaps armed, sends HALT and enters STOPPED (R114, R322). -/
def State.issueHalt (s : State) (cause : Nat) : State :=
  let s := s.sendDown (leapMsg kHALT cause (s.decisionStep % 2 ^ 16) (tsOf s.decisionAt.toNat))
  ((s.setB HALT_PEND false).setB STOP_PEND false).enterHalt cause

/-- A twin takes over: TAKEN, the recorded fences, and at the hall twin the death of the root (R321, R322). -/
def State.takeover (s : State) : State :=
  if s.quietTwin then
    let s := ((s.setB TAKEN true).raise GK_CAUSE 7).log 13 0
    let ps := s.downPorts.filter (fun p => bitOf (s.rn (fenceRec p)) 31)
    let s := s.each ps (fun s p => s.applyFence p (bitsOf (s.rn (fenceRec p)) 24 4))
    if s.level == 3 && s.armed then
      let s := s.sendFail 1 (s.step % 2 ^ 16) 0xC0000
      if s.decisionDue then s.issueHalt 2 else s
    else s
  else s

/-! ### Dead declarations (R314) -/

/-- The peer of a port is already declared dead. -/
def State.isDead (s : State) (p : Nat) : Bool :=
  if s.part.isK then s.bit (portDead p) else s.bit (bitF DET_STATUS 8)

/-- A candidate is unqualified until restart. -/
def State.deadCandidate (s : State) (c : Nat) : State :=
  { s with clk := { s.clk with deadCand := if s.clk.deadCand.contains c then s.clk.deadCand else c :: s.clk.deadCand } }.unqualify c

/-- The detector declares the peer of a port dead, with a cause of Table FLT-2: PEER_DEAD, the log entry, and the
effect of Table FLT-1. -/
def State.declareDead (s : State) (p cause : Nat) : State :=
  if s.isDead p then s
  else
    let s := if s.part.isK then (s.setB (portDead p) true).setB (bitF (detPort p) 31) true
      else (s.setB (bitF DET_STATUS 8) true).raise FLT_CAUSE 0
    let s := (s.raise GK_CAUSE 0).log 1 (p * 2 ^ 8 + cause)
    if ¬ s.part.isK then s.selfFence 3
    else match s.use p with
      | 1 =>
        match s.eftOf p with
        | some e => s.eftEnd e cause
        | none => s.fenceChild p cause
      | 2 => s.deadCandidate 2
      | 3 => s.deadCandidate 3
      | 4 => if s.isTwin then (s.deadCandidate 4).takeover else s
      | _ => s

end Sys2Proof.Machine
end

