-- ==== Sys2Proof/Machine/NodeState.lean ====
section
/-! DEFINITION. How a node moves forward through ARMED, LIVE and CHORUS (R35, R79, Table IMG-8), and how it leaves a
state on loss of time lock (R81). -/

namespace Sys2Proof.Machine

/-- The up port, or the twin link of a twin, is UP (Table IMG-8). -/
def State.linkReady (s : State) : Bool := (if s.isTwin then s.twinPorts else s.upActive).any (fun p => s.portUp p)

/-- Enter LIVE: leaps are not armed there (R109); below the root acquisition begins (R79). -/
def State.enterLive (s : State) : State :=
  let s := s.disarm.enter .live
  if s.isRoot then s else { s.setB ACQUIRING true with servo := { first := true, pstepAt := s.servo.pstepAt, integ := s.servo.integ } }

/-- Move forward by Table IMG-8, as far as the conditions hold. -/
def State.advance (s : State) : State :=
  let s := if s.nst == .armed && !s.looped && (if s.isRoot then s.bit ROOTPLL_LOCK else s.linkReady) then s.enterLive else s
  let locked := if s.isRoot then (s.bit CLEANUP_LOCK && decide (s.f SEL_ACTIVE ≤ 1)) || s.f SEL_ACTIVE == 7
    else s.bit LOCKED
  if s.nst == .live && locked then s.enter .chorus else s

/-- Time lock is lost (R81, R35): LOCKED and SETTLED clear, the event is logged, and a node in CHORUS, RUNNING or
STOPPED enters LIVE; a RUNNING node drops its pending launch. -/
def State.lockLost (s : State) : State :=
  let s := ((s.setB LOCKED false).setB SETTLED false).raise TIME_CAUSE 1
  let s := s.log 8 0
  match s.nst with
  | .running => s.dropLaunch.enterLive
  | .chorus | .stopped | .live => s.enterLive
  | _ => s

end Sys2Proof.Machine
end

