-- ==== Sys2Proof/Machine/ClockRoot.lean ====
section
/-! DEFINITION. The clock root: oven, root PLL, reference candidates, phase steps and pulse outputs (R37 to R65). The
clock root exists only in a Krasesta; its commands leave a die as it is. -/

namespace Sys2Proof.Machine

/-- Apply to a Krasesta only. -/
def State.onK (s : State) (g : State → State) : State := if s.part.isK then g s else s

/-- Apply to a die only. -/
def State.onDie (s : State) (g : State → State) : State := if s.part.isK then s else g s

/-- Force command bits of a written word. -/
def forceBits (v : Word) (m : Nat) : Nat := (v ||| BitVec.ofNat 32 m).toNat

/-! ### Oven and root PLL -/

/-- BASK changes; at the root BASK_ANY follows it (R84). -/
def State.setBask (s : State) (b : Bool) : State :=
  let s := s.setB BASK b
  if s.isRoot then s.setB BASK_ANY b else s

/-- The core temperature in one cycle (R38, Table CLK-15): any value while BASK is set, within ±0.02 °C of the setpoint
while it is clear; and the cycles for which it has stayed within. -/
def State.ovenCycle (s : State) : State :=
  if s.part.isK && s.power.standby then
    let v := Config.ovenDev s.beat.n
    let v := if s.bit BASK then v else max (-20) (min 20 v)
    { s with clk := { s.clk with oven := v, ovenIn := if v.natAbs ≤ 20 then s.clk.ovenIn + 1 else 0 } }
  else s

/-- 10 s in cycles of 1 ns. -/
def ovenHold : Nat := 10 ^ 10

/-- BASK_CLEAR (R38, R40): the core temperature has been held for 10 s without a break. -/
def execBaskClear (s : State) : Out :=
  .next (s.onK (fun s =>
    if s.bit BASK && decide (ovenHold ≤ s.clk.ovenIn) then (s.setBask false).raise CLK_CAUSE 4 else s))

/-- BASK_SET (R40): the core has left its window; a claim of UTC is lost with it (R107). -/
def execBaskSet (s : State) : Out :=
  .next (s.onK (fun s =>
    if s.bit BASK then s
    else ({ s with clk := { s.clk with ovenIn := 0 } }.setBask true |>.raise CLK_CAUSE 5).utcCheck))

/-- ROOTPLL_LOCK (R41, Table IMG-8). -/
def execRootpllLock (s : State) : Out :=
  .next (s.onK (fun s => if s.mainOn then (s.setB ROOTPLL_LOCK true).advance else s))

/-- The pulse outputs go low and stay low until the next edge. -/
def State.pulsesLow (s : State) : State := { s with pulse := { s.pulse with pps := 0, step := 0, tick := 0 } }

/-- ROOTPLL_LOSS (R64, R335): the gecko HALT is applied with the links held in reset. -/
def execRootpllLoss (s : State) : Out :=
  .next (s.onK (fun s =>
    if s.bit ROOTPLL_LOCK then
      let s := (s.setB ROOTPLL_LOCK false).raise CLK_CAUSE 6
      let s := { s with outs := { s.outs with txHeld := true } }
      (s.geckoHalt 3 false).pulsesLow
    else s))

/-! ### Reference candidates -/

/-- The monitor of a candidate runs: a Krasesta with its structure image, permitted, and not the oven. -/
def State.monitored (s : State) (c : Nat) : Bool := s.part.isK && c != 7 && s.permitted c

/-- The ports of a candidate that drives the time servo (Table CLK-2). -/
def State.candPorts (s : State) (c : Nat) : List Nat :=
  if ¬ s.part.isK then [0] else if c = 4 then s.twinPorts else s.portsOf c

/-- A fault of Table CLK-3 by its row: 0 no 10 MHz edge; 1 a drift of `dev` ppb, which is not checked while BASK is set;
2 the port is not UP; 3 five TIME messages missing; 4 a measured offset that departs by `dev`, 2^-16 ns. What a
monitor measures is an operand (DESIGN CHOICE, log entry 121). -/
def State.faultShown (s : State) (c kind dev : Nat) : Bool :=
  let ps := s.candPorts c
  if c ≤ 1 then kind == 0 || (kind == 1 && !s.bit BASK && decide (10 * s.f ⟨refCfg c, 8, 8⟩ < dev))
  else (kind == 2 && !ps.any (fun p => s.portUp p)) ||
    (kind == 3 && ps.all (fun p => decide ((s.port p).exch.heard + 50000 ≤ s.beat.n))) ||
    (kind == 4 && decide (100 * 65536 < dev))

/-- A fault of a candidate that the state itself shows now: a port that is not UP, or five TIME messages missing. -/
def State.faultNow (s : State) (c : Nat) : Bool := s.faultShown c 2 0 || s.faultShown c 3 0

/-- PRESENT of a candidate (Table CLK-10): monitored and free of faults now. What the monitor of a reference input sees
while the candidate is not qualified is any value (log entry 29). -/
def State.presentNow (s : State) (c : Nat) : Bool :=
  c == 7 || (s.monitored c && !s.faultNow c &&
    (s.bit (qual c) || (tget (fun _ => 0) s.clk.faultAt c != s.beat.n && (decide (2 ≤ c) || Config.refinGood c s.beat.n))))

/-- A die judges its uplink, by the conditions for UP_ACTIVE, once it is in use: from LIVE on (R315). -/
def State.uplinkJudged (s : State) (c : Nat) : Bool :=
  !s.part.isK && c == 2 && s.mainOn && !s.inTadpole && s.nst != .armed && !s.looped

/-- CANDIDATE_FAULT (R45); a die, which has no candidates, fences itself (R315). -/
def execCandidateFault (x : MonitorFault) (s : State) : Out :=
  .next (if s.monitored x.c && s.faultShown x.c x.kind x.dev then s.unqualify x.c
    else if s.uplinkJudged x.c && s.faultShown 2 x.kind x.dev then s.selfFence 3
    else s)

/-- The place of a candidate in REF_PRIO before the end of the list, 4 where it does not stand. -/
def State.prioPlace (s : State) (c : Nat) : Nat :=
  let e := ((List.range 4).find? (fun i => s.f (refPrio i) == 7)).getD 4
  ((List.range e).find? (fun i => s.f (refPrio i) == c)).getD 4

/-- A candidate has been free of faults for QUAL_MS without a break (R45). -/
def State.qualTime (s : State) (c : Nat) : Bool :=
  decide (tget (fun _ => 0) s.clk.faultAt c + s.f ⟨refCfg c, 16, 16⟩ * 1000000 ≤ s.beat.n)

/-- CANDIDATE_QUALIFIED (R45, R49). -/
def execCandidateQualified (c : Nat) (s : State) : Out :=
  .next (if s.monitored c && s.bit (refEn c) && !s.bit (qual c) && !s.clk.deadCand.contains c && s.qualTime c &&
        !s.faultNow c then
      let s := s.setB (qual c) true
      if s.prioPlace c < s.prioPlace (s.f SEL_ACTIVE) then s.raise CLK_CAUSE 2 else s
    else s)

/-- A write of REF_SEL (R47); the selector follows an accepted one at the end of the cycle (R50). -/
def State.refSelWrite (s : State) (v : Word) : State :=
  s.onK (fun s => s.unlocked (fun s =>
    let c := v.toNat % 8
    if s.permitted c && s.bit (qual c) then
      { s.setF REF_SEL c with clk := { s.clk with selReq := some (c, s.f REF_SEL) } }
    else s.raise CLK_CAUSE 3))

/-- REF_SEL_WRITE (R47). -/
def execRefSelWrite (v : Word) (s : State) : Out := .next (s.refSelWrite v)

/-- The 1PPS of a REFIN candidate is judged (R46). -/
def State.ppsOn (s : State) (c : Nat) : Bool := s.monitored c && decide (c ≤ 1) && s.bit (refPpsEn c)

/-- A 1PPS fault (R46). -/
def State.ppsFault (s : State) (c : Nat) : State := (((s.setB (ppsOk c) false).raise CLK_CAUSE 7).ev 0xD1).utcCheck

/-- PPS_FAULT (R46): a pulse is missing. -/
def execPpsFault (c : Nat) (s : State) : Out := .next (if s.ppsOn c then s.ppsFault c else s)

/-- A 1PPS edge (R46): an interval of 1 s within 1 µs since the previous one shows the input free of faults (DEDUCED, log
entry 13), any other is a fault. -/
def State.ppsEdge (s : State) (c : Nat) (t : Int) : State :=
  if s.ppsOn c then
    let s := match tget (fun _ => none) s.clk.pps c with
      | some u => if ((t - u) - 256 * 10 ^ 12).natAbs ≤ 256000000 then s.setB (ppsOk c) true else s.ppsFault c
      | none => s
    { s with clk := { s.clk with pps := tset (fun _ => none) s.clk.pps c (some t) } }
  else s

/-- TDC_EDGE (R89), rising or falling (R90). -/
def execTdcEdge (src : Nat) (e : SourceEdge) (s : State) : Out :=
  .next (if s.mainOn && s.edgeTaken src e.fall then
    let s := if src = 0xA then s.ppsEdge 0 e.t else if src = 0xB then s.ppsEdge 1 e.t else s
    s.tdcEdge src e.t
  else s)

/-- SLEW_COMPLETE (R53). -/
def execSlewComplete (s : State) : Out := .next (s.onK (fun s => s.setB SLEWING false))

/-! ### Phase steps -/

/-- The next boundary of a period of n ns after the reading, 2^-16 ns. -/
def State.nextBoundary (s : State) (n : Nat) : Nat := (s.now / (n * 65536) + 1) * (n * 65536)

/-- A write of PHASE_CTRL (R59, R61): ARM, then CANCEL (DESIGN CHOICE, log entry 5). -/
def State.phaseCtrlWrite (s : State) (v : Nat) : State :=
  let s :=
    if bitOf v 0 then
      if s.isRoot && !s.bit PSTEP_PEND then
        { s.setB PSTEP_PEND true with
          clk := { s.clk with pstep := some (s.r64 PHASE_STEP % 2 ^ 48), pstepAt := s.nextBoundary 1000000 } }
      else s.raise CLK_CAUSE 9
    else s
  if bitOf v 1 then { s.setB PSTEP_PEND false with clk := { s.clk with pstep := none } } else s

/-- PHASE_STEP_ARM (R59). -/
def execPhaseStepArm (v : Word) (s : State) : Out := .next (s.onK (fun s => s.inMain (fun s => s.phaseCtrlWrite (forceBits v 1))))

/-- PHASE_STEP_CANCEL (R61). -/
def execPhaseStepCancel (v : Word) (s : State) : Out := .next (s.onK (fun s => s.inMain (fun s => s.phaseCtrlWrite (forceBits v 2))))

/-- The limits of R60 on a step of this size, 2^-16 ns, while leaps are armed. -/
def State.stepAllowed (s : State) (d : Int) : Bool :=
  !s.armed || (s.rn STEP_SLEW_MAX != 0 && decide (0 ≤ d) && decide (d ≤ (s.rn STEP_SLEW_MAX : Int) * 65536))

/-- Note that a phase step was applied or seen here: PSTEP_SEEN stays for 10 ms. -/
def State.notePstep (s : State) : State :=
  { s.setB PSTEP_SEEN true with servo := { s.servo with pstepAt := some s.beat.n } }

/-- The generator takes hall time, and its next whole second is the first that it has not passed (R63). -/
def State.genLoad (s : State) : State :=
  { s with pulse := { s.pulse with gen := s.now, ppsNext := ceilDiv (s.now - 65535) q16PerSec } }

/-- A phase step in the cycle of an alignment boundary: the generator takes the stepped hall time (R63). -/
def State.alignedStep (s : State) : State := if s.pulse.alignedAt = some s.beat.n then s.genLoad else s

/-- PHASE_STEP_APPLY (R60): at the 1 ms boundary the armed step is applied whole or refused. -/
def execPhaseStepApply (s : State) : Out :=
  .next (match s.clk.pstep with
    | none => s
    | some x =>
      if s.reached s.clk.pstepAt then
        let d := signed 48 x
        let s := { s.setB PSTEP_PEND false with clk := { s.clk with pstep := none } }
        if s.stepAllowed d then ((((s.addTime (d * 2 ^ 24)).raise CLK_CAUSE 8).notePstep).utcDrop).alignedStep
        else s.raise CLK_CAUSE 9
      else s)

/-! ### Pulse outputs (R62, R63) -/

/-- Pulse outputs may go high: not in TADPOLE, not held by a loss of the root PLL (R64), and with 48V_IN present (R434). -/
def State.pulsesOn (s : State) : Bool := s.mainOn && !s.inTadpole && !s.outs.txHeld

/-- An alignment boundary lies within 1 ms ahead: old-phase pulses are suppressed. -/
def State.nearBound (s : State) : Bool :=
  match s.pulse.bound with
  | none => false
  | some b => decide (b ≤ s.now + 1000000 * 65536)

/-- PULSE_ERR: generator time minus hall time, 2^-16 ns. -/
def State.pulseErr (s : State) : Int := (s.pulse.gen : Int) - s.now

/-- A write of PULSE_CTRL: the enables, whose outputs are held low at 0 (R62), then ALIGN (R63). -/
def State.pulseCtrlWrite (s : State) (v : Nat) : State :=
  let x := s.pulse
  let keep := fun (i w : Nat) => if bitOf v i then w else 0
  let s := { s.setF ⟨PULSE_CTRL, 0, 3⟩ v with pulse := { x with pps := keep 0 x.pps, step := keep 1 x.step, tick := keep 2 x.tick } }
  if bitOf v 3 && s.pulse.bound.isNone then
    let b := ceilDiv (s.now + 2000000 * 65536) q16PerSec * q16PerSec
    { s.setB ALIGN_PEND true with pulse := { s.pulse with bound := some b } }
  else s

/-- ALIGN (R63). -/
def execAlign (v : Word) (s : State) : Out := .next (s.onK (fun s => s.unlocked (fun s => s.pulseCtrlWrite (forceBits v 8))))

/-- ALIGN_BOUNDARY (R63): the boundary lies in this cycle, with hall time before or after a phase step of it. -/
def execAlignBoundary (s : State) : Out :=
  .next (match s.pulse.bound with
    | none => s
    | some b =>
      if s.reached b || decide (b * 2 ^ 24 ≤ s.beat.time) then
        let gap := decide (1000000 * 65536 ≤ s.pulseErr.natAbs)
        let per := s.rn TICK_PERIOD
        let x := { s.pulse with
          bound := none, alignedAt := some s.beat.n, base := some b, per := per, ofs := s.rn TICK_OFFSET % per, k := 0
          ahead := none, stepDue := s.pulse.stepDue.filter (fun t => decide (b ≤ t)) }
        let s := (({ s.setB ALIGN_PEND false with pulse := x }).genLoad).raise CLK_CAUSE 10
        if gap then s.raise CLK_CAUSE 11 else s
      else s)

/-- The time-clock edge nearest to a generator time has come: an edge lies within 0.5 ns of the time it represents (R62). -/
def State.genBy (s : State) (t : Nat) : Bool := decide (t ≤ s.pulse.gen + 32768)

/-- It is the edge of this cycle. -/
def State.genAt (s : State) (t : Nat) : Bool := s.genBy t && decide (s.pulse.gen < t + 32768)

/-- PPS_OUT_EDGE (R62): the generator has reached a whole second. -/
def execPpsOutEdge (s : State) : Out :=
  .next (s.onK (fun s =>
    let t := s.pulse.ppsNext * q16PerSec
    if s.genBy t then
      let on := s.bit (bitF PULSE_CTRL 0) && s.pulsesOn && !s.nearBound && s.genAt t
      let s := { s with pulse := { s.pulse with ppsNext := (s.pulse.gen + 32768) / q16PerSec + 1 } }
      if on then ({ s with pulse := { s.pulse with pps := s.f (pulseW 0) } }).tdcNow 0xC else s
    else s))

/-- TICK_OUT_EDGE (R62): the generator has reached the next tick instant. -/
def execTickOutEdge (s : State) : Out :=
  .next (match s.pulse.base with
    | none => s
    | some a =>
      let t := a + (s.pulse.ofs + s.pulse.k * s.pulse.per) * 65536
      if s.genBy t then
        let on := s.bit (bitF PULSE_CTRL 2) && s.pulsesOn && !s.nearBound && s.genAt t
        let k := s.pulse.k + 1 + (s.pulse.gen + 32768 - t) / (s.pulse.per * 65536)
        let s := { s with pulse := { s.pulse with k := k } }
        if on then ({ s with pulse := { s.pulse with tick := min (s.f (pulseW 2)) (s.pulse.per - 1) } }).tdcNow 0xE else s
      else s)

/-- The launch that pends will fire: leaps are armed, GO is held and no gecko HALT has been applied (R117). -/
def State.launchSure (s : State) : Bool := s.armed && s.bit LAUNCH_PEND && s.bit GO_HELD && !s.bit GECKO_HALT

/-- The STEP_OUT pulses that generator time has reached (R62): of leaps that have fired, and, with a generator ahead of
hall time, of the launch that pends; a launch time that hall time has reached is left to the fire. Near an alignment boundary B the old phase is suppressed, and what lies at B or
after it is left to the new phase (R63). -/
def State.stepOut (s : State) : State :=
  let x := s.pulse
  let e := tsScalar (s.r96 NEXT_LAUNCH)
  let near := s.nearBound
  let mine := fun (t : Nat) => s.genBy t && !(near && decide (x.bound.getD 0 ≤ t))
  let pend := s.launchSure && !s.reached e && mine e && x.ahead != some e
  if pend || x.stepDue.any mine then
    let on := s.bit (bitF PULSE_CTRL 1) && s.pulsesOn && !near
    let x := { x with stepDue := x.stepDue.filter (fun t => !mine t), ahead := if pend then some e else x.ahead }
    if on then ({ s with pulse := { x with step := s.f (pulseW 1) } }).tdcNow 0xD else { s with pulse := x }
  else s

/-- The leap with launch time E has fired: STEP_OUT is due at that generator time, unless it has come (R62). -/
def State.stepFired (s : State) (e : Nat) : State :=
  let x := s.pulse
  if ¬ s.part.isK then s
  else if x.ahead = some e then { s with pulse := { x with ahead := none } }
  else { s with pulse := { x with stepDue := x.stepDue ++ [e] } }.stepOut

/-- One cycle of the clock root: the selector and the clean-up loop (R48, R50, R52). -/
def State.clockCycle (s : State) : State :=
  if s.part.isK then
    let s := s.selector.advance
    if s.bit CLEANUP_LOCK then s.tune else s
  else s

end Sys2Proof.Machine
end

