-- ==== Sys2Proof/Machine/Servo.lean ====
section
/-! DEFINITION. The time counter's commands and two-way time transfer with the time servo (R69 to R84), and the claim
of UTC and the state lines of the management port (R98, R107). -/

namespace Sys2Proof.Machine

/-! ### TIME_INCR and SEC_LOAD -/

/-- The staged value of a word, else the one in effect (R419). -/
def State.stagedOr (s : State) (a : Nat) : Nat := ((tget (fun _ => none) s.staged a).getD (s.r a)).toNat

/-- Staged words are discarded (R419). -/
def State.unstage (s : State) (l : List Nat) : State := { s with staged := s.staged.filter (fun x => !l.contains x.1) }

/-- A write of TIME_INCR_H (R69). -/
def State.timeIncrWrite (s : State) (v : Word) : State :=
  let x := s.stagedOr TIME_INCR + 2 ^ 32 * (v.toNat % 2 ^ 16)
  (s.unstage [TIME_INCR]).unlocked (fun s =>
    if s.isRoot && decide (0x00FFF9724745 ≤ x) && decide (x ≤ 0x0100068DB8BB) then
      ((s.setR64 TIME_INCR x).settle TIME_INCR).settle (TIME_INCR + 4)
    else s.raise TIME_CAUSE 5)

/-- TIME_INCR_WRITE (R69). -/
def execTimeIncrWrite (v : Word) (s : State) : Out := .next (s.timeIncrWrite v)

/-- A write of TIME_CTRL (R70). -/
def State.timeCtrlWrite (s : State) (v : Nat) : State :=
  if bitOf v 0 then
    if s.isRoot && !s.armed && s.clk.secArm.isNone then
      { s with clk := { s.clk with secArm := some (s.nextBoundary 1000000000), secBad := false } }
    else s.raise TIME_CAUSE 8
  else s

/-- SEC_ARM (R70). -/
def execSecArm (v : Word) (s : State) : Out := .next (s.inMain (fun s => s.timeCtrlWrite (forceBits v 1)))

/-- SEC_LOAD_APPLY (R70). -/
def execSecLoadApply (s : State) : Out :=
  .next (match s.clk.secArm with
    | none => s
    | some b =>
      if s.reached b then
        let s := { s with clk := { s.clk with secArm := none } }
        if s.armed || s.clk.secBad then s.raise TIME_CAUSE 8
        else
          let sec := s.r64 SEC_LOAD % 2 ^ 48
          (({ s with time := sec * (q16PerSec * 2 ^ 24) + s.time % (q16PerSec * 2 ^ 24) }).raise TIME_CAUSE 7).utcDrop
      else s)

/-! ### Exchanges -/

/-- A port's exchange runtime. -/
def State.exch (s : State) (p : Nat) : Exch := (s.port p).exch

/-- Change a port's exchange runtime. -/
def State.modExch (s : State) (p : Nat) (g : Exch → Exch) : State := s.modPort p (fun x => { x with exch := g x.exch })

/-- The SYNC interval of a port, ns: 1 µs on a die link, that of an eft's die included, 10 µs between two Krasestas
(R74). -/
def State.syncInterval (s : State) (p : Nat) : Nat :=
  if s.part.isK && s.peerExp p / 2 ^ 18 != 0 && !s.spare p then 10000 else 1000

/-- The node is the parent of a port: a down port, or the twin link at the node that is no twin. -/
def State.parentOf (s : State) (p : Nat) : Bool := s.use p == 1 || (s.use p == 4 && !s.isTwin)

/-- The node is the child of a port: an up port, or the twin link at a twin. -/
def State.childOf (s : State) (p : Nat) : Bool := s.use p == 2 || s.use p == 3 || (s.use p == 4 && s.isTwin)

/-- The port feeds the time servo. -/
def State.feeds (s : State) (p : Nat) : Bool := s.selPort.contains p

/-- The flags BASK_ANY, UTC_VALID, HOLD and PSTEP that the node sends now (Table HTM-2). -/
def State.timeFlags (s : State) : Nat :=
  b2n ((s.part.isK && s.bit BASK) || (!s.isRoot && s.bit BASK_ANY)) * 8 + b2n (s.bit UTC_VALID) * 4 +
    b2n (s.part.isK && s.f SEL_ACTIVE == 7) * 2 + b2n (if s.isRoot then s.bit PSTEP_SEEN else s.servo.pstepLast)

/-- SYNC_SEND (R74): the flags and t1 enter the message as it is transmitted (R73, R77). -/
def execSyncSend (p : Nat) (s : State) : Out :=
  let e := s.exch p
  let due := match e.sentAt with
    | none => true
    | some t => decide (t + s.syncInterval p ≤ s.beat.n)
  .next (if s.parentOf p && s.portUp p && due then
      let q := e.seqNext
      (s.modExch p (fun e =>
        { e with seqNext := (q + 1) % 2 ^ 16, open_ := (q :: e.open_).take 3, sentAt := some s.beat.n })).sendCtrl p
          (timeMsg 0 0 q 0)
    else s)

/-- Count a discarded exchange of the source in use (R76). -/
def State.exchDiscard (s : State) (p : Nat) : State := if s.feeds p then (s.inc EXCH_DISCARD).ev 0x3D else s

/-- PORT_ASYM of an up port, as its word. -/
def State.asymWord (s : State) (p : Nat) : Nat := s.rn (if s.part.isK then portAsymX p else PORT_ASYM)

/-- A SYNC at a child (R73, R82, R84): a new exchange opens, which takes PORT_ASYM as it stands (Table HTM-16). -/
def State.syncRx (s : State) (p : Nat) (m : Msg) (mark : Stamp) (rep : Bool) : State :=
  if s.childOf p then
    let x : OpenEx :=
      { sq := mLo m, t1 := tsScalar (mBody m), t2 := tsScalar mark.toNat, t3 := none, replayed := rep, at_ := s.beat.n
        asym := s.asymWord p }
    let s := s.modExch p (fun e => { e with opens := x :: e.opens, heard := s.beat.n })
    let s := s.sendCtrl p (timeMsg 1 0 (mLo m) 0)
    if s.feeds p then
      let s := ((s.setB BASK_ANY (bitOf m.toNat 117)).setB UTC_VALID (bitOf m.toNat 116)).setB PARENT_HOLD (bitOf m.toNat 115)
      let ps := bitOf m.toNat 114
      let s := { s with servo := { s.servo with pstepLast := ps, pstepRx := s.servo.pstepRx || (ps && s.armed) } }
      if ps then s.notePstep else s
    else s
  else s

/-- A REQ at a parent (R73): a replayed one gets no RESP, so its exchange runs out (DEDUCED, log entry 14). In
loopback the block receives its own REQ, which matches no exchange (R413). -/
def State.reqRx (s : State) (p : Nat) (m : Msg) (mark : Stamp) (rep : Bool) : State :=
  if s.parentOf p && (s.exch p).open_.contains (mLo m) then
    let s := s.modExch p (fun e => { e with open_ := e.open_.filter (· != mLo m) })
    if rep then s else s.sendCtrl p (timeMsg 2 0 (mLo m) mark.toNat)
  else s.exchDiscard p

/-! ### The servo -/

/-- TIME_INCR clamp: 10 ppm or 250 ppm of nominal (Table HTM-4), units of 2^-40 ns. -/
def State.clampUnits (s : State) : Nat := if s.part.isK then 10995116 else 274877906

/-- Mean of a list of delays, 2^-16 ns. -/
def meanDelay (l : List Int) : Int := if l.isEmpty then 0 else l.foldl (· + ·) 0 / (l.length : Int)

/-- 2^-16 ns in whole ps. -/
def q16ToPs (q : Int) : Int := q * 1000 / 65536

/-- A PORT_ASYM word as 2^-16 ns. -/
def asymOf (w : Nat) : Int := signed 32 w * 65536 / 1000

/-- A delay departs from the mean of some delays by more than DELAY_WIN ps, judged exactly (R76). -/
def farDelay (win : Nat) (l : List Int) (d : Int) : Bool :=
  decide ((win * 65536 * l.length : Nat) < ((d * (l.length : Int) - l.sum).natAbs * 1000 : Nat))

/-- Step hall time by minus an offset (R79, R80). -/
def State.servoStep (s : State) (ofs : Int) : State := (s.addTime (-ofs * 2 ^ 24)).raise TIME_CAUSE 3

/-- A die that has fenced itself for its uplink freezes TIME_INCR (R315): trigger 3 of FENCE_INFO. -/
def State.frozenTime (s : State) : Bool := !s.part.isK && s.f ⟨FENCE_INFO, 28, 4⟩ == 11

/-- The acquisition and the tracking bandwidth, mHz (Table HTM-4). -/
def State.bandHi (s : State) : Nat := if s.part.isK then 100000 else 10000000
def State.bandLo (s : State) : Nat := if s.part.isK then 1000 else 1000000

/-- The bandwidth of the loop, mHz (Table HTM-4): acquisition until lock, tracking once settled, and between them the one
that narrows from exchange to exchange (R79). -/
def State.servoBand (s : State) : Nat :=
  if s.bit SETTLED then s.bandLo else if s.bit LOCKED then max s.bandLo s.servo.band else s.bandHi

/-- One used exchange of a locked servo narrows its bandwidth by a fixed ratio, down to the tracking bandwidth (R79). -/
def State.narrow (s : State) : State :=
  { s with servo := { s.servo with band := max s.bandLo (s.servo.band * Config.narrowing.toNat / 2 ^ 32) } }

/-- The exchange interval of Table HTM-4, ns. -/
def State.exchNs (s : State) : Nat := if s.part.isK then 10000 else 1000

/-- Correction of TIME_INCR, 2^-40 ns per ns, by a second-order proportional-integral loop with damping 0.7 (Table HTM-4):
minus 1.4 w times the offset minus the sum of w² times offset and interval, for a natural frequency of w µrad/s. The
offset is in 2^-16 ns, `integ` in µrad²/s² · 2^-16 ns · ns (rounded down, log entry 15). -/
def piLaw (w : Nat) (ofs integ : Int) : Int := -((14 * w * ofs * 10 ^ 14 + integ) * 2 ^ 24 / 10 ^ 30)

/-- The servo steers: at the full clamp rate while SLEW_ACTIVE, else by its loop, held within the clamp. Its natural
frequency is in proportion to its bandwidth; the spec does not state the factor (free, log entry 15). -/
def State.steer (s : State) (ofs : Int) : State :=
  let lim := s.clampUnits
  let w := s.servoBand * (Config.servoRate + 1)
  let integ := if s.bit SLEW_ACTIVE then s.servo.integ else s.servo.integ + w * w * s.exchNs * ofs
  let s := { s with servo := { s.servo with integ := integ } }
  let v : Int :=
    if s.bit SLEW_ACTIVE then (if 0 < ofs then -(lim : Int) else lim)
    else max (-(lim : Int)) (min (lim : Int) (piLaw w ofs integ))
  let s := s.setR64 TIME_INCR ((2 ^ 40 : Nat) + v).toNat
  let s := if s.bit LOCKED then s.narrow else s
  if s.r64 TIME_INCR = 2 ^ 40 - lim ∨ s.r64 TIME_INCR = 2 ^ 40 + lim then s.raise TIME_CAUSE 4 else s

/-- Consecutive counts of exchanges within the lock window and above the loss threshold. -/
def State.countLock (s : State) (ofs : Int) : State :=
  let win : Nat := if s.part.isK then 2 else 1
  let v := s.servo
  { s with servo := { v with
      acq := v.acq + 1
      good := if ofs.natAbs ≤ win * 65536 then v.good + 1 else 0
      bad := if s.f LOSS_THR * 65536 < ofs.natAbs then v.bad + 1 else 0
      pstepRx := false } }

/-- One used offset of the source in use (R79 to R82); a frozen servo does nothing with it (R315). -/
def State.servoUse (s : State) (ofs : Int) : State :=
  if s.frozenTime then s
  else
  let s :=
    if s.bit ACQUIRING && s.servo.first then
      let s := if s.armed then s else s.servoStep ofs
      { s with servo := { s.servo with first := false } }
    else if s.bit LOCKED && !s.armed && decide (1000 * 65536 < ofs.natAbs) then s.servoStep ofs
    else s
  let s := if s.servo.pstepRx && decide (10 * 65536 < ofs.natAbs) then s.setB SLEW_ACTIVE true else s
  let s := if s.bit SLEW_ACTIVE && decide (ofs.natAbs < 2 * 65536) then (s.setB SLEW_ACTIVE false).raise TIME_CAUSE 6 else s
  let s := (s.steer ofs).countLock ofs
  if s.bit ACQUIRING && decide (1000 ≤ s.servo.good) then
    let s := { s with servo := { s.servo with band := s.bandHi } }
    (((s.setB ACQUIRING false).setB LOCKED true).raise TIME_CAUSE 0).advance
  else if s.bit LOCKED && !s.bit SLEW_ACTIVE && decide (16 ≤ s.servo.bad) then s.lockLost
  else s

/-- A complete exchange at a child: delay and offset, the delay window, and their use (R75, R76). -/
def State.useExchange (s : State) (p : Nat) (x : OpenEx) (t3 t4 : Nat) : State :=
  let a : Int := (x.t2 : Int) - x.t1
  let b : Int := (t4 : Int) - t3
  let d := (a + b) / 2
  let ofs := (a - b) / 2 - asymOf x.asym
  let l := (s.exch p).delays
  let far := farDelay (s.f DELAY_WIN) l d
  if decide (64 ≤ s.servo.acq) && !l.isEmpty && far then s.exchDiscard p
  else
    let l := (d :: l).take 64
    let s := s.modExch p (fun e => { e with delays := l })
    let s := s.setN (if s.part.isK then portDelayX p else LINK_DELAY) (unsignedOf 32 (q16ToPs (meanDelay l)))
    let s := s.tdcOffset (0x90 + p) (q16ToTdc ofs)
    if s.feeds p && !s.isRoot then
      let s := ((s.inc EXCH_USED).ev 0x3C).setR64 SERVO_OFFSET (unsignedOf 48 ofs)
      s.servoUse ofs
    else s

/-- An exchange has had three SYNC intervals since its SYNC (R76). -/
def State.exchOld (s : State) (p : Nat) (x : OpenEx) : Bool := decide (x.at_ + 3 * s.syncInterval p ≤ s.beat.n)

/-- A RESP at a child (R75, R76). -/
def State.respRx (s : State) (p : Nat) (m : Msg) (rep : Bool) : State :=
  match (s.exch p).opens.find? (fun x => x.sq == mLo m && x.t3.isSome) with
  | none => s.exchDiscard p
  | some x =>
    let s := s.modExch p (fun e => { e with opens := e.opens.filter (fun y => y.sq != mLo m), heard := s.beat.n })
    if rep || x.replayed || s.exchOld p x then s.exchDiscard p else s.useExchange p x (x.t3.getD 0) (tsScalar (mBody m))

/-- A receive mark at the die pins: a CTSU's, taken at its PHY interface, comes PHY_RX_LAT earlier (R72, R396). -/
def State.rxMark (s : State) (p : Nat) (mark : Stamp) : Stamp :=
  if s.part.isK then mark else BitVec.ofNat 96 (tsOf (tsScalar mark.toNat - s.rn (s.pa p 0x18) * 65536 / 1000))

/-- A TIME message on a port, with its mark as the PHY interface gave it: the receive mark is a measurement source (a
replay has none, R193), then its kind acts; kind 3 is discarded (R77). -/
def State.timeRx (s : State) (p : Nat) (m : Msg) (mark : Stamp) (rep : Bool) : State :=
  let mark := s.rxMark p mark
  let s := if rep then s else s.tdcEdge (0x40 + p) (q16ToTdc (tsScalar mark.toNat))
  match mTimeKind m with
  | 0 => s.syncRx p m mark rep
  | 1 => s.reqRx p m mark rep
  | 2 => s.respRx p m rep
  | _ => s

/-- A message is a TIME message of one kind. -/
def isTime (m : Msg) (k : Nat) : Bool := mType m == 1 && mTimeKind m == k

/-- SYNC (R73). -/
def execSync (p : Nat) (m : Msg) (mark : Stamp) (rep : Bool) (s : State) : Out :=
  .next (if isTime m 0 then s.timeRx p m mark rep else s)

/-- REQ (R73). -/
def execReq (p : Nat) (m : Msg) (mark : Stamp) (rep : Bool) (s : State) : Out :=
  .next (if isTime m 1 then s.timeRx p m mark rep else s)

/-- RESP (R75). -/
def execResp (p : Nat) (m : Msg) (mark : Stamp) (rep : Bool) (s : State) : Out :=
  .next (if isTime m 2 then s.timeRx p m mark rep else s)

/-- EXCHANGE_TIMEOUT (R76): the exchanges whose RESP has not come within three SYNC intervals. -/
def execExchangeTimeout (p : Nat) (s : State) : Out :=
  let gone := (s.exch p).opens.filter (s.exchOld p)
  .next ((s.modExch p (fun e => { e with opens := e.opens.filter (fun x => !s.exchOld p x) })).each gone
    (fun s _ => s.exchDiscard p))

/-- SETTLE_DONE (R79). -/
def execSettleDone (s : State) : Out :=
  .next (if s.bit LOCKED && !s.bit SETTLED then (s.setB SETTLED true).raise TIME_CAUSE 2 else s)

/-! ### UTC and the management port's status -/

/-- A write of NET_CTRL: the plain fields, then UTC_CLAIM by R107. -/
def State.netCtrlWrite (s : State) (v : Nat) : State :=
  let s := s.setF ⟨NET_CTRL, 0, 3⟩ v
  let s := if s.bit PORT_EN || !s.bit NET_LINK_UP then s else (s.setB NET_LINK_UP false).raise NET_CAUSE 3
  if bitOf v 3 then s.utcClaim
  else if s.bit UTC_CLAIM then ((s.setB UTC_CLAIM false).setB HT_UTC_VALID false).setB UTC_VALID false
  else s

/-- UTC_CLAIM_WRITE (R107). -/
def execUtcClaimWrite (v : Word) (s : State) : Out := .next (s.onK (fun s => s.unlocked (fun s => s.netCtrlWrite (forceBits v 8))))

/-- LINK_CHANGE (R98): with PORT_EN 0, and in TADPOLE, the port is held in reset (R357). -/
def execLinkChange (up : Bool) (s : State) : Out :=
  let b := up && s.bit PORT_EN && !s.inTadpole
  .next (s.onK (fun s => if s.bit NET_LINK_UP = b then s else (s.setB NET_LINK_UP b).raise NET_CAUSE 3))

/-- MOD_CHANGE (R98). -/
def execModChange (st : BitVec 3) (s : State) : Out :=
  .next (s.onK (fun s =>
    if s.f ⟨MOD_STATUS, 0, 3⟩ = st.toNat then s else (s.setF ⟨MOD_STATUS, 0, 3⟩ st.toNat).raise NET_CAUSE 4))

end Sys2Proof.Machine
end

