-- ==== Sys2Proof/Machine/Digest.lean ====
section
/-! DEFINITION. CRC-32C of RFC 3720 (R180), the FCS of IEEE 802.3 (R98), SHA-256 (R213, R217, R345) and SHA-384 (R344), as
functions of a list of bytes. -/

namespace Sys2Proof.Machine

/-- n steps of a reflected CRC-32 register with feedback word g. -/
def crcBits (g : BitVec 32) : Nat → BitVec 32 → BitVec 32
  | 0, c => c
  | n + 1, c => crcBits g n (if c.getLsbD 0 then (c >>> 1) ^^^ g else c >>> 1)

/-- One byte into the register. -/
def crcByte (g : BitVec 32) (c : BitVec 32) (b : Byte) : BitVec 32 := crcBits g 8 (c ^^^ b.zeroExtend 32)

/-- A reflected CRC-32: initial value and final XOR 0xFFFFFFFF. -/
def crcOf (g : BitVec 32) (bs : List Byte) : BitVec 32 := (bs.foldl (crcByte g) 0xFFFFFFFF#32) ^^^ 0xFFFFFFFF#32

/-- CRC-32C: polynomial 0x1EDC6F41 (R180). -/
def crc32c (bs : List Byte) : BitVec 32 := crcOf 0x82F63B78#32 bs

/-- The frame check sequence of IEEE 802.3, in the order in which its octets are sent: polynomial 0x04C11DB7 (R98). -/
def frameFcs (bs : List Byte) : List Byte := leBytes 4 (crcOf 0xEDB88320#32 bs).toNat

/-- Two hash functions of one shape (R213, R344): the word width w, the rotations of the two sums of a round and of the
two of the message schedule (the last of each of these a shift), the number of rounds, the initial words and the bytes
of the digest. -/
structure HashKind where
  w : Nat
  up : Nat × Nat × Nat
  dn : Nat × Nat × Nat
  old : Nat × Nat × Nat
  new : Nat × Nat × Nat
  rounds : Nat
  init : Nat
  out : Nat
  deriving DecidableEq, Repr

/-- The round constants, 64 bits each, eight to a number, the first at the top. -/
def hashTable : List Nat := [
  0x428a2f98d728ae227137449123ef65cdb5c0fbcfec4d3b2fe9b5dba58189dbbc3956c25bf348b53859f111f1b605d019923f82a4af194f9bab1c5ed5da6d8118,
  0xd807aa98a303024212835b0145706fbe243185be4ee4b28c550c7dc3d5ffb4e272be5d74f27b896f80deb1fe3b1696b19bdc06a725c71235c19bf174cf692694,
  0xe49b69c19ef14ad2efbe4786384f25e30fc19dc68b8cd5b5240ca1cc77ac9c652de92c6f592b02754a7484aa6ea6e4835cb0a9dcbd41fbd476f988da831153b5,
  0x983e5152ee66dfaba831c66d2db43210b00327c898fb213fbf597fc7beef0ee4c6e00bf33da88fc2d5a79147930aa72506ca6351e003826f142929670a0e6e70,
  0x27b70a8546d22ffc2e1b21385c26c9264d2c6dfc5ac42aed53380d139d95b3df650a73548baf63de766a0abb3c77b2a881c2c92e47edaee692722c851482353b,
  0xa2bfe8a14cf10364a81a664bbc423001c24b8b70d0f89791c76c51a30654be30d192e819d6ef5218d69906245565a910f40e35855771202a106aa07032bbd1b8,
  0x19a4c116b8d2d0c81e376c085141ab532748774cdf8eeb9934b0bcb5e19b48a8391c0cb3c5c95a634ed8aa4ae3418acb5b9cca4f7763e373682e6ff3d6b2b8a3,
  0x748f82ee5defb2fc78a5636f43172f6084c87814a1f0ab728cc702081a6439ec90befffa23631e28a4506cebde82bde9bef9a3f7b2c67915c67178f2e372532b,
  0xca273eceea26619cd186b8c721c0c207eada7dd6cde0eb1ef57d4f7fee6ed17806f067aa72176fba0a637dc5a2c898a6113f9804bef90dae1b710b35131c471b,
  0x28db77f523047d8432caab7b40c724933c9ebe0a15c9bebc431d67c49c100d4c4cc5d4becb3e42b6597f299cfc657e2a5fcb6fab3ad6faec6c44198c4a475817]

/-- Round constant i at width w: its upper w bits. -/
def HashKind.konst (k : HashKind) (i : Nat) : Nat :=
  hashTable.getD (i / 8) 0 / 2 ^ (64 * (7 - i % 8)) % 2 ^ 64 / 2 ^ (64 - k.w)

/-- SHA-256. -/
def hash256 : HashKind where
  w := 32
  up := (2, 13, 22)
  dn := (6, 11, 25)
  old := (7, 18, 3)
  new := (17, 19, 10)
  rounds := 64
  init := 0x6a09e667bb67ae853c6ef372a54ff53a510e527f9b05688c1f83d9ab5be0cd19
  out := 32

/-- SHA-384. -/
def hash384 : HashKind where
  w := 64
  up := (28, 34, 39)
  dn := (14, 18, 41)
  old := (1, 8, 7)
  new := (19, 61, 6)
  rounds := 80
  init := 0xcbbb9d5dc1059ed8629a292a367cd5079159015a3070dd17152fecd8f70e593967332667ffc00b318eb44a8768581511db0c2e0d64f98fa747b5481dbefa4fa4
  out := 48

/-- A word of w bits turned right by n. -/
def HashKind.turn (k : HashKind) (x n : Nat) : Nat := x / 2 ^ n + x % 2 ^ n * 2 ^ (k.w - n)

/-- The sum of a round: three turns of one word. -/
def HashKind.turns (k : HashKind) (r : Nat × Nat × Nat) (x : Nat) : Nat :=
  k.turn x r.1 ^^^ k.turn x r.2.1 ^^^ k.turn x r.2.2

/-- The sum of the schedule: two turns and a shift. -/
def HashKind.mixes (k : HashKind) (r : Nat × Nat × Nat) (x : Nat) : Nat :=
  k.turn x r.1 ^^^ k.turn x r.2.1 ^^^ x / 2 ^ r.2.2

/-- One round on the eight working words. -/
def HashKind.round (k : HashKind) (v : List Nat) (kw : Nat) : List Nat :=
  let g := fun i => v.getD i 0
  let pick := g 6 ^^^ (g 4 &&& (g 5 ^^^ g 6))
  let most := (g 0 &&& (g 1 ||| g 2)) ||| (g 1 &&& g 2)
  let t := k.turns k.dn (g 4) + pick + g 7 + kw
  [(t + k.turns k.up (g 0) + most) % 2 ^ k.w, g 0, g 1, g 2, (g 3 + t) % 2 ^ k.w, g 4, g 5, g 6]

/-- Rounds i, i + 1, … of a block: the next sixteen words of the message schedule slide along. -/
def HashKind.rounds_ (k : HashKind) : Nat → Nat → List Nat → List Nat → List Nat
  | 0, _, _, v => v
  | n + 1, i, ws, v =>
    let x := (ws.getD 0 0 + k.mixes k.old (ws.getD 1 0) + ws.getD 9 0 + k.mixes k.new (ws.getD 14 0)) % 2 ^ k.w
    k.rounds_ n (i + 1) (ws.drop 1 ++ [x]) (k.round v (ws.getD 0 0 + k.konst i))

/-- n blocks of sixteen words, the words big-endian. -/
def HashKind.blocks (k : HashKind) : Nat → List Byte → List Nat → List Nat
  | 0, _, v => v
  | n + 1, bs, v =>
    let ws := (List.range 16).map (fun i => beNat ((bs.drop (k.w / 8 * i)).take (k.w / 8)))
    let y := k.rounds_ k.rounds 0 ws v
    k.blocks n (bs.drop (2 * k.w)) ((List.range 8).map (fun i => (v.getD i 0 + y.getD i 0) % 2 ^ k.w))

/-- The digest of a list of bytes: they are padded by one bit 1, zeros and their length in bits to whole blocks. -/
def HashKind.digest (k : HashKind) (bs : List Byte) : List Byte :=
  let n := bs.length
  let blocks := (n + k.w / 4) / (2 * k.w) + 1
  let m := bs ++ [(0x80 : Byte)] ++ beBytes (blocks * (2 * k.w) - n - 1) (8 * n)
  let v := k.blocks blocks m ((List.range 8).map (fun i => k.init / 2 ^ (k.w * (7 - i)) % 2 ^ k.w))
  (v.flatMap (beBytes (k.w / 8))).take k.out

/-- SHA-256, the 32 bytes of the digest. -/
def sha256 (bs : List Byte) : List Byte := hash256.digest bs

/-- SHA-384, the 48 bytes of the digest (R344). -/
def sha384 (bs : List Byte) : List Byte := hash384.digest bs

end Sys2Proof.Machine
end

