-- ==== Sys2Proof/Machine/LeapOps.lean ====
section
/-! DEFINITION. Votes and commit acknowledgements (R16, R17, R119, R122): the comparisons that follow every change of
a counter, and the combination of children's votes. -/

namespace Sys2Proof.Machine

/-- A signed 64-bit register. -/
def State.i64 (s : State) (a : Nat) : Int := signed 64 (s.r64 a)

/-- The value that a counter reference (READY_SEL layout) compares: 0 where it names no counter (R131). -/
def State.refVal (s : State) (sel : Nat) : Nat :=
  let c := bitsOf sel 8 8
  let k := bitsOf sel 0 6
  if c < s.part.numCores ∧ k < 48 then s.rn (counterA c k) else 0

/-- Every child that counted when the node armed has its bit in a list: the vote of one fenced since then is never
present (R17). -/
def State.kidsIn (s : State) (l : List Nat) : Bool := s.leap.kids.all (fun p => l.contains p)

/-- Forward the combined vote when the own vote and those of all children are present (R17). -/
def State.combineVote (s : State) : State :=
  if s.armed && s.bit VOTE_OUT && !s.leap.upVoted && s.kidsIn s.leap.votes then
    let s := { s with leap := { s.leap with upVoted := true } }
    s.sendUp (leapMsg kREADY 0 (s.pendStep % 2 ^ 16) 0)
  else s

/-- The node's own vote READY for the pending step (R112, R119). -/
def State.castVote (s : State) : State := (s.setB VOTE_OUT true).combineVote

/-- The node acknowledges its pending commit, and the schedule advances (R122). -/
def State.sendCack (s : State) : State :=
  let c := s.r64 PEND_COMMIT
  let s := ({ s with leap := { s.leap with ownCack := true, combC := c } }.ev 6).combineCack
  let t := s.rn COMMIT_TARGET + s.rn COMMIT_STRIDE
  if t > 0xFFFFFFFF then
    { s with leap := { s.leap with cackOff := true } }.formFail 6 (s.f NODE_ID)
  else (s.setR64 PEND_COMMIT (c + s.f COMMIT_EVERY)).setN COMMIT_TARGET t

/-- The commit comparison (R122). `voted` is true in the cycle of the own vote, with which CACK goes when
COMMIT_EN is 0. -/
def State.checkCommit (s : State) (voted : Bool) : State :=
  if s.armed && !s.leap.cackOff && decide (s.r64 PEND_COMMIT < s.pendStep) then
    if bitOf (s.rn COMMIT_SEL) 31 then
      if s.rn COMMIT_TARGET ≤ s.refVal (s.rn COMMIT_SEL) then s.sendCack else s
    else if voted then s.sendCack else s
  else s

/-- The comparisons of every cycle (R119, R122): the vote for the pending step, then the commit. -/
def State.leapChecks (s : State) : State :=
  if s.armed && !s.bit VOTE_OUT && !s.bit GO_HELD && !s.leap.voteOff &&
      decide (s.rn READY_TARGET ≤ s.refVal (s.rn READY_SEL)) then
    (s.castVote).checkCommit true
  else s.checkCommit false

end Sys2Proof.Machine
end

