-- ==== Sys2Proof/Machine/Queues.lean ====
section
/-! DEFINITION. Queue tables, memory spaces and the bulk port as the counter unit and the queues use them: ring
addresses (R210, R212), bulk requests (R399) and the posted counts of transmit rings (R202). -/

namespace Sys2Proof.Machine

/-! ### Memory spaces of a Krasesta -/

/-- Bytes of stack space: 576 GB (R231). -/
def stackBytes : Nat := 576 * 2 ^ 30

/-- Bytes of bonded memory of a tile: 128 MiB (R226). -/
def tileBytes : Nat := 2 ^ 27

/-- The physical tile of a logical tile (R227). -/
def State.physOf (s : State) (l : Nat) : Nat := s.rn (0x2F00000 + 4 * l) % 128

/-- The place in `bonded` of an address of the logical bonded-memory space (R210, R226). -/
def State.bondedAt (s : State) (a : Nat) : Nat := s.physOf (a / tileBytes % 64) * tileBytes + a % tileBytes

/-- Read bytes of a space: 0 the logical bonded memory, otherwise the stacks. Addresses outside the space read 0. -/
def State.readSpace (s : State) (sel a n : Nat) : List Byte :=
  if sel = 0 then (List.range n).map (fun i => if a + i < 64 * tileBytes then s.bonded.byte (s.bondedAt (a + i)) else 0)
  else (List.range n).map (fun i => if a + i < stackBytes then s.stack.byte (a + i) else 0)

/-- A tile's runtime. -/
def State.tile (s : State) (t : Nat) : Tile := tget (fun _ => {}) s.tiles t

/-- The program that the sequencer of a tile runs: the step program, else the sentinel. -/
def Tile.cur (x : Tile) : Option Prog := match x.prog with | some p => some p | none => x.sent

/-- Replace a tile's runtime. -/
def State.setTile (s : State) (t : Nat) (x : Tile) : State := { s with tiles := tset (fun _ => {}) s.tiles t x }

/-- The CLEAN_MAP bit of a block of a tile. -/
def cleanF (t b : Nat) : Fld := bitF (0x2000100 + 0x20000 * t + 4 * (b / 32)) (b % 32)

/-- A block is clean with a stack source, or dirty (R262). -/
def State.setClean (s : State) (t b : Nat) (src : Option Nat) : State :=
  (s.setB (cleanF t b) src.isSome).setTile t { s.tile t with src := tset (fun _ => none) (s.tile t).src b src }

/-- The blocks of 64 KiB that n bytes from an offset touch. -/
def blockSpan (a n : Nat) : List Nat :=
  if n = 0 then [] else (List.range ((a + n - 1) / 65536 + 1 - a / 65536)).map (· + a / 65536)

/-- Write bytes of physical bonded memory, from an offset of a tile; the blocks become dirty (R262). -/
def State.tWrite (s : State) (t ofs : Nat) (bs : List Byte) : State :=
  let s := { s with bonded := s.bonded.write (t * tileBytes + ofs) bs }
  s.each (blockSpan ofs bs.length) (fun s b => if ((s.tile t).src).isEmpty then s else s.setClean t b none)

/-- Read bytes of physical bonded memory. -/
def State.tRead (s : State) (t ofs n : Nat) : List Byte := s.bonded.read (t * tileBytes + ofs) n

/-- The 64-byte units of stack s that n bytes from stack address a touch (R231). -/
def stackUnits (a n st : Nat) : Nat :=
  if n = 0 then 0
  else ((List.range ((a + n - 1) / 64 + 1 - a / 64)).filter (fun i => (a / 64 + i) / 64 % 6 == st)).length

/-- Count stack traffic for the event counters: 0x60 read, 0x61 written. -/
def State.stackEv (s : State) (code a n : Nat) : State :=
  s.each (List.range 6) (fun s st => let k := stackUnits a n st; if k = 0 then s else s.evN code st k)

/-- The pieces of a range of the bonded-memory space, cut at tiles: address and length. -/
def tileCuts : Nat → Nat → Nat → List (Nat × Nat)
  | 0, _, _ => []
  | f + 1, a, n => if n = 0 then [] else
      let m := min n (tileBytes - a % tileBytes)
      (a, m) :: tileCuts f (a + m) (n - m)

/-- The 64-byte unit with an address meets a range. -/
def unitMeets (x a n : Nat) : Bool := decide (a / 64 ≤ x / 64) && decide (x / 64 * 64 < a + n)

/-- Write bytes of a space: 0 the logical bonded memory, otherwise the stacks; addresses outside the space take no
write. -/
def State.writeSpace (s : State) (sel a : Nat) (bs : List Byte) : State :=
  if sel = 0 then
    s.each (tileCuts 66 a bs.length) (fun s x =>
      if x.1 < 64 * tileBytes then s.tWrite (s.physOf (x.1 / tileBytes)) (x.1 % tileBytes) ((bs.drop (x.1 - a)).take x.2)
      else s)
  else
    let bs := bs.take (stackBytes - a)
    { s with
      stack := s.stack.write a bs
      host := { s.host with bad := s.host.bad.filter (fun x => !unitMeets x.1 a bs.length) } }.stackEv 0x61 a bs.length

/-! ### The bulk port of a die (R399) -/

/-- BWR_STRB of beat b of a write: the byte lanes that carry one of its bytes (Table BLK-2, R399). -/
def BulkReq.strobe (x : BulkReq) (b : Nat) : BitVec 128 :=
  let first := x.addr % 128
  BitVec.ofNat 128 ((List.range 128).foldl
    (fun w j => if decide (first ≤ 128 * b + j) && decide (128 * b + j < first + x.len) then w + 2 ^ j else w) 0)

/-- Cut a byte range at multiples of 2,048 bytes, which is 16 beats and never crosses a 4 KiB boundary. -/
def bulkCuts : Nat → Nat → Nat → List (Nat × Nat)
  | 0, _, _ => []
  | f + 1, a, n =>
    if n = 0 then []
    else
      let m := min n (2048 - a % 2048)
      (a, m) :: bulkCuts f (a + m) (n - m)

/-- Beats of a range: addresses round down to 128 bytes. -/
def bulkBeats (a n : Nat) : Nat := (a + n + 127) / 128 - a / 128

/-- The lowest TAG that is not outstanding. -/
def freeTag (l : List (Nat × BulkReq)) : Nat := ((List.range 64).find? (fun t => l.all (fun x => x.1 != t))).getD 0

/-- Give waiting requests a TAG while fewer than 64 are outstanding. -/
def bulkTake : List BulkReq → List (Nat × BulkReq) → List BulkReq × List (Nat × BulkReq)
  | [], out => ([], out)
  | r :: w, out => if out.length < 64 then bulkTake w (out ++ [(freeTag out, r)]) else (r :: w, out)

/-- Issue what the bulk port can take. -/
def State.bulkPump (s : State) : State :=
  let rd := bulkTake s.bulk.rdWait s.bulk.rdOut
  let wr := bulkTake s.bulk.wrWait s.bulk.wrOut
  { s with bulk := { rdWait := rd.1, rdOut := rd.2, wrWait := wr.1, wrOut := wr.2 } }

/-- Request a read of n bytes; `use` is given the offset of each part within the range. -/
def State.bulkRead (s : State) (use : Nat → BulkUse) (a n : Nat) : State :=
  let l := (bulkCuts (n / 2048 + 2) a n).map (fun x =>
    ({ use := use (x.1 - a), addr := x.1 % 2 ^ 52, len := x.2, beats := bulkBeats x.1 x.2, data := [] } : BulkReq))
  ({ s with bulk := { s.bulk with rdWait := s.bulk.rdWait ++ l } }).bulkPump

/-- Request a write. -/
def State.bulkWrite (s : State) (use : BulkUse) (a : Nat) (bs : List Byte) : State :=
  let l := (bulkCuts (bs.length / 2048 + 2) a bs.length).map (fun x =>
    ({ use := use, addr := x.1 % 2 ^ 52, len := x.2, beats := bulkBeats x.1 x.2,
       data := (bs.drop (x.1 - a)).take x.2 } : BulkReq))
  ({ s with bulk := { s.bulk with wrWait := s.bulk.wrWait ++ l } }).bulkPump

/-- BULK_BASE[b] of a die. -/
def State.bulkBase (s : State) (b : Nat) : Nat := s.r64 (0x190100 + 8 * (b % 16))

/-! ### Queue tables (Tables TRN-10, TRN-11) -/

/-- A register of the entry of queue q of port p. -/
def State.qa (s : State) (p q ofs : Nat) : Nat := queueBase s.part p + 0x40 * q + ofs

/-- DEPTH, KIND, FWD_PORT, FWD_QUEUE and BASE_SEL of a receive queue. -/
def State.rxDepth (s : State) (p q : Nat) : Nat := bitsOf (s.rn (s.qa p q 0)) 16 16
def State.rxKind (s : State) (p q : Nat) : Nat := bitsOf (s.rn (s.qa p q 4)) 30 2
def State.fwdPort (s : State) (p q : Nat) : Nat := bitsOf (s.rn (s.qa p q 4)) 16 7
def State.fwdQueue (s : State) (p q : Nat) : Nat := bitsOf (s.rn (s.qa p q 4)) 8 6
def State.rxSel (s : State) (p q : Nat) : Nat := s.rn (s.qa p q 4) % 16
/-- RXQ_OCC. -/
def State.occNow (s : State) (p q : Nat) : Fld := ⟨s.qa p q 0x28, 0, 16⟩
def State.occHwm (s : State) (p q : Nat) : Fld := ⟨s.qa p q 0x28, 16, 16⟩
/-- SRC and BASE_SEL of a transmit queue. -/
def State.txSrc (s : State) (p q : Nat) : Nat := bitsOf (s.rn (s.qa p q 0x14)) 30 2
def State.txSel (s : State) (p q : Nat) : Nat := s.rn (s.qa p q 0x14) % 16
/-- TX_SENT. -/
def State.txSent (s : State) (p q : Nat) : Nat := s.rn (s.qa p q 0x30)

/-- A transmit queue's runtime. -/
def State.txq (s : State) (p q : Nat) : TxQ := tget (fun _ => {}) (s.port p).txq q

/-- Replace a transmit queue's runtime. -/
def State.setTxq (s : State) (p q : Nat) (x : TxQ) : State :=
  s.modPort p (fun y => { y with txq := tset (fun _ => {}) y.txq q x })

/-- A receive queue's entries. -/
def State.rxq (s : State) (p q : Nat) : List RxEnt := tget (fun _ => []) (s.port p).rxq q

/-- Replace a receive queue's entries. -/
def State.setRxq (s : State) (p q : Nat) (l : List RxEnt) : State :=
  s.modPort p (fun y => { y with rxq := tset (fun _ => []) y.rxq q l })

/-- The instance that a queue event names (R385): the queue of a die, the port of a Krasesta. -/
def State.qInst (s : State) (p q : Nat) : Nat := if s.part.isK then p else q

/-- The address of entry i of a ring with RING at `ring`: with BASE_SEL 0 or 1 in a Krasesta (R210), from BULK_BASE in a
die (R212). -/
def State.ringAddr (s : State) (sel ring slots i : Nat) : Nat :=
  if s.part.isK then (s.rn ring + i % slots) * 256
  else (s.bulkBase sel + (s.rn ring + i % slots) * 256) % 2 ^ 52

/-- The port and queue whose TXQ_CFG lies at an address. -/
def State.txCfgAt (s : State) (a : Nat) : Option (Nat × Nat) :=
  if s.part.isK then
    if 0x1000000 ≤ a ∧ a < 0x1480000 then
      let o := (a - 0x1000000) % 0x40000
      let w := o % 0x8000
      if 0x8000 ≤ o ∧ o < 0x28000 ∧ 0x2000 ≤ w ∧ w < 0x3000 ∧ w % 0x40 = 0x14 then
        some (4 * ((a - 0x1000000) / 0x40000) + (o / 0x8000 - 1), (w - 0x2000) / 0x40)
      else none
    else none
  else if 0x192000 ≤ a ∧ a < 0x193000 ∧ (a - 0x192000) % 0x40 = 0x14 then some (0, (a - 0x192000) / 0x40)
  else none

/-- The transmit queues that send from a ring. -/
def State.ringQueues (s : State) : List (Nat × Nat) :=
  s.regs.filterMap (fun x => if bitsOf x.2.toNat 30 2 = 1 then s.txCfgAt x.1 else none)

/-- The data of a transmit ring read; none for a bulk error (R401). -/
def State.ringRead (s : State) (p q i : Nat) (bs : Option (List Byte)) : State :=
  let x := s.txq p q
  if s.txSent p q ≤ i then s.setTxq p q { x with buf := x.buf ++ [(i, bs)] } else s

/-- Read ring entry i of a transmit queue: over the bulk port of a die; a Krasesta port reads its memory at once, which
the 256 ns of R202 allow (DESIGN CHOICE, log entry 136). -/
def State.ringAsk (s : State) (p q i : Nat) : State :=
  let sel := s.txSel p q
  let a := s.ringAddr sel (s.qa p q 0x18) (s.rn (s.qa p q 0x1C)) i
  if s.part.isK then
    let s := if sel = 0 then s else s.stackEv 0x60 a 256
    s.ringRead p q i (some (s.readSpace sel a 256))
  else s.bulkRead (fun _ => .txRing q i) a 256

/-- Follow the posted count of one queue and read the entries posted anew, each when the count first exceeds it
(R202, R400). -/
def State.notePost (s : State) (pq : Nat × Nat) : State :=
  let p := pq.1
  let q := pq.2
  let post := s.rn (s.qa p q 0x20)
  if bitOf post 31 then
    let v := s.refVal post
    let x := s.txq p q
    let s := match x.posts with
      | (u, _) :: _ => if u = v then s else s.setTxq p q { x with posts := (v, s.now) :: x.posts }
      | [] => if v = 0 then s else s.setTxq p q { x with posts := [(v, s.now)] }
    let frm := max x.asked (s.txSent p q)
    let s := s.each ((List.range (v - frm)).map (· + frm)) (fun s i => s.ringAsk p q i)
    s.setTxq p q { s.txq p q with asked := max frm v }
  else s

/-- Follow the posted counts of every transmit ring. -/
def State.notePosts (s : State) : State := s.each s.ringQueues (fun s pq => s.notePost pq)

/-- The first cycle in which the posted count exceeded i, 2^-16 ns. -/
def State.postedAt (s : State) (p q i : Nat) : Option Nat :=
  (((s.txq p q).posts.reverse.find? (fun x => decide (i < x.1)))).map (·.2)

/-- TASK_SWITCH, stage 0: every receive queue is emptied, and TX_SENT and RXQ_DELIV of every queue become 0 (R208). -/
def State.clearQueues (s : State) : State :=
  let isQ := fun (a : Nat) => (s.txCfgAt (a - a % 0x40 + 0x14)).isSome && (a % 0x40 == 0x28 || a % 0x40 == 0x2C || a % 0x40 == 0x30)
  let s := { s with regs := s.regs.filter (fun x => !isQ x.1) }
  let s := s.each s.allPorts (fun s p => s.modPort p (fun x => { x with txq := [], rxq := [] }))
  { s with
    pfx := { s.pfx with eaten := [] }
    bulk := { s.bulk with
      rdWait := s.bulk.rdWait.filter (fun r => match r.use with | .txRing .. => false | _ => true)
      rdOut := s.bulk.rdOut.map (fun x => match x.2.use with | .txRing .. => (x.1, { x.2 with use := .dropped }) | _ => x)
      wrWait := s.bulk.wrWait.filter (fun r => match r.use with | .rxRing .. => false | _ => true) } }

end Sys2Proof.Machine
end

