-- ==== Sys2Proof/Machine/CounterUnit.lean ====
section
/-! DEFINITION. The counter unit: one cycle of it with every stage of Tables CNT-1 and BRS-6, as one operation that
every event of counters, watches and barriers runs. -/

namespace Sys2Proof.Machine

/-- A response decided in the cycle: its core, its group by R147 (0 slots, 1 reads, 2 others), its place in the group
and the acceptance time, and its word. -/
structure Dec where
  core : Nat
  grp : Nat
  key : Nat
  acc : Nat
  word : Msg
  deriving DecidableEq, Repr

/-- The work of one cycle: the state, the responses decided, the counters changed by ADDs and those forced, whether the
FORCE has been reported already, the releases applied, and the waits entered for a round that is already released. -/
structure Cyc where
  s : State
  decs : List Dec := []
  changed : List (Nat × Nat) := []
  forced : List (Nat × Nat) := []
  told : Bool := false
  rels : List (Nat × Nat) := []
  past : List Nat := []

/-- Note an item that breaks the deadlock window (R170). -/
def State.dlTouch (s : State) : State := { s with bar := { s.bar with dlSince := s.now } }

/-- The port, or the tile, that serves a core (R397, R147). -/
def State.rspPort (s : State) (core : Nat) : Nat := core % s.part.numCmp

/-- Count a malformed request and record it (Table CNT-13). -/
def State.badReq (s : State) (reason src core k : Nat) : State :=
  ((((s.inc BAD_REQ).setN BAD_REQ_INFO
    (2 ^ 31 + reason % 8 * 2 ^ 28 + src % 256 * 2 ^ 20 + core % 256 * 2 ^ 12 + k % 64 * 2 ^ 6)).raise CNT_CAUSE 6)).ev 0xD

/-- A counter of the node exists. -/
def State.hasCounter (s : State) (c k : Nat) : Bool := decide (c < s.part.numCores) && decide (k < 48)

/-- A response word of this cycle. -/
def State.mkRsp (s : State) (core status tag value : Nat) (late : Bool := false) (forced : Bool := false)
    (sat : Bool := false) : Msg := rspMsg core status tag value s.nsField late forced sat

/-- Decide a response. -/
def Cyc.dec (y : Cyc) (d : Dec) : Cyc := { y with decs := y.decs ++ [d] }

/-- Insert into a list sorted by a key, after equal keys. -/
def insBy {α : Type} (lt : α → α → Bool) (x : α) : List α → List α
  | [] => [x]
  | y :: t => if lt x y then x :: y :: t else y :: insBy lt x t

/-- Stable insertion sort. -/
def sortBy {α : Type} (lt : α → α → Bool) : List α → List α
  | [] => []
  | x :: t =>
    let rec go (acc : List α) : List α → List α
      | [] => acc
      | y :: u => go (insBy lt y acc) u
    go [x] t

/-- Lexicographic comparison of lists of numbers. -/
def lexLt : List Nat → List Nat → Bool
  | [], [] => false
  | [], _ :: _ => true
  | _ :: _, [] => false
  | a :: l, b :: m => if a < b then true else if b < a then false else lexLt l m

/-- The order of responses (R147): destination core, group, place, acceptance. -/
def decLt (a b : Dec) : Bool := lexLt [a.core, a.grp, a.key, a.acc] [b.core, b.grp, b.key, b.acc]

/-! ### Stage 1: FORCE and ADD -/

/-- Add an increment to one counter, saturating (R133); the first change sets DIRTY (R152). -/
def State.bump (s : State) (c k inc : Nat) : State :=
  let v := s.rn (counterA c k) + inc
  let s := { s with cnt := { s.cnt with dirty := true } }
  if v > 0xFFFFFFFF then
    (((s.setN (counterA c k) 0xFFFFFFFF).setB (satF c k) true).raise CNT_CAUSE 0).ev 0x14
  else s.setN (counterA c k) v

/-- The sum of the increments due to a counter in one cycle. -/
def incFor (l : List (Nat × Nat × Nat)) (ck : Nat × Nat) : Nat :=
  (l.filter (fun x => (x.1, x.2.1) == ck)).foldl (fun n x => n + x.2.2) 0

/-- The counters that a list of ADDs names, each once. -/
def namedCounters (l : List (Nat × Nat × Nat)) : List (Nat × Nat) := (l.map (fun x => (x.1, x.2.1))).eraseDups

/-- Apply the ADDs of a cycle, summed per counter. -/
def Cyc.applyAdds (y : Cyc) (l : List (Nat × Nat × Nat)) : Cyc :=
  let cs := namedCounters l
  { y with s := y.s.each cs (fun s ck => s.bump ck.1 ck.2 (incFor l ck)), changed := y.changed ++ cs }

/-- A FORCE has been applied to a counter (R153, R330). -/
def State.tellForce (s : State) (c k : Nat) : State :=
  ((s.raise GK_CAUSE 5).log 11 (c * 2 ^ 8 + k)).setRpt (fun x => { x with notRepro := true })

/-- Apply the oldest FORCE (R153, R336): one in a cycle. The ADDs of this cycle are added to the forced value. -/
def Cyc.applyForce (y : Cyc) : Cyc :=
  match y.s.cnt.forces with
  | (c, k, v) :: t =>
    let s := { y.s with cnt := { y.s.cnt with forces := t, dirty := true } }
    let s := ((s.setN (counterA c k) v).setB (forcedF c k) true).raise CNT_CAUSE 9
    { y with s := if y.told then s else s.tellForce c k, forced := [(c, k)] }
  | [] => y

/-- The SAT_MAP bit of a forced counter follows its result (R153). -/
def Cyc.fixSat (y : Cyc) : Cyc :=
  { y with s := y.s.each y.forced (fun s ck => s.setB (satF ck.1 ck.2) (s.rn (counterA ck.1 ck.2) == 0xFFFFFFFF)) }

/-- A request is due. -/
def PendReq.isDue (x : PendReq) (now : Nat) : Bool := decide (x.due ≤ now)

/-- The ADDs due in this cycle to counters of the node: local requests, the device's own, held CADDs at their DUE, and
those taken in the cycle after arrival. -/
def State.dueAdds (s : State) : List (Nat × Nat × Nat) :=
  let own := fun (x : PendAdd) => (x.core, x.k, x.inc)
  let l :=
    (s.cnt.pend.filter (fun x => x.isDue s.now && x.bad.isNone && rqOp x.word == 1)).map
      (fun x => (rqCore x.word, rqCounter x.word, rqK x.word)) ++
    ((s.cnt.adds ++ s.cnt.hold).filter (fun x => decide (x.due ≤ s.now))).map own ++
    (s.cnt.soon.filter (fun x => decide (x.seen < s.beat.n))).map own
  l.filter (fun x => s.hasCounter x.1 x.2.1)

/-- Stage 1, counters: the FORCE if one applies, then the sums of the ADDs due. -/
def Cyc.stageAdds (y : Cyc) (force : Bool) : Cyc :=
  let y := if force then y.applyForce else y
  let s := y.s
  let n := (s.cnt.pend.filter (fun x => x.isDue s.now && x.bad.isNone && rqOp x.word == 1)).length +
    (s.cnt.adds.filter (fun x => decide (x.due ≤ s.now) && !x.cadd)).length
  let l := s.dueAdds
  let touched := !s.cnt.hold.isEmpty
  let s := if n = 0 then s else (s.addN LOCAL_ADDS n).evN 8 0 n
  let c :=
    { s.cnt with
      adds := s.cnt.adds.filter (fun x => !decide (x.due ≤ s.now)),
      hold := s.cnt.hold.filter (fun x => !decide (x.due ≤ s.now)),
      soon := s.cnt.soon.filter (fun x => !decide (x.seen < s.beat.n)) }
  let s := { s with cnt := c }
  let s := if touched then s.dlTouch else s
  (({ y with s := s }).applyAdds l).fixSat

/-! ### Stage 1: watches -/

/-- The active watches of a core. -/
def State.watchesOf (s : State) (c : Nat) : List Watch := s.cnt.watches.filter (fun w => w.core == c)

/-- The lowest free watch slot of a core. -/
def State.freeSlot (s : State) (c : Nat) : Option Nat :=
  (List.range 8).find? (fun i => !(s.watchesOf c).any (fun w => w.slot == i))

/-- The deadline of a request: acceptance plus TIMEOUT, none for 0 (R141). -/
def deadlineOf (acc timeout : Nat) : Option Nat := if timeout = 0 then none else some (acc + timeout * 65536)

/-- Enter a watch or a barrier wait in a free slot of its core. -/
def State.enterWatch (s : State) (x : PendReq) (slot : Nat) (bar : Option (Nat × Nat)) : State :=
  let m := x.word
  let w : Watch :=
    { core := rqSrc m, slot := slot, tag := rqTag m, ord := s.cnt.nextOrd, acc := x.acc,
      deadline := deadlineOf x.acc (rqTimeout m), cc := if bar.isSome then 0 else rqCore m,
      ck := if bar.isSome then 0 else rqCounter m, target := if bar.isSome then 0 else rqTarget m, bar := bar }
  ({ s with cnt := { s.cnt with watches := s.cnt.watches ++ [w], nextOrd := s.cnt.nextOrd + 1 } }).dlTouch

/-- A refusal or another response outside the slots (third group of R147). -/
def Cyc.answer (y : Cyc) (x : PendReq) (status value : Nat) : Cyc :=
  y.dec ⟨rqSrc x.word, 2, x.port, x.acc, y.s.mkRsp (rqSrc x.word) status (rqTag x.word) value⟩

/-- A WATCH due in this cycle (R141, R142). -/
def Cyc.watch (y : Cyc) (x : PendReq) : Cyc :=
  match y.s.freeSlot (rqSrc x.word) with
  | none => y.answer x 3 0
  | some sl => { y with s := y.s.enterWatch x sl none }

/-- A request refused for its form (R142, R146, R162): counted and recorded in this cycle; an ADD has no response. -/
def Cyc.refuse (y : Cyc) (x : PendReq) (reason : Nat) : Cyc :=
  let m := x.word
  let bar := decide (8 ≤ rqOp m) && decide (rqOp m ≤ 11)
  let s := if bar then y.s.badReq reason (rqSrc m) 0 (rqBar m)
    else y.s.badReq reason (rqSrc m) (rqCore m) (rqCounter m)
  let y := { y with s := s }
  if bar then y.answer x (if reason = 0 then 4 else 11) 0
  else if rqOp m = 2 ∨ rqOp m = 3 ∨ rqOp m = 4 then y.answer x 4 0 else y

/-! ### Stage 1: barriers -/

/-- A barrier entry's runtime. -/
def State.ent (s : State) (k : Nat) : BarEnt := tget (fun _ => {}) s.bar.ents k

/-- Replace a barrier entry's runtime. -/
def State.setEnt (s : State) (k : Nat) (x : BarEnt) : State :=
  { s with bar := { s.bar with ents := tset (fun _ => {}) s.bar.ents k x } }

/-- Start or stop the stall timer after a change of CUR (R168). -/
def State.stallTimer (s : State) (k : Nat) : State :=
  let c := s.f (barCur k)
  let e := s.ent k
  if c = s.f (barExpect k) ∨ c = 0 then s.setEnt k { e with stallAt := none }
  else if e.stallAt.isNone then s.setEnt k { e with stallAt := some s.now } else s

/-- A bit map of 32-bit words: the bits of word w. -/
def mapWord (l : List Nat) (w : Nat) : Nat :=
  ((l.filter (fun p => p / 32 == w)).eraseDups).foldl (fun n p => n + 2 ^ (p % 32)) 0

/-- ARRIVED_MAP shows the ports that have arrived in the open round of an HBAR entry (Table BRS-12). -/
def State.showPorts (s : State) (k : Nat) : State :=
  if s.part.isK && decide (16 ≤ k) then
    s.each [0, 1, 2] (fun s w => s.setN (arrivedMap (k - 16) w) (mapWord (s.ent k).ports w))
  else s

/-- An arrival is refused (R157). -/
def State.overrun (s : State) : State := ((s.inc BAR_OVERRUNS).raise BAR_CAUSE 0).ev 0x1A

/-- Note a source of an arrival. -/
def State.noteSource (s : State) (k : Nat) (next port : Bool) (src : Nat) : State :=
  let e := s.ent k
  let e := match port, next with
    | false, false => { e with cores := src :: e.cores }
    | false, true => { e with coresN := src :: e.coresN }
    | true, false => { e with ports := src :: e.ports }
    | true, true => { e with portsN := src :: e.portsN }
  (s.setEnt k e).showPorts k

/-- Count one arrival in CUR or NEXT (R157); false where it is refused. -/
def State.countArrival (s : State) (k : Nat) (next port : Bool) (src : Nat) : State × Bool :=
  let F := if next then barNext k else barCur k
  if s.f F < s.f (barExpect k) then
    let s := ((s.setF F (s.f F + 1)).ev 0x18).noteSource k next port src
    (if next then s else s.stallTimer k, true)
  else (s.overrun, false)

/-- Classify and count one arrival against the open round, which stage 3 may complete (R157, R167); false where it is
refused. -/
def State.arrive (s : State) (k r : Nat) (port : Bool) (src : Nat) : State × Bool :=
  let d := (r + 4 - s.f (barRound k)) % 4
  if d = 0 then s.countArrival k false port src
  else if d = 1 then s.countArrival k true port src
  else (s.overrun, false)

/-- The entry that a barrier request names: LBAR below 16, HBAR from 16. -/
def rqEntry (m : Msg) : Nat := if rqFlag m then 16 + rqBar m else rqBar m

/-- The state-dependent refusals of R162; the REASON is 7. -/
def State.barRefused (s : State) (m : Msg) : Bool :=
  (!rqFlag m && decide (16 ≤ rqBar m)) || !s.bit (barEn (rqEntry m)) || (rqFlag m && !s.armed) ||
    (rqOp m == 0xA && (rqRound m + 4 - s.f (barRound (rqEntry m))) % 4 == 2)

/-- A barrier request due in this cycle, BREAD apart (R160 to R162). -/
def Cyc.barrier (y : Cyc) (x : PendReq) : Cyc :=
  let m := x.word
  let k := rqEntry m
  let s := y.s
  if s.barRefused m then y.refuse x 7
  else if rqOp m = 9 then
    let (s, ok) := s.arrive k (rqRound m) false (rqSrc m)
    let y := { y with s := s }
    if ok then y else y.answer x 10 (s.f (barRound k))
  else
    match s.freeSlot (rqSrc m) with
    | none => y.answer x 3 0
    | some sl =>
      if rqOp m = 8 then
        let (s, ok) := s.arrive k (rqRound m) false (rqSrc m)
        if ok then { y with s := s.enterWatch x sl (some (k, rqRound m)) }
        else { y with s := s }.answer x 10 (s.f (barRound k))
      else if (rqRound m + 1) % 4 = s.f (barRound k) then
        { y with s := s.enterWatch x sl (some (k, rqRound m)), past := s.cnt.nextOrd :: y.past }
      else { y with s := s.enterWatch x sl (some (k, rqRound m)) }

/-- Stage 1, everything but the counters: refusals, watches and barrier requests due, in order of source. -/
def Cyc.stageEnter (y : Cyc) : Cyc :=
  let due := y.s.cnt.pend.filter (fun x => x.isDue y.s.now)
  let lt := fun (a b : PendReq) => lexLt [rqSrc a.word, a.port, a.acc] [rqSrc b.word, b.port, b.acc]
  (sortBy lt due).foldl (fun y x =>
    match x.bad with
    | some r => y.refuse x r
    | none =>
      if rqOp x.word = 3 then y.watch x
      else if rqOp x.word = 8 ∨ rqOp x.word = 9 ∨ rqOp x.word = 0xA then y.barrier x
      else y) y

/-- Stage 1: combined arrivals of children, after those of own cores, in order of port (R157, R163); a refused one has
no response. -/
def Cyc.stageArrivals (y : Cyc) : Cyc :=
  let l := sortBy (fun (a b : Nat × Nat × Nat) => decide (a.1 < b.1)) y.s.bar.arrs
  let s := { y.s with bar := { y.s.bar with arrs := [] } }
  { y with s := s.each l (fun s a => (s.arrive (16 + a.2.1) a.2.2 true a.1).1) }

/-- A release applies in this cycle (R164). -/
def State.relDue (s : State) (r : Rel) : Bool := decide (r.due ≤ s.now) && r.seen != some s.beat.n

/-- Stage 1: releases due are applied (R164). -/
def Cyc.stageReleases (y : Cyc) : Cyc :=
  let s := y.s
  let due := s.bar.rels.filter s.relDue
  if due.isEmpty then y
  else
    let s := { s with bar := { s.bar with rels := s.bar.rels.filter (fun r => !s.relDue r) } }
    { y with rels := y.rels ++ due.map (fun r => (r.slot, r.round)), s := s.dlTouch }

/-! ### Stage 2: pairs (R139) -/

/-- Check one enabled pair. -/
def Cyc.pair (y : Cyc) (i : Nat) : Cyc :=
  let s := y.s
  let w := s.rn (pairCfg i)
  let p := (bitsOf w 20 8, bitsOf w 14 6)
  let c := (bitsOf w 6 8, bitsOf w 0 6)
  if (y.changed.contains p || y.changed.contains c) && !y.forced.contains p && !y.forced.contains c &&
      s.hasCounter p.1 p.2 && s.hasCounter c.1 c.2 then
    let pv := s.rn (counterA p.1 p.2)
    let cv := s.rn (counterA c.1 c.2)
    let above := decide ((pv : Int) - cv > s.rn (pairCfg i + 4))
    let under := decide (pv < cv)
    if above || under then
      let fresh := (List.range 8).all (fun w => s.r (0x150060 + 4 * w) == 0)
      let s := if fresh then
          (((s.setN FIRST_BREACH (2 ^ 31 + b2n under * 2 ^ 30 + i)).setN (FIRST_BREACH + 4) pv).setN
            (FIRST_BREACH + 8) cv).setN (FIRST_BREACH + 12) s.nsField
        else s
      let s := ((s.hit (breachF i)).raise CNT_CAUSE (if above then 1 else 2)).ev 0x12
      { y with s := s.setRpt (fun x => { x with breach := true }) }
    else y
  else y

/-- The enabled pairs, in ascending order. -/
def State.enabledPairs (s : State) : List Nat :=
  (s.listed 0x151000 0x151800).filterMap (fun p =>
    if p.1 % 8 = 0 ∧ bitOf p.2.toNat 31 then some ((p.1 - 0x151000) / 8) else none)

/-- Stage 2. -/
def Cyc.stagePairs (y : Cyc) : Cyc :=
  if y.changed.isEmpty then y else y.s.enabledPairs.foldl (fun y i => y.pair i) y

/-! ### Stage 3: conditions, completion and release -/

/-- The deadline of a watch has been reached. -/
def Watch.expired (w : Watch) (now : Nat) : Bool :=
  match w.deadline with
  | none => false
  | some d => decide (d ≤ now)

/-- Complete a watch: its slot becomes free and its response is decided (R143). -/
def Cyc.complete (y : Cyc) (w : Watch) (status value : Nat) (late forced sat : Bool) : Cyc :=
  let s := { y.s with cnt := { y.s.cnt with watches := y.s.cnt.watches.filter (fun v => v.ord != w.ord) } }
  let s := if late then (s.raise CNT_CAUSE 3).ev 0x11 else s
  ({ y with s := s.dlTouch }).dec ⟨w.core, 0, w.slot, w.ord, s.mkRsp w.core status w.tag value late forced sat⟩

/-- Complete a watch on a counter with MET or TIMEOUT. -/
def Cyc.completeCounter (y : Cyc) (w : Watch) (status : Nat) (late : Bool) : Cyc :=
  y.complete w status (y.s.rn (counterA w.cc w.ck)) late (y.s.bit (forcedF w.cc w.ck)) (y.s.bit (satF w.cc w.ck))

/-- Stage 3, watches: every active watch whose counter is at or above its target completes with MET (R134). -/
def Cyc.stageMet (y : Cyc) : Cyc :=
  (y.s.cnt.watches.filter (fun w => w.bar.isNone && decide (w.target ≤ y.s.rn (counterA w.cc w.ck)))).foldl
    (fun y w => { y with s := y.s.ev 0xF }.completeCounter w 0 (w.expired y.s.now)) y

/-- Every wait on a round of an entry completes with RELEASED (R164, R167). -/
def Cyc.releaseWaits (y : Cyc) (k r : Nat) : Cyc :=
  (y.s.cnt.watches.filter (fun w => w.bar == some (k, r))).foldl
    (fun y w => y.complete w 8 r (w.expired y.s.now) false false) { y with s := y.s.ev 0x19 }

/-- The entry advances its round (R158, R159). -/
def State.advanceRound (s : State) (k : Nat) : State :=
  let e := s.ent k
  let s := (((s.setF (barRound k) (s.f (barRound k) + 1)).setF (barCur k) (s.f (barNext k))).setF (barNext k) 0)
  let s := ((s.setF (barSent k) (s.f (barSentNext k))).setF (barSentNext k) 0).setF (barStalled k) 0
  let s := s.setEnt k
    { cores := e.coresN, ports := e.portsN }
  ((s.showPorts k).stallTimer k).dlTouch

/-- The ports set in CHILD_MAP of a slot; a die has none. -/
def State.childPorts (s : State) (h : Nat) : List Nat :=
  if s.part.isK then s.allPorts.filter (fun p => s.bit (childMap h p)) else []

/-- Completion of the open round at its completion point (R158, R164). An aligned release whose DUE is this very cycle is
applied at once. -/
def Cyc.completeRound (y : Cyc) (k : Nat) : Cyc :=
  let s := y.s
  let r := s.f (barRound k)
  if k < 16 then ({ y with s := s.advanceRound k }).releaseWaits k r
  else
    let h := k - 16
    let al := s.bit (barAligned k)
    let due := s.nowNs + s.f (releaseLead h)
    let m := barMsg 2 r al h (s.f NODE_ID) (if al then due else 0)
    let s := if s.quietTwin then s else s.sendAll (s.childPorts h ++ s.mirror) m
    let s := s.advanceRound k
    if al && s.f (releaseLead h) != 0 then
      { y with s := { s with bar := { s.bar with rels := s.bar.rels ++ [⟨due * 65536, h, r, true, none⟩] } } }
    else ({ y with s := s }).releaseWaits k r

/-- Combined arrivals of a slot below its scope node (R159). -/
def State.sendArrivals (s : State) (k : Nat) : State :=
  let h := k - 16
  let s := if s.f (barCur k) = s.f (barExpect k) ∧ ¬ s.bit (barSent k) then
      ((s.sendUp (barMsg 1 (s.f (barRound k)) false h (s.f NODE_ID) 0)).setB (barSent k) true).dlTouch
    else s
  if s.f (barNext k) = s.f (barExpect k) ∧ ¬ s.bit (barSentNext k) then
    ((s.sendUp (barMsg 1 (s.f (barRound k) + 1) false h (s.f NODE_ID) 0)).setB (barSentNext k) true).dlTouch
  else s

/-- The open round of an entry completes at this node: its completion point is here, and all have arrived (R158). -/
def State.roundDue (s : State) (k : Nat) : Bool :=
  (decide (k < 16) || s.bit (barScope k)) && s.f (barCur k) == s.f (barExpect k) && s.f (barExpect k) != 0

/-- Stage 3 of one enabled entry. -/
def Cyc.entry (y : Cyc) (k : Nat) : Cyc :=
  let s := y.s
  if s.bit (barEn k) then
    if s.roundDue k then y.completeRound k
    else if k < 16 ∨ s.bit (barScope k) then y
    else { y with s := s.sendArrivals k }
  else y

/-- The enabled entries, in ascending order. -/
def State.enabledEntries (s : State) : List Nat := (List.range 80).filter (fun k => s.bit (barEn k))

/-- A release applied in this cycle: below the scope node the entry advances; every wait on the round completes. -/
def Cyc.applyRelease (y : Cyc) (r : Nat × Nat) : Cyc :=
  let k := 16 + r.1
  if y.s.bit (barScope k) then y.releaseWaits k r.2
  else if y.s.f (barRound k) = r.2 then ({ y with s := y.s.advanceRound k }).releaseWaits k r.2
  else y

/-- The waits entered for the round before the open one complete with RELEASED (R161). -/
def Cyc.stagePast (y : Cyc) : Cyc :=
  (y.s.cnt.watches.filter (fun w => y.past.contains w.ord)).foldl
    (fun y w => y.complete w 8 ((w.bar.map (·.2)).getD 0) (w.expired y.s.now) false false) y

/-- Stage 3. -/
def Cyc.stageConditions (y : Cyc) : Cyc :=
  let y := y.stageMet.stagePast
  let y := y.s.enabledEntries.foldl (fun y k => y.entry k) y
  y.rels.foldl (fun y r => y.applyRelease r) y

/-! ### Stages 4 to 6 -/

/-- Stage 4: open watches and waits at their deadline (R134, R161). -/
def Cyc.stageTimeouts (y : Cyc) : Cyc :=
  (y.s.cnt.watches.filter (fun w => w.expired y.s.now)).foldl (fun y w =>
    match w.bar with
    | none => ({ y with s := (y.s.inc TIMEOUTS).ev 0x10 }).completeCounter w 1 false
    | some (_, r) => ({ y with s := y.s.inc BAR_TIMEOUTS }).complete w 9 r false false false) y

/-- The miss record of an entry (R168). -/
def State.fillMiss (s : State) (k : Nat) : State :=
  let e := s.ent k
  let hall := decide (16 ≤ k)
  let s := (s.setN MISS_INFO (b2n hall * 2 ^ 30 + (if hall then k - 16 else k) * 4 + s.f (barRound k))).hit (bitF MISS_INFO 31)
  let s := s.setN MISS_NS s.nsField
  let s := s.each (List.range 8) (fun s w => s.setN (missMap w) (mapWord e.cores w))
  if s.part.isK then
    let miss := if hall then (s.childPorts (k - 16)).filter (fun p => !e.ports.contains p) else []
    s.each [0, 1, 2] (fun s w => s.setN (missChild w) (mapWord miss w))
  else s

/-- The stall timer of an enabled entry has run for STALL_TIMEOUT, and its round is not yet marked (R168). -/
def State.stallDue (s : State) (k : Nat) : Bool :=
  s.bit (barEn k) && !s.bit (barStalled k) && s.rn (barStall k) != 0 &&
    match (s.ent k).stallAt with
    | none => false
    | some t => decide (t + s.rn (barStall k) * 65536 ≤ s.now)

/-- The stall timer of an entry expires (R168). -/
def State.stall (s : State) (k : Nat) : State :=
  let s := (((s.setB (barStalled k) true).inc STALLS).raise BAR_CAUSE 1).ev 0x1B
  if bitOf (s.rn MISS_INFO) 31 then s else s.fillMiss k

/-- Stage 4: the stall timers that expire (Table BRS-6). -/
def Cyc.stageStalls (y : Cyc) : Cyc :=
  (y.s.enabledEntries.filter (fun k => y.s.stallDue k)).foldl (fun y k => { y with s := y.s.stall k }) y

/-- The oldest active watch of a core with a tag: the first entered, and of those entered in one cycle the first by core
message port and acceptance (DESIGN CHOICE, log entry 131). -/
def State.oldestTag (s : State) (core tag : Nat) : Option Watch :=
  (sortBy (fun (a b : Watch) => decide (a.ord < b.ord)) (s.cnt.watches.filter (fun w => w.core == core && w.tag == tag))).head?

/-- Stage 5: the UNWATCHes due, in order of port (R145). -/
def Cyc.stageCancels (y : Cyc) : Cyc :=
  let due := y.s.cnt.pend.filter (fun x => x.isDue y.s.now && x.bad.isNone && rqOp x.word == 4)
  (sortBy (fun (a b : PendReq) => lexLt [a.port, a.acc] [b.port, b.acc]) due).foldl (fun y x =>
    match y.s.oldestTag (rqSrc x.word) (rqTag x.word) with
    | some w =>
      let on := fun (F : Fld) => w.bar.isNone && y.s.bit F
      y.complete w 5 0 false (on (forcedF w.cc w.ck)) (on (satF w.cc w.ck))
    | none => y.answer x 6 0) y

/-- Stage 6: READ and BREAD sample (R150, R160). -/
def Cyc.stageReads (y : Cyc) : Cyc :=
  (y.s.cnt.pend.filter (fun x => x.isDue y.s.now && x.bad.isNone)).foldl (fun y x =>
    let m := x.word
    let s := y.s
    if rqOp m = 2 then
      y.dec ⟨rqSrc m, 1, x.port, x.acc, s.mkRsp (rqSrc m) 2 (rqTag m) (s.rn (counterA (rqCore m) (rqCounter m))) false
        (s.bit (forcedF (rqCore m) (rqCounter m))) (s.bit (satF (rqCore m) (rqCounter m)))⟩
    else if rqOp m = 0xB then
      if s.barRefused m then y.refuse x 7
      else
        let k := rqEntry m
        y.dec ⟨rqSrc m, 1, x.port, x.acc, s.mkRsp (rqSrc m) 12 (rqTag m)
          (s.f (barRound k) * 2 ^ 24 + s.f (barNext k) * 2 ^ 12 + s.f (barCur k))⟩
    else y) y

/-! ### Presentation and the whole cycle -/

/-- Give the decided responses their time of presentation: 4 ns after the cycle, one cycle apart on one port (R135,
R147). -/
def State.schedule (s : State) (l : List Dec) : State :=
  (sortBy decLt l).foldl (fun s d =>
    let p := s.rspPort d.core
    let last := (s.cnt.rsps.filter (fun r => r.port == p)).foldl (fun n r => max n (r.at_ + 65536)) 0
    let t := s.now + 4 * 65536
    let s := if t < last then (s.inc NOTIFY_QUEUED).ev 0xE else s
    let x : Rsp := { port := p, at_ := max t last, word := d.word, acc := d.acc }
    ({ s with cnt := { s.cnt with rsps := s.cnt.rsps ++ [x] } }).dlTouch) s

/-- An ADD of the device itself to a counter reference of READY_SEL's layout, due at an instant; a reference that names
no counter is counted in BAD_REQ (R131). -/
def State.devAdd (s : State) (sel inc due : Nat) : State :=
  let c := bitsOf sel 8 8
  let k := bitsOf sel 0 6
  if s.hasCounter c k then
    { s with cnt := { s.cnt with adds := s.cnt.adds ++ [⟨due, c, k, inc, false, 0⟩] } }
  else s.badReq (if c < s.part.numCores then 2 else 1) 0 c k

/-! ### TASK_SWITCH (R151, R172) -/

/-- Clear the registers listed in an address range. -/
def State.clearRange (s : State) (lo hi : Nat) : State :=
  { s with regs := s.regs.filter (fun p => !(decide (lo ≤ p.1) && decide (p.1 < hi))) }

/-- Stage 0: a TASK_SWITCH takes effect. A CLEARED response carries neither SAT nor FORCED: the maps are cleared with it
(DESIGN CHOICE, log entry 133). -/
def Cyc.taskSwitch (y : Cyc) : Cyc :=
  let y := y.s.cnt.watches.foldl (fun y w => y.complete w 7 0 false false false) y
  let s := y.s
  let stray := s.cnt.hold.length + s.cnt.soon.length
  let s := if stray = 0 then s else (s.addN STRAY_ADD stray).evN 0xC 0 stray
  let s := ((s.clearRange 0x140000 0x150000).clearRange 0x150050 0x150080).setN BAD_REQ_INFO 0
  let s := if s.bar.rels.isEmpty then s else s.addN STRAY_BAR s.bar.rels.length
  let s := { s with cnt := { s.cnt with hold := [], soon := [], hwm := 0, dirty := false } }
  let s := { s with bar := { s.bar with ents := [], rels := [] } }
  let s := s.each (List.range 80) (fun s k => s.setN (barState k) 0)
  let s := (s.clearRange 0x168400 0x168800).clearRange 0x160040 0x160068
  let s := ((s.clearRange 0x160400 0x160500).clearRange 0x168800 0x16880C).setN DL_STATUS 0
  { y with s := s.dlTouch.raise CNT_CAUSE 11 }

/-! ### The cycle of the unit -/

/-- What the unit has resolved in this cycle. -/
def State.unitNow (s : State) : Option UnitRun := s.unit.filter (fun u => u.n == s.beat.n)

/-- The registers of the unit's blocks (CNT, WATCH, BARRIER). -/
def State.unitRegs (s : State) : Tbl Word := s.listed 0x140000 0x170000

/-- The state without what the unit has resolved in this cycle, and without what has come for it since: a register that
a command has changed since keeps that change. -/
def State.unitBack (s : State) (u : UnitRun) : State :=
  let at_ := fun (t : Tbl Word) (a : Nat) => tget (regReset s.part) t a
  let word := fun (a : Nat) =>
    if a = BAD_REQ_INFO ∧ s.r a ≠ at_ u.regs1 a then s.r a else at_ u.regs0 a + (s.r a - at_ u.regs1 a)
  let as := ((u.regs0 ++ u.regs1).map (·.1)).eraseDups
  let t := s.each as (fun t a => t.setR a (word a))
  let l := s.perf.infl
  { t with
    cnt := { u.cnt0 with
      rsps := s.cnt.rsps.take (s.cnt.rsps.length + u.cnt0.rsps.length - u.cnt1.rsps.length)
      armedAt := s.cnt.armedAt, ts := s.cnt.ts }
    bar := { u.bar0 with dlSince := s.bar.dlSince }
    perf := { s.perf with infl := l.take (l.length - u.ev1) ++ l.drop (l.length - u.ev0) }
    flt := { s.flt with rpt := { s.flt.rpt with breach := u.breach } } }

/-- What has come for the unit in this cycle since it resolved it last. -/
def State.unitLate (s now : State) (u : UnitRun) : State :=
  let c := now.cnt
  let b := u.cnt1
  { s with
    cnt := { s.cnt with
      pend := s.cnt.pend ++ c.pend.drop b.pend.length, adds := s.cnt.adds ++ c.adds.drop b.adds.length
      hold := s.cnt.hold ++ c.hold.drop b.hold.length, soon := s.cnt.soon ++ c.soon.drop b.soon.length
      forces := s.cnt.forces ++ c.forces.drop b.forces.length, hwm := c.hwm }
    bar := { s.bar with
      rels := s.bar.rels ++ now.bar.rels.drop u.bar1.rels.length, arrs := s.bar.arrs ++ now.bar.arrs } }

/-- The state from which the unit resolves this cycle: as it stands, or, where it has resolved it already, the state
before that with all that has come since (R134: the order of arrival has no effect). -/
def State.unitStart (s : State) (switch : Bool) : Cyc :=
  match s.unitNow with
  | none => let y : Cyc := { s := s }; if switch then y.taskSwitch else y
  | some u =>
    let y : Cyc := { s := s.unitBack u, told := u.forced }
    let y := if switch || u.switched then y.taskSwitch else y
    { y with s := y.s.unitLate s u }

/-- The messages that a run has put on the ports. -/
def State.putOn (s old : State) : List (Nat × Msg) :=
  s.ports.flatMap (fun x => (x.2.ctrl.drop (old.port x.1).ctrl.length).map (fun m => (x.1, m)))

/-- A run again sends no message that this cycle has sent already. -/
def State.sendOnce (s old : State) (sent : List (Nat × Msg)) : State :=
  if sent.isEmpty then s
  else
    s.each ((s.putOn old).map (·.1)).eraseDups (fun s p =>
      let n := (old.port p).ctrl.length
      let had := (sent.filter (fun x => x.1 == p)).map (·.2)
      s.modPort p (fun x => { x with ctrl := x.ctrl.take n ++ had.foldl (fun l m => l.erase m) (x.ctrl.drop n) }))

/-- One cycle of the counter unit (R134): everything due is resolved in the order of Tables CNT-1 and BRS-6, then the
leap comparisons follow. `switch` tells whether a TASK_SWITCH takes effect in this cycle, `force` whether the oldest
FORCE does. Where several commands of one cycle run it, each resolves the whole cycle (log entry 132). -/
def State.unitRun (s : State) (switch force : Bool) : State :=
  let was := s.unitNow
  let force := force || was.any (·.forced)
  let b := s.unitStart switch
  let y := ((((b.stageAdds force).stageEnter).stageArrivals).stageReleases).stagePairs
  let y := ((((y.stageConditions).stageTimeouts).stageStalls).stageCancels).stageReads
  let t := { y.s with cnt := { y.s.cnt with pend := y.s.cnt.pend.filter (fun x => !x.isDue y.s.now) } }.schedule y.decs
  let old := (was.map (·.sent)).getD []
  let t := t.sendOnce b.s old
  let u : UnitRun := match was with
    | none =>
      { n := s.beat.n, regs0 := s.unitRegs, regs1 := t.unitRegs, cnt0 := s.cnt, cnt1 := t.cnt, bar0 := s.bar, bar1 := t.bar
        ev0 := s.perf.infl.length, ev1 := t.perf.infl.length, sent := t.putOn b.s, switched := switch
        forced := !y.forced.isEmpty, breach := s.flt.rpt.breach }
    | some u =>
      let z := s.unitBack u
      { u with
        regs0 := z.unitRegs, regs1 := t.unitRegs, cnt0 := (z.unitLate s u).cnt, cnt1 := t.cnt, bar0 := (z.unitLate s u).bar
        bar1 := t.bar, ev0 := z.perf.infl.length, ev1 := t.perf.infl.length, sent := old ++ t.putOn b.s
        switched := switch || u.switched, forced := !y.forced.isEmpty }
  ({ t with unit := some u }).leapChecks.notePosts

/-- The cycle of the unit for an event of it. -/
def State.counterCycle (s : State) (force : Bool) : State := s.unitRun false force

end Sys2Proof.Machine
end

