-- ==== Sys2Proof/Machine/Leaps.lean ====
section
/-! DEFINITION. Leaps (R109 to R129): arming a run, the root's decision, the LEAP messages, orphans, commits and
software epochs. The firing of a leap is in Fire.lean. -/

namespace Sys2Proof.Machine

/-- LEAP_CAUSE bit 8: a LEAP message is discarded (R113). -/
def State.seqErr (s : State) : State := (s.raise LEAP_CAUSE 8).ev 5

/-- E, 2^-16 ns. -/
def State.launchAt (s : State) : Nat := tsScalar (s.r96 NEXT_LAUNCH)

/-- The node fires its pending launch now (R117, Table LEP-5): leaps are armed, GO is held, no gecko HALT has been
applied, and the reading is E or later. -/
def State.fireDue (s : State) : Bool := s.launchSure && s.reached s.launchAt

/-! ### Arming -/

/-- T(n0) of a START: LEAP_T0 + n0 LEAP_PERIOD, 2^-16 ns (R110; skips are 0). -/
def State.firstLaunch (s : State) (n0 : Nat) : Nat := tsScalar (s.r96 LEAP_T0) + n0 * s.r64 LEAP_PERIOD * 65536

/-- The leap parameters keep R23 and the range of LEAP_PERIOD. -/
def State.leapParamsOk (s : State) : Bool :=
  let p := s.r64 LEAP_PERIOD
  decide (10000 ≤ p) && decide (p ≤ 10000000000) && decide (s.dDown + leapMinLead ≤ s.f LEAP_LEAD) &&
    decide (s.f LEAP_LEAD + s.dDown ≤ s.f READY_GUARD) && decide (s.f READY_GUARD < p)

/-- A plan image counts as loaded (R110, R354). -/
def State.planLoaded (s : State) : Bool := s.bit PLAN_VALID && !s.bit LOAD_BUSY

/-- n0 of a START (R110). -/
def State.startStep (s : State) (resume : Bool) : Nat := if resume then (s.step + 1) % 2 ^ 64 else s.r64 START_STEP

/-- The conditions of R110. -/
def State.startOk (s : State) (resume : Bool) : Bool :=
  let n0 := s.startStep resume
  s.isRoot && (s.nst == .chorus || s.nst == .stopped) && s.planLoaded &&
    (if resume then s.nst == .stopped && s.bit STOP_ENTRY && !s.bit GECKO_HALT && !s.leap.planSinceStop
      else s.bit COMPLETE) &&
    decide (n0 < 2 ^ 63) && tsValid (s.r96 LEAP_T0) && s.leapParamsOk &&
    decide (s.now + (s.f READY_GUARD + 10000) * 65536 ≤ s.firstLaunch n0)

/-- LAST_COMMIT at a START of the root and of the hall twin (R111). -/
def State.startCommit (s : State) (n0 : Nat) (resume : Bool) : State :=
  if s.atHall && !resume then s.setR64 LAST_COMMIT (stepBefore n0) else s

/-- What a START clears (Tables LEP-9, LEP-12, LEP-13, FLT-11). -/
def State.startClear (s : State) : State :=
  let s := (((s.setB HALTED false).setB STOP_ENTRY false).setB FAIL_SEEN false).setF HALT_CAUSE 0
  let s := ((s.setN FAIL_INFO 0).setB GECKO_HALT false).setR64 SKIPS 0
  (s.setF SKIP_RUN 0).setN MIN_LEAD 0xFFFFFFFF

/-- Pins below 1,500 MHz are released in the arming cycle (R306). -/
def State.releaseLowPins (s : State) : State :=
  if s.part.isK then
    let low := fun (r : Nat) =>
      (s.bit (rgPinned r) && decide (s.f (rgFreq r) < 1500)) ||
        (match (s.region r).pin with | some p => decide (p.1 < 1500) || decide (s.f (rgFreq r) < 1500) | none => false)
    s.each (tileRegions.filter low)
      (fun s r => (s.unpin r).raise RGX_CAUSE 4)
  else s

/-- The enabled efts whose die is in CHORUS become active at a START with RESUME = 0 (R325); the comparison of one that
is active already begins anew at n0 (DEDUCED, log entry 143). -/
def State.eftActivate (s : State) (n0 : Nat) : State :=
  if s.part.isK then
    s.each (eftEntries.filter (fun e => s.bit (eftEn e) && !s.bit (bitF (eftStatus e) 4) &&
        (s.bit (bitF (eftStatus e) 5) || s.f ⟨detPort (s.f (eftPortF e)), 4, 4⟩ == 3))) (fun s e =>
      let x : Eft := { first := n0, closeStep := n0, closed := n0 }
      { s.setB (bitF (eftStatus e) 5) true with flt := { s.flt with efts := tset (fun _ => {}) s.flt.efts e x } })
  else s

/-- A node arms for step n0 with launch time E (R112), and votes READY(n0). A commit target that was reached while it was
STOPPED is acknowledged now, when its parent takes CACK again (R113, R122; DEDUCED, log entry 127). -/
def State.arm (s : State) (n0 e : Nat) (resume : Bool) : State :=
  let s := s.startClear
  let s := (s.setR64 STEP_COUNT (stepBefore n0)).setR96 NEXT_LAUNCH (tsOf e)
  let s := (s.setB LAUNCH_PEND true).setB GO_HELD false
  let c := s.f COMMIT_EVERY
  let s := if resume then s
    else ((s.setN READY_TARGET (s.rn READY_FIRST)).setN COMMIT_TARGET (s.rn COMMIT_FIRST)).setR64 PEND_COMMIT
      (ceilDiv n0 c * c)
  let l := s.leap
  let l := { l with
    n0 := n0, kids := s.kidPorts.filter (fun p => !s.fenced p), votes := [], upVoted := false, voteOff := false
    firstLeap := !resume, failSteps := [], rootLocal := false, relay := false, skipsInStep := 0 }
  let l := if resume then l else { l with combC := s.r64 PEND_COMMIT, ownCack := false, cacks := [], cackOff := false }
  let s := { s with
    leap := l, cnt := { s.cnt with armedAt := s.now }, clk := { s.clk with secBad := true }
    outs := { s.outs with fireAt := none }, pfx := { s.pfx with inStep := resume && s.pfx.inStep, slots := if resume then s.pfx.slots else [] } }
  let s := (((s.setB LEAPS_ARMED true).raise LEAP_CAUSE 2).enter .running).releaseLowPins
  let s := if (s.planEpochAt n0).isSome then s.holdVolts else s
  let s := if resume then s else s.eftActivate n0
  s.castVote.checkCommit false

/-- START, qualified by RESUME (R110, R111). -/
def State.tryStart (s : State) (resume : Bool) : State :=
  if s.startOk resume then
    let n0 := s.startStep resume
    let e := s.firstLaunch n0
    let s := s.startCommit n0 resume
    let s := s.sendDown (leapMsg kSTART_T (b2n resume) n0 (tsOf e))
    let s := s.sendDown (leapMsg kSTART_N 0 n0 n0)
    s.arm n0 e resume
  else s.raise LEAP_CAUSE 3

/-- A pending request at the root; refused elsewhere (R110). -/
def State.request (s : State) (F : Fld) : State := if s.isRoot then s.setB F true else s.raise LEAP_CAUSE 3

/-- A write of LEAP_CTRL, its bits in the order of R110. -/
def State.leapCtrlWrite (s : State) (v : Nat) : State :=
  let s := if bitOf v 0 then s.tryStart (bitOf v 4) else s
  let s := if bitOf v 2 then s.request HALT_PEND else s
  let s := if bitOf v 1 then s.request STOP_PEND else s
  if bitOf v 3 then s.setB STOP_PEND false else s

/-- START (R110). -/
def execStart (v : Word) (s : State) : Out := .next (s.inMain (fun s => s.leapCtrlWrite (forceBits v 1)))

/-- HALT_REQ (R114). -/
def execHaltReq (v : Word) (s : State) : Out := .next (s.inMain (fun s => s.leapCtrlWrite (forceBits v 4)))

/-- STOP_REQ (R114). -/
def execStopReq (v : Word) (s : State) : Out := .next (s.inMain (fun s => s.leapCtrlWrite (forceBits v 2)))

/-- CANCEL_STOP (R114). -/
def execCancelStop (v : Word) (s : State) : Out := .next (s.inMain (fun s => s.leapCtrlWrite (forceBits v 8)))

/-- The node takes no part in leaps: an orphan, FENCED or TADPOLE. -/
def State.outOfRun (s : State) : Bool := s.bit ORPHAN || s.nst == .fenced || s.inTadpole

/-- A downward message comes on the port that SEL_ACTIVE names (R113). -/
def State.fromAbove (s : State) (p : Nat) : Bool := s.selPort.contains p

/-- A pair START_T, START_N of one flit (R112, R152). -/
def State.startPair (s : State) (mt mn : Msg) : State :=
  let n0 := mBody mn % 2 ^ 64
  let resume := bitOf (mArg mt) 0
  let s := (s.sendDown mt).sendDown mn
  let s := s.startCommit n0 resume
  if (s.nst == .chorus || s.nst == .stopped) && s.planLoaded && (resume || !s.cnt.dirty) &&
      (!resume || (s.nst == .stopped && s.bit STOP_ENTRY && s.pendStep == n0)) then
    s.arm n0 (tsScalar (mBody mt)) resume
  else s.formFailAt 4 (n0 % 2 ^ 16) (s.f NODE_ID)

/-- A START_T, a START_N, or the pair of them, received on a port (R112, R113). -/
def State.startRx (s : State) (p : Nat) (mt mn : Option Msg) : State :=
  match mt with
  | none => if mn.isNone then s else s.seqErr
  | some a =>
    match mn with
    | none => s.seqErr
    | some b => if s.fromAbove p && !s.outOfRun && !s.isRoot then s.startPair a b else s.seqErr

/-! ### The decision (R114) -/

/-- May step m run: the combined vote is present and no commit is withheld (R21, R114). -/
def State.readyAll (s : State) : Bool := s.bit VOTE_OUT && s.kidsIn s.leap.votes

/-- The next GO is withheld for a commit: COMMIT_HELD. -/
def State.commitHeld (s : State) (m : Nat) : Bool :=
  m % s.f COMMIT_EVERY == 0 && decide (s.i64 LAST_COMMIT < (m : Int) - s.f COMMIT_EVERY)

/-- The cause for which the root sends HALT, if any, in the order of R114. -/
def State.haltCauseNow (s : State) (mayGo : Bool) : Option Nat :=
  if s.bit HALT_PEND then some 3
  else if s.bit FAIL_SEEN then some 2
  else if s.leap.rootLocal then some 4
  else if !mayGo && s.f SKIP_RUN == s.f SKIP_LIMIT then some 1
  else none

/-- The votes for the pending step have served. -/
def State.clearVotes (s : State) : State :=
  { s.setB VOTE_OUT false with leap := { s.leap with votes := [], upVoted := false } }

/-- GO for the pending step is in force: GO_HELD (R116). -/
def State.holdGo (s : State) : State := (s.setB GO_HELD true).clearVotes

/-- The root's own decision at D(m). Its own GO and SKIP do not arrive, so MIN_LEAD and LEAD_SHORT of the root do not
judge them (R115; DESIGN CHOICE, log entry 128). -/
def State.decide_ (s : State) : State :=
  let m := s.pendStep
  let mayGo := s.readyAll && !s.commitHeld m
  match s.haltCauseNow mayGo with
  | some c => s.issueHalt c
  | none =>
    if mayGo && s.bit STOP_PEND then
      let s := s.sendDown (leapMsg kSTOP 0 (m % 2 ^ 16) (tsOf s.decisionAt.toNat))
      ((s.setB HALT_PEND false).setB STOP_PEND false).enterStop
    else if mayGo then
      let s := s.sendDown (leapMsg kGO 0 (m % 2 ^ 16) (s.r96 NEXT_LAUNCH))
      (s.holdGo).setF SKIP_RUN 0
    else
      let t := tsOf (s.launchAt + s.r64 LEAP_PERIOD * 65536)
      let s := ((s.setR96 NEXT_LAUNCH t).setR64 SKIPS (s.r64 SKIPS + 1)).setF SKIP_RUN (s.f SKIP_RUN + 1)
      let s := (s.sendDown (leapMsg kSKIP 0 (m % 2 ^ 16) t)).raise LEAP_CAUSE 1
      s.ev 3

/-- DECISION_INSTANT (R114); with GO held and a gecko HALT applied the next one is a period later, since the leap does not
fire (R335). A hall twin that has taken over sends its HALT at the next one (R322). -/
def execDecisionInstant (s : State) : Out :=
  .next (if s.armed && s.decisionDue then
      if s.isRoot then (if s.bit GO_HELD && !s.leap.rootLocal then s else s.decide_)
      else if s.isTwin && s.bit TAKEN && s.level == 3 then s.issueHalt 2
      else s
    else s)

/-! ### Messages from above -/

/-- Set ORPHAN (R20, R116): the node fences itself (R319). -/
def State.setOrphan (s : State) : State :=
  let s := ((s.setB ORPHAN true).raise LEAP_CAUSE 6).log 7 0
  s.selfFence 2

/-- The orphan limit of the pending launch is reached without GO (R116). -/
def State.orphanDue (s : State) : Bool :=
  s.armed && s.bit LAUNCH_PEND && !s.bit GO_HELD && decide (s.launchAt ≤ s.now + leapMinLead * 65536)

/-- ORPHAN_LIMIT (R116). -/
def execOrphanLimit (s : State) : Out := .next (if s.orphanDue then s.setOrphan else s)

/-- A GO, SKIP, HALT or STOP from above: a node with a gecko HALT only forwards it (R335); else it is discarded by R113
and R116, or forwarded and acted on. -/
def State.downLeap (s : State) (p : Nat) (m : Msg) (act : State → State) : State :=
  if s.fromAbove p && s.leap.relay && !s.isRoot && !s.outOfRun then s.sendDown m
  else if s.orphanDue then s.setOrphan.seqErr
  else if s.fromAbove p && !s.isRoot && !s.outOfRun && s.armed && s.bit LAUNCH_PEND && mLo m == s.pendStep % 2 ^ 16 then
    act (s.sendDown m)
  else s.seqErr

/-- Judge the arrival of a GO or SKIP (R115): MIN_LEAD and LEAD_SHORT. -/
def State.judgeLead (s : State) : State :=
  let lead := (s.launchAt - s.now) / 65536
  let s := s.setN MIN_LEAD (min (s.rn MIN_LEAD) lead)
  if s.launchAt < s.now + s.f LEAP_LEAD * 65536 then s.raise LEAP_CAUSE 13 else s

/-- A GO for the pending step (R116). -/
def State.goRx (s : State) (m : Msg) : State := ((s.setR96 NEXT_LAUNCH (mBody m)).judgeLead).holdGo

/-- A SKIP for the pending step (R116). -/
def State.skipRx (s : State) (m : Msg) : State :=
  let s := (s.setR96 NEXT_LAUNCH (mBody m)).judgeLead
  let s := ((s.setR64 SKIPS (s.r64 SKIPS + 1)).setF SKIP_RUN (s.f SKIP_RUN + 1)).raise LEAP_CAUSE 1
  ({ s with leap := { s.leap with skipsInStep := s.leap.skipsInStep + 1 } }).ev 3

/-- A message is a LEAP message of one kind. -/
def isLeap (m : Msg) (k : Nat) : Bool := mType m == 2 && mKind m == k

/-! ### Messages from below -/

/-- An upward LEAP message is taken on a down port while leaps are armed, else discarded (R113); one from an eft is
only compared (R325). -/
def State.upLeap (s : State) (p : Nat) (ok : Bool) (act : State → State) : State :=
  if s.spare p then s
  else if s.use p == 1 && s.armed && !s.fenced p && ok then act s else s.seqErr

/-- READY (R120). -/
def State.readyRx (s : State) (p : Nat) (m : Msg) : State :=
  s.upLeap p (mLo m == s.pendStep % 2 ^ 16) (fun s =>
    let vs := if s.leap.votes.contains p then s.leap.votes else p :: s.leap.votes
    ({ s with leap := { s.leap with votes := vs } }).combineVote)

/-- FAIL (R120). -/
def State.failRx (s : State) (p : Nat) (m : Msg) : State :=
  let n := s.step % 2 ^ 16
  s.upLeap p (mLo m == (n + 2 ^ 16 - 1) % 2 ^ 16 || mLo m == n || mLo m == (n + 1) % 2 ^ 16)
    (fun s => s.sendFail (mArg m) (mLo m) (bitsOf m.toNat 76 20))

/-- CACK (R122). -/
def State.cackRx (s : State) (p : Nat) (m : Msg) : State :=
  s.upLeap p (mLo m == s.leap.combC % 2 ^ 16) (fun s =>
    let vs := if s.leap.cacks.contains p then s.leap.cacks else p :: s.leap.cacks
    ({ s with leap := { s.leap with cacks := vs } }).combineCack)

/-- A LEAP message on a port; START_T and START_N come through startRx (R113). -/
def State.leapRx (s : State) (p : Nat) (m : Msg) : State :=
  if mKind m = kGO then s.downLeap p m (fun s => (s.goRx m).setF SKIP_RUN 0)
  else if mKind m = kSKIP then s.downLeap p m (fun s => s.skipRx m)
  else if mKind m = kHALT then s.downLeap p m (fun s => s.enterHalt (mArg m))
  else if mKind m = kSTOP then s.downLeap p m (fun s => s.enterStop)
  else if mKind m = kREADY then s.readyRx p m
  else if mKind m = kFAIL then s.failRx p m
  else if mKind m = kCACK then s.cackRx p m
  else s.seqErr

/-! ### LAST_COMMIT and epochs -/

/-- CFG_LOCKED: a write is ignored because leaps are armed, or a load or spawn locks the register. -/
def State.cfgLocked (s : State) : State := s.raise LEAP_CAUSE 12

/-- LAST_COMMIT_WRITE (R123). -/
def execLastCommitWrite (v : StepNo) (s : State) : Out :=
  .next (s.unlocked (fun s => if s.armed then s.cfgLocked else s.setR64 LAST_COMMIT v.toNat))

/-- The conditions of R129 on an ARM of a profile. -/
def State.epochOk (s : State) (p : Nat) : Bool :=
  let t := s.r96 EPOCH_TIME
  tsValid t && decide (s.now + 10000 * 65536 ≤ tsScalar t) && bitOf (s.f PROF_DEFINED) p && s.leap.epoch.isNone

/-- Withdraw the software epoch. -/
def State.dropEpoch (s : State) : State := { s.setB EPOCH_PEND false with leap := { s.leap with epoch := none } }

/-- A write of EPOCH_CTRL (R128, R129): PROFILE, then ARM, then CANCEL (DESIGN CHOICE, log entry 5). A pending
epoch keeps the EPOCH_TIME and the profile of its ARM write (DESIGN CHOICE, log entry 129). -/
def State.epochCtrlWrite (s : State) (v : Nat) : State :=
  let s := s.setF EPOCH_PROF v
  let p := v % 16
  let s := if bitOf v 8 then
      if s.epochOk p then
        ({ s.setB EPOCH_PEND true with leap := { s.leap with epoch := some (tsScalar (s.r96 EPOCH_TIME), p) } }).holdVolts
      else s.raise LEAP_CAUSE 11
    else s
  if bitOf v 9 && s.leap.epoch.isSome then s.dropEpoch.holdVolts else s

/-- EPOCH_ARM (R129). -/
def execEpochArm (v : Word) (s : State) : Out := .next (s.unlocked (fun s => s.epochCtrlWrite (forceBits v 0x100)))

/-- EPOCH_CANCEL (R129). -/
def execEpochCancel (v : Word) (s : State) : Out := .next (s.unlocked (fun s => s.epochCtrlWrite (forceBits v 0x200)))

/-- SOFTWARE_EPOCH (R128); a plan epoch of the same cycle takes its place (R129). -/
def execSoftwareEpoch (s : State) : Out :=
  .next (match s.leap.epoch with
    | none => s
    | some (t, p) =>
      if ¬ s.reached t then s
      else if s.fireDue && (s.planEpochAt s.pendStep).isSome then s.dropEpoch.raise LEAP_CAUSE 11
      else ((s.dropEpoch).switchStrobe p t).raise LEAP_CAUSE 10)

end Sys2Proof.Machine
end

