-- ==== Sys2Proof/Machine/Transport.lean ====
section
/-! DEFINITION. Scheduled transport (R201 to R208): what leaves a transmit queue, the acceptance of DATA flits, their
due time and forwarding, and TASK_SWITCH. -/

namespace Sys2Proof.Machine

/-! ### Times of a port -/

/-- REV_PERIOD by WIDTH, ns (Table LNK-4). -/
def revPeriod (w : Nat) : Nat := match w with | 0 => 20928 | 1 => 10464 | _ => 5232

/-- Flit time by WIDTH, ps. -/
def flitPs (w : Nat) : Nat := match w with | 0 => 5100 | 1 => 2550 | _ => 1275

/-- Picoseconds in units of 2^-16 ns. -/
def psQ16 (n : Nat) : Nat := n * 65536 / 1000

/-- The hop contract of a port, ns (Table MDL-1). -/
def State.hopNs (s : State) (p : Nat) : Nat :=
  if ¬ s.part.isK then 500
  else
    let lo := if s.use p = 2 ∨ s.use p = 3 then s.level else s.level - 1
    match lo with | 0 => 500 | 1 => 1100 | _ => 1600

/-- The latest time, not after t, at which slot i of some revolution began, 2^-16 ns. -/
def State.slotBefore (s : State) (p i t : Nat) : Nat :=
  let rev := revPeriod (s.width (s.chanOf p)) * 65536
  let o := psQ16 (i * flitPs (s.width (s.chanOf p)))
  if t < o then 0 else (t - o) / rev * rev + o

/-- s of R204 for a flit that arrives now. -/
def State.slotBegan (s : State) (p i : Nat) : Nat := s.slotBefore p i s.now

/-! ### Sending -/

/-- A buffer entry of a receive queue is freed. -/
def State.freeRx (s : State) (p q : Nat) : State := s.setF (s.occNow p q) (s.f (s.occNow p q) - 1)

/-- The flit of number TX_SENT leaves: TX_SENT and the FREE counter advance (R203). -/
def State.txLeft (s : State) (p q : Nat) : State :=
  let s := (s.setN (s.qa p q 0x30) (s.txSent p q + 1)).ev 0x31 (s.qInst p q)
  let free := s.rn (s.qa p q 0x24)
  if bitOf free 31 then s.devAdd free 1 s.now else s

/-- PLEN as it is sent (Table TRN-1). -/
def plenSent (n : Nat) : Nat := if n = 0 ∨ 240 < n then 240 else n

/-- A ring entry as PLEN and payload. -/
def ringFlit (bs : List Byte) : Nat × List Byte := (plenSent (bs.getD 240 0).toNat, bs.take 240)

/-- FAIL with cause POISON for the running step, and the mark in the step report (R401, Table LEP-4). -/
def State.poisonFail (s : State) : State :=
  (s.setRpt (fun x => { x with poison := true })).formFail 2 (s.f NODE_ID)

/-- The next DATA flit of a queue in an S slot that begins now: PLEN and payload; none for IDLE (R202, R205). -/
def State.txData (s : State) (p q : Nat) : State × Option (Nat × List Byte) :=
  if ¬ s.armed then (s, none)
  else if s.txSrc p q = 1 then
    let i := s.txSent p q
    match s.postedAt p q i with
    | none => (s, none)
    | some t =>
      if t + 256 * 65536 ≤ s.now then
        let x := s.txq p q
        let s' := s.setTxq p q { x with buf := x.buf.filter (fun e => e.1 != i) }
        match x.buf.find? (fun e => e.1 == i) with
        | some (_, some bs) => (s'.txLeft p q, some (ringFlit bs))
        | some (_, none) => ((s'.setN (s.qa p q 0x30) (i + 1)).poisonFail, none)
        | none => (((s.inc TX_STARVE).raise Q_CAUSE 2).ev 0x34 (s.qInst p q), none)
      else (s, none)
  else if s.txSrc p q = 2 then
    match (s.txq p q).fwd with
    | [] => (s, none)
    | e :: t =>
      if e.due ≤ s.now then
        let s := s.setTxq p q { s.txq p q with fwd := t }
        ((s.freeRx e.port e.queue).txLeft p q, some (e.plen, e.data))
      else (s, none)
  else (s, none)

/-- In an S slot of a port with reduced traffic, a forwarded DATA flit that would leave is discarded (R199, R317). -/
def State.dropFwd (s : State) (p q : Nat) : State :=
  match (s.txq p q).fwd with
  | [] => s
  | e :: t =>
    if e.due ≤ s.now ∧ s.txSrc p q = 2 then
      ((s.setTxq p q { s.txq p q with fwd := t }).freeRx e.port e.queue).inc (s.pa p 0x6C)
    else s

/-! ### Receiving -/

/-- A DATA flit is discarded by R207. -/
def State.strayFlit (s : State) (p q : Nat) : State := ((s.inc STRAY_FLIT).raise Q_CAUSE 3).ev 0x35 (s.qInst p q)

/-- A ring entry as it is written (Table TRN-1). -/
def ringBytes (plen : Nat) (data : List Byte) : List Byte :=
  data.take 240 ++ [BitVec.ofNat 8 plen] ++ List.replicate 15 0

/-- A DATA flit whose slot began at `began` comes to its queue in order (R204 to R207). -/
def State.dataIn (s : State) (port q sq began plen : Nat) (data : List Byte) : State :=
  let p := s.chanOf port
  if !s.armed || s.rxDepth p q == 0 || s.rxKind p q == 0 then s.strayFlit p q
  else if s.rxDepth p q ≤ s.f (s.occNow p q) then
    ((s.inc QUEUE_OVER).raise Q_CAUSE 0).ev 0x32 (s.qInst p q)
  else
    let due := began + s.hopNs p * 65536
    let ahead := ((s.rxq p q).filter (fun e => !e.wrote)).length
    let e : RxEnt := { due := due, sq := sq, plen := plen, data := data, wrote := false, late := decide (due < s.now) }
    let n := s.f (s.occNow p q) + 1
    let s := (s.setF (s.occNow p q) n).setF (s.occHwm p q) (max n (s.f (s.occHwm p q)))
    let s := s.setRxq p q (s.rxq p q ++ [e])
    if s.part.isK ∨ s.rxKind p q ≠ 1 then s
    else
      let i := s.rn (s.qa p q 0x2C) + ahead
      s.bulkWrite (.rxRing q sq) (s.ringAddr (s.rxSel p q) (s.qa p q 8) (s.rn (s.qa p q 0xC)) i) (ringBytes plen data)

/-- The ring write of a flit completes: its buffer entry is freed and RXQ_DELIV advances (R205). -/
def State.delivered (s : State) (p q : Nat) : State :=
  ((s.freeRx p q).setN (s.qa p q 0x2C) (s.rn (s.qa p q 0x2C) + 1)).ev 0x30 (s.qInst p q)

/-- The arrival ADD of a queue in this cycle. -/
def State.arrivalAdd (s : State) (p q : Nat) : State :=
  let arr := s.rn (s.qa p q 0x10)
  if bitOf arr 31 then s.devAdd arr 1 s.now else s

/-- RX_LATE: a ring write completed after the due time. -/
def State.rxLate (s : State) (p q : Nat) : State :=
  (((s.inc RX_LATE).raise Q_CAUSE 1).ev 0x33 (s.qInst p q)).setRpt (fun x => { x with late := true })

/-- The order in which flits eligible for one queue leave (R205). -/
def fwdLt (a b : FwdEnt) : Bool := lexLt [a.due, a.port, a.sq] [b.due, b.port, b.sq]

/-- A flit becomes eligible for its transmit queue, or is discarded where its route leads to reduced traffic. -/
def State.forward (s : State) (p q : Nat) (e : RxEnt) : State :=
  let fp := s.fwdPort p q
  let fq := s.fwdQueue p q
  if s.reduced fp then (s.freeRx p q).inc (s.pa fp 0x6C)
  else
    let x := s.txq fp fq
    s.setTxq fp fq { x with fwd := insBy fwdLt ⟨e.due, p, e.sq, q, e.plen, e.data⟩ x.fwd }

/-- DATA_DUE (R205): the oldest flit of a queue whose due time has come. -/
def execDataDue (p : Nat) (q : Nat) (s : State) : Out :=
  let l := s.rxq p q
  let ready := fun (e : RxEnt) => decide (e.due ≤ s.now) && (s.part.isK || e.wrote || s.rxKind p q != 1)
  .next (match l.find? ready with
    | none => s
    | some e =>
      let s := s.setRxq p q (l.eraseP ready)
      if s.rxKind p q = 2 then s.forward p q e
      else if s.part.isK then
        let i := s.rn (s.qa p q 0x2C)
        let a := s.ringAddr (s.rxSel p q) (s.qa p q 8) (s.rn (s.qa p q 0xC)) i
        let s := s.writeSpace (s.rxSel p q) a (ringBytes e.plen e.data)
        let s := (s.delivered p q).arrivalAdd p q
        if e.late then s.rxLate p q else s
      else s.arrivalAdd p q)

/-- The response to a receive ring write of a die (R205, R401). -/
def State.ringWritten (s : State) (q sq : Nat) (err : Bool) : State :=
  let l := s.rxq 0 q
  let me := fun (e : RxEnt) => e.sq == sq && !e.wrote
  match l.find? me with
  | none => s
  | some e =>
    let s := s.delivered 0 q
    let s := if err then s.poisonFail else s
    if e.due < s.now then ((s.setRxq 0 q (l.eraseP me)).rxLate 0 q).arrivalAdd 0 q
    else s.setRxq 0 q (l.map (fun x => if me x then { x with wrote := true } else x))

/-! ### TASK_SWITCH -/

/-- A cycle begins in which a TASK_SWITCH written in the one before takes effect, in stage 0 (R151, R208). -/
def State.switchTask (s : State) : State :=
  if s.cnt.ts then ({ s with cnt := { s.cnt with ts := false } }).clearQueues.unitRun true false else s

/-- A write of CNT_CTRL (R151, R208). -/
def State.cntCtrlWrite (s : State) (v : Nat) : State :=
  if bitOf v 0 then (if s.armed then s.raise CNT_CAUSE 10 else { s with cnt := { s.cnt with ts := true } }) else s

/-- TASK_SWITCH (R151, R208). -/
def execTaskSwitch (v : Word) (s : State) : Out := .next (s.inMain (fun s => s.cntCtrlWrite (forceBits v 1)))

/-- RESPONSE_PRESENT (R147): the oldest response decided for a port whose time has come is presented. -/
def State.present (s : State) (port : Nat) : State × Option Rsp :=
  match s.cnt.rsps.find? (fun r => r.port == port && decide (r.at_ ≤ s.now)) with
  | none => (s, none)
  | some r =>
    let c := { s.cnt with rsps := s.cnt.rsps.eraseP (fun r => r.port == port && decide (r.at_ ≤ s.now)) }
    (({ s with cnt := c, outs := { s.outs with rspPort := port, rsp := r.word } }).dlTouch, some r)

end Sys2Proof.Machine
end

