-- ==== Sys2Proof/Machine/SpawnOps.lean ====
section
/-! DEFINITION. Spawn (R213 to R223): arming, the eggs a port sends, the check of received eggs, CONTROL records and
resumption. -/

namespace Sys2Proof.Machine

/-- The flow of a port. -/
def State.dir (s : State) (p : Nat) : EggDir := tget noDir s.spawn.dirs p

/-- Replace the flow of a port. -/
def State.setDir (s : State) (p : Nat) (d : EggDir) : State :=
  { s with spawn := { s.spawn with dirs := tset noDir s.spawn.dirs p d } }

/-- The port toward the parent of a spawn: the active up port, the uplink of a die, or the twin link of a twin. -/
def State.spawnUp (s : State) : List Nat :=
  if ¬ s.part.isK then [0] else if s.isTwin then s.twinPorts else s.upActive

/-- A port on which the node is the parent of a spawn: a down port, or the twin link of a node that is no twin. -/
def State.spawnDown (s : State) (p : Nat) : Bool := s.use p == 1 || (s.use p == 4 && !s.isTwin)

/-- Eggs in the image. -/
def State.eggs (s : State) : Nat := s.f EGG_COUNT

/-- The length of an egg (R213). -/
def State.eggLen (s : State) (e : Nat) : Nat := if e + 1 = s.eggs then s.rn LAST_LEN else 2 ^ 20

/-- The first address of the region at which egg e is stored: stack space in a Krasesta, the bulk port in a die (R215). -/
def State.eggAddr (s : State) (e : Nat) : Nat :=
  if s.part.isK then (s.f SPAWN_CACHE + e) * 2 ^ 20
  else (s.bulkBase (s.rn 0x190024) + s.rn 0x190028 * 256 + e * 2 ^ 20) % 2 ^ 52

/-- Insert into an ascending list without repeats. -/
def insNat (e : Nat) : List Nat → List Nat
  | [] => [e]
  | x :: t => if e < x then e :: x :: t else if e = x then x :: t else x :: insNat e t

/-- How many numbers from 0 an ascending list holds without a break. -/
def runFrom (n : Nat) : List Nat → Nat
  | [] => n
  | x :: t => if x = n then runFrom (n + 1) t else n

/-- HELD_ALL (Table TRN-7): DOWN_CUM is E − 1. -/
def State.heldAll (s : State) : Bool := s.f DOWN_CUM + 1 == s.eggs

/-- DOWN_CUM of the eggs held (R217), and what follows from a change of it. -/
def State.setCum (s : State) : State :=
  let n := runFrom 0 s.spawn.held
  let c := if n = 0 then 0xFFFFFF else n - 1
  let s := if n = s.eggs && !s.heldAll then s.raise Q_CAUSE 5 else s
  if c = s.f DOWN_CUM then s.spawnReport else ((s.setF DOWN_CUM c).recordsDue).spawnReport

/-- FAILED is set (R220, R401). -/
def State.spawnFail (s : State) : State := ((s.setB S_FAILED true).raise Q_CAUSE 8).spawnReport

/-- End the node's spawn activity and keep its eggs (R215). -/
def State.spawnDisarm (s : State) : State :=
  { (s.setB S_ARMED false).setB RESUMING false with
    spawn := { s.spawn with dirs := [], resend := false, srcEgg := none, src := [] } }

/-- The conditions of R215 on an ARM. -/
def State.spawnOk (s : State) : Bool :=
  (s.nst == .chorus || s.nst == .stopped) && !s.armed && !s.bit S_ARMED &&
    decide (1 ≤ s.eggs) && decide (1 ≤ s.rn LAST_LEN) && decide (s.rn LAST_LEN ≤ 2 ^ 20) &&
    decide (s.f SRC_FIRST + s.f SRC_COUNT ≤ s.eggs) && (!s.part.isK || s.f SRC_COUNT == 0) &&
    (!s.part.isK || decide (s.eggs ≤ s.f SPAWN_CACHE_SIZE))

/-- ARM (R215, R216, R223). -/
def State.spawnArm (s : State) : State :=
  if s.spawnOk then
    let id := s.f SPAWN_ID
    let same := id == s.spawn.heldId
    let src := (List.range (s.f SRC_COUNT)).map (· + s.f SRC_FIRST)
    let old := if same then s.spawn.held else []
    let x := { s.spawn with
      held := src.foldl (fun l e => insNat e l) old
      below := src.foldl (fun l e => insNat e l) (if same then s.spawn.below else [])
      heldId := id, bad := [], resend := same && !old.isEmpty, srcNext := s.f SRC_FIRST, srcEgg := none, src := [], dirs := [] }
    let s := { s with spawn := x }
    let s := (((s.setB COMPLETE false).setB S_FAILED false).setB RESUMING false).setB SRC_DONE false
    let s := (s.each s.allPorts (fun s p => if s.part.isK then s.setF (childCum p) 0xFFFFFF else s)).setF PARENT_CUM 0xFFFFFF
    let s := s.setF SUB_CUM 0xFFFFFF
    ((s.setB S_ARMED true).recordsDue).setCum
  else s.raise Q_CAUSE 9

/-- A write of SPAWN_CTRL: DISARM first, then ARM (R215). -/
def State.spawnCtrlWrite (s : State) (v : Nat) : State :=
  let s := if bitOf v 1 then s.spawnDisarm else s
  if bitOf v 0 then s.spawnArm else s

/-! ### Sending eggs (R214, R216, R218, R219) -/

/-- The sub-header of an EGG flit (Table TRN-2). -/
def eggHead (etype id e part : Nat) : List Byte :=
  beBytes 8 (etype % 4 * 2 ^ 62 + id % 2 ^ 16 * 2 ^ 46 + e % 2 ^ 24 * 2 ^ 22 + part % 2 ^ 13 * 2 ^ 9)

/-- Bytes of an egg that the node holds; none where a source die has not read them yet. -/
def State.eggBytes (s : State) (e ofs n : Nat) : Option (List Byte) :=
  if s.part.isK then some (s.readSpace 1 (s.eggAddr e + ofs) n)
  else if s.spawn.srcEgg = some e then (tgetMany (fun _ => none) s.spawn.src ofs n).mapM (fun b => b)
  else none

/-- The count of eggs begun is below LIMIT, a signed 16-bit difference (R218). -/
def EggDir.mayBegin (d : EggDir) : Bool := decide (signed 16 (d.begun + 2 ^ 16 - d.limit % 2 ^ 16) < 0)

/-- The next egg that a port may begin. -/
def State.eggNext (s : State) (p : Nat) : Option Nat :=
  let d := s.dir p
  if ¬ d.mayBegin then none
  else if s.spawnDown p then (if s.spawn.held.contains d.downNext then some d.downNext else none)
  else if s.isTwin then none
  else if s.spawn.resend then none
  else match d.upQ with
    | e :: _ => some e
    | [] =>
      if ¬ s.part.isK ∧ s.spawn.srcNext < s.f SRC_FIRST + s.f SRC_COUNT then some s.spawn.srcNext else none

/-- A port begins an egg: a source die reads it from its region. -/
def State.eggBegin (s : State) (p e : Nat) : State :=
  let d := s.dir p
  let down := s.spawnDown p
  let fromQ := !d.upQ.isEmpty && !down
  let d := { d with
    begun := (d.begun + 1) % 2 ^ 16, txEgg := some e, txPart := 0
    downNext := if down then e + 1 else d.downNext, upQ := if fromQ then d.upQ.drop 1 else d.upQ }
  let s := s.setDir p d
  if s.part.isK then s
  else
    let x := { s.spawn with srcEgg := some e, src := [], srcNext := if fromQ then s.spawn.srcNext else e + 1 }
    { s with spawn := x }.bulkRead (fun o => .eggRead e o) (s.eggAddr e) (s.eggLen e)

/-- The number of parts of an egg. -/
def State.eggParts (s : State) (e : Nat) : Nat := ceilDiv (s.eggLen e) 232

/-- The next flit of the egg in progress: PLEN and payload. -/
def State.eggFlit (s : State) (p e : Nat) : State × Option (Nat × List Byte) :=
  let d := s.dir p
  let len := s.eggLen e
  if d.txPart < s.eggParts e then
    let n := min 232 (len - 232 * d.txPart)
    match s.eggBytes e (232 * d.txPart) n with
    | none => (s, none)
    | some bs =>
      let s := s.onK (fun s => s.stackEv 0x60 (s.eggAddr e + 232 * d.txPart) n)
      (s.setDir p { d with txPart := d.txPart + 1 }, some (8 + n, eggHead 0 (s.f SPAWN_ID) e d.txPart ++ bs))
  else
    match s.eggBytes e 0 len with
    | none => (s, none)
    | some bs =>
      let s := s.setDir p { d with txEgg := none, txPart := 0 }
      let last := !s.part.isK && decide (e + 1 = s.f SRC_FIRST + s.f SRC_COUNT)
      let s := if last then s.setB SRC_DONE true else s
      (s, some (48, eggHead 1 (s.f SPAWN_ID) e 0 ++ beBytes 4 len ++ [0, 0, 0, 0] ++ sha256 bs))

/-- The CONTROL record of a port direction (Table TRN-3). -/
def State.controlRec (s : State) (p : Nat) : List Byte :=
  let d := s.dir p
  let sub := if s.spawnDown p then 0xFFFFFF else s.f SUB_CUM
  let body := b2n d.resume.isSome * 2 ^ 127 + d.resume.getD 0 % 2 ^ 24 * 2 ^ 96 + s.f DOWN_CUM * 2 ^ 64 + sub * 2 ^ 32 +
    (d.done + 3) % 2 ^ 16 * 2 ^ 16
  eggHead 2 (s.f SPAWN_ID) 0 0 ++ beBytes 16 body

/-- The next EGG flit of a port in a slot that may carry one (R214, R218): a CONTROL record that waits, then the egg in
progress, then a new one. -/
def State.eggOut (s : State) (p : Nat) : State × Option (Nat × List Byte) :=
  if s.armed || !s.bit S_ARMED || s.reduced p || s.use p == 0 then (s, none)
  else
    let d := s.dir p
    if d.ready then
      (s.setDir p { d with ready := false, due := false, resume := none, sentAt := s.now }, some (24, s.controlRec p))
    else match d.txEgg with
      | some e => s.eggFlit p e
      | none =>
        match s.eggNext p with
        | some e => (s.eggBegin p e).eggFlit p e
        | none => (s, none)

/-- CONTROL_RECORD_SEND (R218): a record is due when a field has changed or 100,000 ns after the last; it leaves, with
the fields as they are then, in the next slot that may carry an EGG flit. -/
def execControlRecordSend (port : Nat) (s : State) : Out :=
  let p := s.chanOf port
  let d := s.dir p
  .next (if s.bit S_ARMED && s.use p != 0 && !s.reduced p && (d.due || decide (d.sentAt + 100000 * 65536 ≤ s.now)) then
      s.setDir p { d with ready := true }
    else s)

/-! ### Receiving eggs (R216, R217, R220) -/

/-- Fields of an EGG flit. -/
def eggEtype (pl : List Byte) : Nat := bitsOf (beNat (pl.take 8)) 62 2
def eggId (pl : List Byte) : Nat := bitsOf (beNat (pl.take 8)) 46 16
def eggNum (pl : List Byte) : Nat := bitsOf (beNat (pl.take 8)) 22 24
def eggPart (pl : List Byte) : Nat := bitsOf (beNat (pl.take 8)) 9 13

/-- The armed spawn, or another one: an EGG flit of a wrong spawn is counted in STRAY_FLIT (R216). -/
def State.eggMine (s : State) (pl : List Byte) : Bool := s.bit S_ARMED && eggId pl == s.f SPAWN_ID

/-- An egg whose number is no egg of the image cannot pass (DEDUCED, log entry 18). -/
def State.eggInRange (s : State) (e : Nat) : Bool := decide (e < s.eggs)

/-- An EGG DATA part on a port (R217), of n bytes. -/
def State.eggPartRx (s : State) (p : Nat) (pl : List Byte) (plen : Nat) : State :=
  if ¬ s.eggMine pl then s.strayFlit p 0
  else
    let e := eggNum pl
    let k := eggPart pl
    let bs := (pl.take plen).drop 8
    let d := s.dir p
    let d' :=
      if k = 0 then { d with rxEgg := some e, rxParts := 1, rxBytes := bs, rxBad := false }
      else if d.rxEgg = some e ∧ d.rxParts = k then { d with rxParts := k + 1, rxBytes := d.rxBytes ++ bs }
      else { d with rxEgg := some e, rxBad := true }
    let s := s.setDir p d'
    if s.spawn.held.contains e || !s.eggInRange e then s
    else if s.part.isK then s.writeSpace 1 (s.eggAddr e + 232 * k) bs
    else s.bulkWrite .eggWrite (s.eggAddr e + 232 * k) bs

/-- The egg whose trailer has come passes R217. -/
def State.eggPasses (s : State) (d : EggDir) (e : Nat) (pl : List Byte) : Bool :=
  let len := beNat ((pl.drop 8).take 4)
  d.rxEgg == some e && !d.rxBad && s.eggInRange e && len == s.eggLen e && d.rxBytes.length == len &&
    sha256 d.rxBytes == (pl.drop 16).take 32

/-- An egg of a port is finished, held or discarded: LIMIT moves, unless a resumption has restarted the counts since the
egg came (R218). -/
def State.eggFinished (s : State) (p : Nat) (counts : Bool) : State :=
  if counts then s.setDir p { s.dir p with done := ((s.dir p).done + 1) % 2 ^ 16, due := true } else s

/-- The reception of an egg on a port ends: its buffer takes the next egg. -/
def State.eggEnd (s : State) (p : Nat) : State :=
  s.setDir p { s.dir p with rxEgg := none, rxParts := 0, rxBytes := [], rxBad := false }

/-- An egg that the node already holds is discarded (R217). -/
def State.eggDup (s : State) (p : Nat) (counts : Bool) : State := ((s.inc EGG_DUP).ev 0x92).eggFinished p counts

/-- An EGG TRAILER on a port (R217). -/
def State.eggTrailerRx (s : State) (p : Nat) (pl : List Byte) : State :=
  if ¬ s.eggMine pl then s.strayFlit p 0
  else
    let e := eggNum pl
    let d := s.dir p
    let s' := s.eggEnd p
    if s.spawn.held.contains e then s'.eggDup p true
    else s'.setDir p { s'.dir p with checks := d.checks ++ [(e, s.eggPasses d e pl, true)] }

/-- A verified egg becomes held: a Krasesta queues what came from below for its up port (R219). -/
def State.eggHeld (s : State) (p e : Nat) (counts : Bool) : State :=
  let s := (s.inc EGG_RX).ev 0x90
  let child := s.spawnDown p
  let s := { s with spawn := { s.spawn with
    held := insNat e s.spawn.held, below := if child then insNat e s.spawn.below else s.spawn.below } }
  let s := if child then s.each s.spawnUp (fun s u => s.setDir u { s.dir u with upQ := (s.dir u).upQ ++ [e] }) else s
  let s := if s.bit RESUMING && s.spawn.resFrom == e then s.setB RESUMING false else s
  (s.eggFinished p counts).setCum

/-- A failing egg is discarded; the node asks its parent again until the third failing copy (R220). -/
def State.eggFailed (s : State) (p e : Nat) (counts : Bool) : State :=
  let s := (((s.inc EGG_BAD).raise Q_CAUSE 4).ev 0x91).eggFinished p counts
  if s.spawnDown p then s.spawnFail
  else
    let s := { s with spawn := { s.spawn with bad := e :: s.spawn.bad } }
    if s.bit S_FAILED then s
    else if 3 ≤ s.spawn.bad.count e then s.spawnFail
    else s.spawnResume [p] e

/-- The check of one egg of a port ends (R217); one that has become held in the meantime is discarded as a duplicate
(DEDUCED, log entry 137). -/
def State.eggChecked (s : State) (p : Nat) (x : Nat × Bool × Bool) : State :=
  if s.spawn.held.contains x.1 then s.eggDup p x.2.2
  else if x.2.1 then s.eggHeld p x.1 x.2.2
  else s.eggFailed p x.1 x.2.2

/-- EGG_CHECK_DONE (R217): the checks in progress end, in order of port. -/
def execEggCheckDone (s : State) : Out :=
  .next (s.each s.allPorts (fun s p =>
    let l := (s.dir p).checks
    if l.isEmpty then s else (s.setDir p { s.dir p with checks := [] }).each l (fun s x => s.eggChecked p x)))

/-! ### CONTROL records (R218, R221 to R223) -/

/-- The 128-bit body of a CONTROL record. -/
def recBody (pl : List Byte) : Nat := beNat ((pl.drop 8).take 16)

/-- What the first record from the parent asks to be sent upward again (R223): the eggs held from below or injected, above
its DOWN_CUM. A source sends none of its eggs at or below it again, and has none left to send if there is no other
(DEDUCED, log entry 138). -/
def State.resendUp (s : State) (cum : Nat) : State :=
  let l := s.spawn.below.filter (fun (e : Nat) => decide (cumOrd cum < (e : Int)))
  let s := { s with spawn := { s.spawn with resend := false } }
  let s := s.each s.spawnUp (fun s u =>
    s.setDir u { s.dir u with upQ := l ++ (s.dir u).upQ.filter (fun e => !l.contains e) })
  if s.part.isK then s
  else
    let fin := s.f SRC_FIRST + s.f SRC_COUNT
    let s := { s with spawn := { s.spawn with srcNext := fin } }
    if s.f SRC_COUNT = 0 ∨ l.contains (fin - 1) then s else s.setB SRC_DONE true

/-- A child's RESUME is served (R222). -/
def State.serveResume (s : State) (p frm : Nat) : State :=
  let d := s.dir p
  let s := s.setDir p { d with
    begun := 0, done := 0, limit := 0, txEgg := none, txPart := 0, downNext := frm, due := true,
    checks := d.checks.map (fun x => (x.1, x.2.1, false)) }
  (s.raise Q_CAUSE 7).ev 0x93

/-- A CONTROL record on a port. On a down port of a twin whose partner is alive, one with RESUME_V makes it take over
(R321). -/
def State.controlRx (s : State) (p : Nat) (pl : List Byte) : State :=
  let b := recBody pl
  let resume := bitOf b 127
  let s := if resume && s.quietTwin && s.use p == 1 then s.takeover else s
  if ¬ s.bit S_ARMED then s
  else if eggId pl ≠ s.f SPAWN_ID then s.strayFlit p 0
  else
    let cum := bitsOf b 64 24
    let s := if resume && s.spawnDown p then s.serveResume p (bitsOf b 96 24) else s
    let s := s.setDir p { s.dir p with limit := bitsOf b 16 16 }
    if s.spawnUp.contains p then
      let s := s.setF PARENT_CUM cum
      if s.spawn.resend then s.resendUp cum else s
    else if s.use p = 1 ∧ ¬ s.fenced p ∧ (eftEntries.all (fun e => !(s.bit (eftEn e) && s.f (eftPortF e) == p))) then
      (s.setF (childCum p) (bitsOf b 32 24)).spawnReport
    else s

/-- An EGG flit on a port, by its ETYPE; ETYPE 3 is reserved and discarded. -/
def State.eggRx (s : State) (p : Nat) (pl : List Byte) (plen : Nat) : State :=
  match eggEtype pl with
  | 0 => s.eggPartRx p pl plen
  | 1 => s.eggTrailerRx p pl
  | 2 => s.controlRx p pl
  | _ => s

/-- SPAWN_ARM (R215). -/
def execSpawnArm (v : Word) (s : State) : Out := .next (s.inMain (fun s => s.spawnCtrlWrite (forceBits v 1)))

/-- SPAWN_DISARM (R215). -/
def execSpawnDisarm (v : Word) (s : State) : Out := .next (s.inMain (fun s => s.spawnCtrlWrite (forceBits v 2)))

/-- A port takes EGG flits: it exists and carries full traffic, and on a twin's down port a record with RESUME_V
(Table LNK-10); anything else is counted in FENCE_DROP (R199). -/
def State.eggGate (s : State) (port : Nat) (pl : List Byte) (act : State → Nat → State) : State :=
  let p := s.chanOf port
  if s.use p = 0 then s
  else if s.reduced p ∧ ¬ (s.quietTwin ∧ s.use p = 1 ∧ ¬ s.fencePort p ∧ eggEtype pl = 2 ∧ bitOf (recBody pl) 127) then
    s.inc (s.pa p 0x6C)
  else act s p

/-- EGG_PART (R217): its bytes are those up to the egg's length. -/
def execEggPart (p : Nat) (payload : List Byte) (s : State) : Out :=
  let n := min 232 (s.eggLen (eggNum payload) - 232 * eggPart payload)
  .next (if eggEtype payload = 0 then s.eggGate p payload (fun s p => s.eggPartRx p payload (8 + n)) else s)

/-- EGG_TRAILER (R217). -/
def execEggTrailer (p : Nat) (payload : List Byte) (s : State) : Out :=
  .next (if eggEtype payload = 1 then s.eggGate p payload (fun s p => s.eggTrailerRx p payload) else s)

/-- CONTROL_RECORD (R218). -/
def execControlRecord (p : Nat) (payload : List Byte) (s : State) : Out :=
  .next (if eggEtype payload = 2 then s.eggGate p payload (fun s p => s.controlRx p payload) else s)

end Sys2Proof.Machine
end

