-- ==== Sys2Proof/Machine/Link.lean ====
section
/-! DEFINITION. The step link (R180 to R200, R395): flits, the slot wheel and what a slot carries, training, LINK_DEAD,
and the SerDes handshakes of a die. -/

namespace Sys2Proof.Machine

/-! ### Flits (Table LNK-2) -/

/-- The fields of a flit. -/
structure Flit where
  typ : Nat
  slot : Nat
  sq : Nat
  akind : Nat
  asq : Nat
  queue : Nat
  plen : Nat
  otyp : Nat
  pad : Bool
  payload : List Byte
  cack : Nat
  cackV : Bool
  deriving DecidableEq, Repr

/-- n bytes: the list cut or filled with zeros. -/
def fitBytes (n : Nat) (bs : List Byte) : List Byte := (bs ++ List.replicate n 0).take n

/-- The 248 bytes of header and payload. -/
def Flit.body (x : Flit) : List Byte :=
  beBytes 8 (x.typ % 16 * 2 ^ 60 + x.slot % 4096 * 2 ^ 48 + x.sq % 4096 * 2 ^ 36 + x.akind % 4 * 2 ^ 34 +
    x.asq % 4096 * 2 ^ 22 + x.queue % 64 * 2 ^ 16 + x.plen % 256 * 2 ^ 8 + x.otyp % 16 * 2 ^ 4 + b2n x.pad * 8) ++
    fitBytes 240 x.payload

/-- The 256 bytes of a flit. -/
def Flit.bytes (x : Flit) : List Byte :=
  x.body ++ beBytes 8 ((crc32c x.body).toNat * 2 ^ 32 + x.cack % 4096 * 2 ^ 20 + b2n x.cackV * 2 ^ 19)

/-- The fields of 256 received bytes. -/
def readFlit (bs : List Byte) : Flit :=
  let h := beNat (bs.take 8)
  let t := beNat (bs.drop 248)
  { typ := bitsOf h 60 4, slot := bitsOf h 48 12, sq := bitsOf h 36 12, akind := bitsOf h 34 2, asq := bitsOf h 22 12
    queue := bitsOf h 16 6, plen := bitsOf h 8 8, otyp := bitsOf h 4 4, pad := bitOf h 3
    payload := (bs.drop 8).take 240, cack := bitsOf t 20 12, cackV := bitOf t 19 }

/-- The CRC of a received flit passes. -/
def crcOk (bs : List Byte) : Bool := beNat ((bs.drop 248).take 4) == (crc32c (bs.take 248)).toNat

/-- The identity record (Table LNK-9). -/
def State.identity (s : State) (p : Nat) : Nat :=
  let tad := s.inTadpole
  s.shownId * 2 ^ 108 + s.nst.code * 2 ^ 104 + b2n s.part.isK * 2 ^ 103 + p % 128 * 2 ^ 96 + s.width p * 2 ^ 94 +
    (if tad then 0 else s.rn STRUCT_CRC) * 2 ^ 32 + (if s.part.isK then 0xB1 else 2) * 2 ^ 16

/-- A message as the 16 bytes of a position (R186). -/
def msgBytes (m : Msg) : List Byte := beBytes 16 m.toNat

/-! ### Port places -/

/-- The lanes of a port within its group. -/
def State.laneList (s : State) (p : Nat) : List Nat :=
  (List.range (match s.width p with | 0 => 2 | 1 => 4 | _ => 8)).map (· + 2 * (p % 4))

/-- The base of the group registers of a port. -/
def grpBase (p : Nat) : Nat := 0x1000000 + p / 4 * 0x40000

/-- LANE_STATUS of a lane. -/
def State.laneReg (s : State) (p l : Nat) : Nat := (if s.part.isK then grpBase p else 0x180000) + 0x100 + 4 * l

/-- The mode of the port's group has the port (Table LNK-1), or it is the uplink of a die, and the main part has power and
is not held in reset: its inputs are ignored else (R411, R429). -/
def State.portExists (s : State) (p : Nat) : Bool :=
  s.mainOn && if s.part.isK then
    decide (p < 72) && (match s.rn (grpBase p) % 4 with
      | 0 => p % 4 == 0
      | 1 => p % 2 == 0
      | 2 => true
      | _ => false)
  else p == 0

/-- The transmitters run: the reference is there and nothing holds them (R64, R393, R411, R429). -/
def State.txOn (s : State) : Bool :=
  !s.outs.txHeld && s.mainOn && (!s.part.isK || s.bit ROOTPLL_LOCK)

/-- LANE_UP of the group, LANES_LOCKED and the LOCK bits of the lanes follow the training state. -/
def State.markLanes (s : State) (p : Nat) (locked up : Bool) : State :=
  let ls := s.laneList p
  let s := s.setF ⟨s.pa p 8, 16, 8⟩ (if locked then 2 ^ ls.length - 1 else 0)
  s.each ls (fun s l =>
    let s := s.setF (bitF (s.laneReg p l) 31) (b2n locked)
    if s.part.isK then s.setF (bitF (grpBase p + 4) l) (b2n up) else s)

/-- Set TSTATE. -/
def State.setT (s : State) (p t : Nat) : State :=
  (s.setF ⟨s.pa p 8, 0, 3⟩ t).modPort p (fun x => { x with trainAt := s.now })

/-- PHY_TXFFE[l] takes a setting, and PHY_TXFFE_TGL[l] toggles; while PHY_TXFFE_DONE[l] is awaited the one before it is
held (R395, R408). -/
def State.driveFfe (s : State) (l v : Nat) : State :=
  let o := s.outs
  if o.ffeWait.contains l then { s with outs := { o with ffeNext := tset (fun _ => none) o.ffeNext l (some v) } }
  else
    { s with outs := { o with
        txffe := tset (fun _ => 0) o.txffe l v, ffeWait := l :: o.ffeWait
        txffeTgl := if o.txffeTgl.contains l then o.txffeTgl.filter (· != l) else l :: o.txffeTgl } }

/-- Back to SIGNAL: the replay buffer, the queued replays and the receive state of the port go, and a new codeword begins;
messages not yet sent and open exchanges stay (R195). A die drives a new FFE setting on each lane, which the far end asks
for in training (R196, R395). -/
def State.toSignal (s : State) (p : Nat) : State :=
  let s := (s.setT p 1).setF (bitF (s.pa p 8) 8) 0
  let s := (s.modPort p (fun x => { x with
    replay := [], replayDue := [], idles := [], rxNext := none, cack := none, got := [], miss := [],
    failed := 0, reqs := [], held := [], cwBits := 0, cwValue := 0, txPos := 0, txPart := [],
    rxAt := none })).markLanes p false false
  if s.part.isK then s
  else s.each (s.laneList p) (fun s l => (s.driveFfe l (s.freeNat % 2 ^ 24)).took)

/-! ### Training (R196, R197) -/

/-- TRAIN_FAIL: the port returns to SIGNAL. -/
def State.trainFail (s : State) (p : Nat) : State := (s.inc (s.pa p 0x74)).toSignal p

/-- Flits begin: the wheel waits for the next revolution (R183). -/
def State.startFlits (s : State) (p : Nat) : State :=
  s.modPort p (fun x => { x with slot := 4096, padAt := s.now, lastGood := s.now })

/-- The port reaches UP. -/
def State.toUp (s : State) (p : Nat) : State :=
  let s := ((s.setT p 4).raise (s.pa p 0xC) 5).markLanes p true true
  let k := (s.nowNs + 5000) / 10000
  (s.modPort p (fun x => { x with
    lastGood := s.now, newCroak := false, checkK := k,
    exch := { x.exch with heard := s.beat.n } })).advance

/-- The identity check of R197, against what the channel of a port expects. -/
def State.idPasses (s : State) (p rec_ : Nat) : Bool :=
  let c := s.chanOf p
  bitsOf rec_ 108 20 == s.expectedId c && bitsOf rec_ 94 2 == s.width c && bitsOf rec_ 104 4 != 0 &&
    bitsOf rec_ 108 20 != 0xFFFFF

/-- PEER_ID as held. -/
def State.peerId (s : State) (p : Nat) : Nat := s.r64 (s.pa p 0x20) + 2 ^ 64 * s.r64 (s.pa p 0x28)

/-- An identity record in FLIT state (R197); a node in TADPOLE stays in FLIT. -/
def State.flitId (s : State) (p rec_ : Nat) : State :=
  let ok := s.idPasses p rec_ && !s.inTadpole
  let diff := s.peerId p != rec_
  let s := (s.setR64 (s.pa p 0x20) rec_).setR64 (s.pa p 0x28) (rec_ / 2 ^ 64)
  if ok then (s.setF (bitF (s.pa p 8) 8) 1).toUp p
  else if diff && !s.idPasses p rec_ then s.raise (s.pa p 0xC) 7 else s

/-- Every lane of a die's uplink has been locked for 1 µs, and no FFE setting is awaited (R395). -/
def State.lanesReady (s : State) (p : Nat) : Bool :=
  s.part.isK || (s.outs.ffeWait.isEmpty && (s.laneList p).all (fun l =>
    s.rxLock.any (fun x => x.1 == l && decide (x.2 + 1000 ≤ s.beat.n))))

/-- Lane order and polarity, which training finds: which lane of the far end's port arrives on each lane, no two on one,
and whether it arrives inverted; values that the cable decides (R175, Table LNK-17). -/
def State.findLanes (s : State) (p : Nat) : State :=
  let n := (s.laneList p).length
  let base := n * (s.freeNat % 8)
  ((s.laneList p).foldl (fun (x : State × List Nat) l =>
    let far := x.2.getD (x.1.freeNat % x.2.length) 0
    ((x.1.setF ⟨x.1.laneReg p l, 27, 4⟩ ((base + far) % 8 + x.1.freeNat / 8 % 2 * 8)).took, x.2.filter (· != far)))
    (s.took, List.range n)).1

/-- TRAINING_STATE_DONE (R196). -/
def execTrainingStateDone (p : Nat) (s : State) : Out :=
  .next (if s.portExists p && s.txOn then
      match s.tstate p with
      | 0 => s.toSignal p
      | 1 => if s.lanesReady p then (s.findLanes p).setT p 2 else s
      | 2 => ((s.setT p 3).markLanes p true false).startFlits p
      | 3 => if s.bit (bitF (s.pa p 8) 8) then s.toUp p else s
      | _ => s
    else s)

/-- The bound of a training state, ns (Table LNK-8); in FLIT it holds until flit framing. -/
def State.trainBound (s : State) (p : Nat) : Option Nat :=
  match s.tstate p with
  | 1 => some 40000000
  | 2 => some 5000000
  | 3 => if (s.port p).rxNext.isNone then some 5000000 else none
  | _ => none

/-- TRAINING_TIMEOUT (R196). -/
def execTrainingTimeout (p : Nat) (s : State) : Out :=
  .next (match s.trainBound p with
    | none => s
    | some b => if (s.port p).trainAt + b * 65536 ≤ s.now then s.trainFail p else s)

/-- A write of LINK_CTRL (R196, Table LNK-13). -/
def State.linkCtrlWrite (s : State) (p v : Nat) : State :=
  if bitOf v 0 then
    if s.armed then s.raise (s.pa p 0xC) 8 else if s.tstate p = 0 then s else s.toSignal p
  else s

/-- RETRAIN (R196). -/
def execRetrain (p : Nat) (v : Word) (s : State) : Out :=
  .next (s.inMain (fun s => if s.portExists p then s.linkCtrlWrite p (forceBits v 1) else s))

/-! ### LINK_DEAD (R195) -/

/-- The ports of the channel of a port: both groups of a ganged pair (R178). -/
def State.channel (s : State) (p : Nat) : List Nat :=
  let c := s.chanOf p
  if s.part.isK ∧ c + 4 < 72 ∧ s.gangedUpper (c + 4) then [c, c + 4] else [c]

/-- A port in UP declares LINK_DEAD; its detector declares the peer dead (R195, R314). -/
def State.linkDie (s : State) (p cause : Nat) : State :=
  if s.portUp p then
    let s := s.each (s.channel p) (fun s q =>
      (((s.setF ⟨s.pa q 8, 12, 4⟩ cause).inc (s.pa q 0x70)).raise (s.pa q 0xC) 6).toSignal q)
    if s.looped then s else s.declareDead (s.chanOf p) 2
  else s

/-- The oldest flit of the replay buffer has not been acknowledged within 1,024 SEQ. -/
def State.replayFull (s : State) (p : Nat) : Bool :=
  match (s.port p).replay with
  | [] => false
  | (q, _) :: _ => decide (1024 ≤ ((s.port p).txSeq + 4096 - q) % 4096)

/-- LINK_DEAD (R195): cause 3, loss of framing, comes from the line; the others hold in the state. In CODEWORD and FLIT
a loss of framing is a training failure (R197). -/
def execLinkDead (p : Nat) (cause : Nat) (s : State) : Out :=
  let x := s.port p
  let holds := match cause with
    | 1 => x.miss.any (fun m => decide (4 ≤ m.fails))
    | 2 => decide (x.lastGood + 1000 * 65536 ≤ s.now)
    | 3 => true
    | 4 => s.replayFull p
    | _ => false
  .next (if s.portExists p && holds then
      if s.portUp p then s.linkDie p cause
      else if cause = 3 ∧ (s.tstate p = 2 ∨ s.tstate p = 3) then s.trainFail p
      else s
    else s)

/-! ### Replay requests (R191, R194) -/

/-- A flit of a port is late: counted once (R194). -/
def State.lateFlit (s : State) (p : Nat) : State :=
  (((s.inc (s.pa p 0x5C)).raise (s.pa p 0xC) 4).ev 0x26 p).setRpt (fun x => { x with late := true })

/-- REPLAY_TIMEOUT (R191, R194, R195): a request without answer is a further failure of the flit. -/
def execReplayTimeout (p : Nat) (sq : Nat) (s : State) : Out :=
  let tmo := s.rn (s.pa p 0x1C) * 65536
  let me := fun (m : Miss) => m.sq == sq && decide (m.at_ + tmo ≤ s.now) && !(s.port p).reqs.contains m.sq
  .next (if s.portUp p then
      match (s.port p).miss.find? me with
      | none => s
      | some m =>
        let s := s.modPort p (fun x => { x with
          miss := x.miss.map (fun y => if y.sq = sq then { y with fails := y.fails + 1, at_ := s.now } else y)
          reqs := x.reqs ++ [sq] })
        let s := if m.fails = 1 then s.lateFlit p else s
        if 3 ≤ m.fails then s.linkDie p 1 else s
    else s)

/-! ### What a slot carries (R183 to R188) -/

/-- What goes into a flit; in a REPLAY the SEQ, SLOT and PAD of the original, on an eft port the SLOT of the flit that is
copied. -/
structure Pick where
  typ : Nat
  otyp : Nat := 0
  queue : Nat := 0
  plen : Nat := 0
  payload : List Byte := []
  sq : Option Nat := none
  slot : Option Nat := none
  pad : Option Bool := none

/-- The order of control classes (R186): TIME, LEAP, CROAK, SYNC. -/
def ctrlClass (m : Msg) : Nat := match mType m with | 1 => 0 | 2 => 1 | 4 => 2 | _ => 3

/-- The pair START_T, START_N stays in one flit: a START_T in the last position waits. -/
def cutPair (l : List (Msg × Bool)) : Nat :=
  match l[14]? with
  | some (m, _) => if mType m = 2 ∧ mKind m = kSTART_T then 14 else 15
  | none => 15

/-- Codeword time of a port, 2^-16 ns (R179). -/
def cwTime (w : Nat) : Nat := psQ16 (match w with | 0 => 12800 | 1 => 6400 | _ => 3200)

/-- floor(b / 2) symbol times of 9.412 ps, 2^-16 ns (R396). -/
def symTime (b : Nat) : Nat := b / 2 * 9412 * 65536 / 1000000

/-- The instant at which the codeword of a flit that leaves now began, which the bits sent since then tell. -/
def State.cwBegan (s : State) (c : Nat) : Nat := s.now - (s.port c).cwBits * cwTime (s.width c) / 5140

/-- The edge of PHY_TX_CLK that transfers the word with the codeword's first bit: the symbols before that bit, at
106.25 GBd, go before it. -/
def State.txWordEdge (s : State) (c : Nat) : Nat := s.cwBegan c - (s.port c).txPos / 2 * 65536 * 100 / 10625

/-- The transmit mark of a flit that leaves now: the boundary at which its codeword began. A CTSU stamps the edge of the
word that holds it, and adds the symbol times before it and PHY_TX_LAT (R72, R396). -/
def State.txMark (s : State) (p : Nat) : Nat :=
  let c := s.chanOf p
  if s.part.isK then s.cwBegan c else s.txWordEdge c + symTime (s.port c).txPos + s.rn (s.pa p 0x14) * 65536 / 1000

/-- A TIME message as it leaves: its flags, and the transmit mark in SYNC and REQ (R73, R77); the child records t3. -/
def State.sendTime (s : State) (p : Nat) (m : Msg) : State × Msg :=
  if mType m ≠ 1 then (s, m)
  else
    let t := s.txMark p
    let s := if s.part.isK then s else s.tdcEdge 0x13 (q16ToTdc t)
    match mTimeKind m with
    | 0 => (s, timeMsg 0 s.timeFlags (mLo m) (tsOf t))
    | 1 =>
      let s := s.modExch p (fun e => { e with opens := e.opens.map (fun x => if x.sq = mLo m then { x with t3 := some t } else x) })
      (s, timeMsg 1 0 (mLo m) (tsOf t))
    | k => (s, timeMsg k s.timeFlags (mLo m) (mBody m))

/-- TIME messages as they leave, in order. -/
def State.sendTimes (s : State) (p : Nat) : List Msg → State × List Msg
  | [] => (s, [])
  | m :: t =>
    let a := s.sendTime p m
    let b := a.1.sendTimes p t
    (b.1, a.2 :: b.2)

/-- A control flit of these messages. -/
def ctrlPick (l : List Msg) : Pick :=
  { typ := match l with
      | m :: _ => mType m
      | [] => 0
    plen := 16 * l.length, payload := l.flatMap msgBytes }

/-- Take the first 15 of the messages that wait for a control flit of a port, each with whether it has been deferred
before; those beyond wait for the next and are counted once (R186, R188). A SYNC message that leaves an up port breaks the
deadlock window (R170). -/
def State.fillCtrl (s : State) (p : Nat) (pool : List (Msg × Bool)) : State × Option Pick :=
  let pool := sortBy (fun (a b : Msg × Bool) => decide (ctrlClass a.1 < ctrlClass b.1)) pool
  let n := cutPair pool
  let left := pool.drop n
  let out := (pool.take n).map (·.1)
  let new := (left.filter (fun a => !a.2)).length
  let s := s.modPort p (fun x => { x with ctrl := [], deferred := left.map (·.1) })
  let s := if new = 0 then s else ((s.addN (s.pa p 0x68) new).raise (s.pa p 0xC) 2).evN 0x27 p new
  let s := if out.any (fun m => mType m == 3) && (s.upActive ++ s.upStandby).contains p then s.dlTouch else s
  let r := s.sendTimes p out
  (r.1, if out.isEmpty then none else some (ctrlPick r.2))

/-- A control flit, if any message waits on the channel that its traffic allows now (R186, R199). -/
def State.pickCtrl (s : State) (p : Nat) : State × Option Pick :=
  let c := s.chanOf p
  let x := s.port c
  let pool := x.deferred.map (fun m => (m, true)) ++ x.ctrl.map (fun m => (m, false))
  if pool.isEmpty then (s, none) else s.fillCtrl c (pool.filter (fun a => s.maySend c a.1))

/-- The oldest requested replay whose request was checked at least one flit time ago (R192). -/
def State.pickReplay (s : State) (p : Nat) : State × Option Pick :=
  let x := s.port p
  let old := fun (r : Nat × Nat) => decide (r.2 + psQ16 (flitPs (s.width p)) ≤ s.now)
  let age := fun (r : Nat × Nat) => (x.txSeq + 4096 - r.1) % 4096
  match sortBy (fun a b => decide (age b < age a)) (x.replayDue.filter old) with
  | [] => (s, none)
  | r :: _ =>
    let s := (s.modPort p (fun x => { x with replayDue := x.replayDue.filter (fun y => y.1 != r.1) })).inc (s.pa p 0x58)
    let s := s.ev 0x25 p
    match x.replay.find? (fun y => y.1 == r.1) with
    | none =>
      let o := ((x.idles.find? (fun y => y.1 == r.1)).map (·.2)).getD (0, false)
      (s, some { typ := 8, sq := some r.1, slot := some o.1, pad := some o.2 })
    | some (_, bs) =>
      let f := readFlit bs
      let k : Pick := { typ := 8, sq := some r.1, slot := some f.slot, pad := some f.pad }
      (s, some (if f.pad then k else { k with otyp := f.typ, queue := f.queue, plen := f.plen, payload := f.payload }))

/-- A fault notice is of kind FENCE. -/
def isFenceNotice (n : List Byte) : Bool := bitsOf (beNat (n.take 16)) 116 4 == 1

/-- The fault notices that may leave a port now: on a fenced port its fence notice alone, and none from a node in FENCED or
on another port with reduced traffic (R199, R317, R319). -/
def State.noticesOut (s : State) (p : Nat) : List (List Byte) :=
  let l := (s.port p).notices
  if s.nst == .fenced then []
  else if s.fenced p then l.filter isFenceNotice
  else if s.reduced p then []
  else l

/-- An F slot: a fault notice, then MGMT data, then an EGG flit (Table LNK-5, R214, R317). -/
def State.pickF (s : State) (p : Nat) : State × Option Pick :=
  let x := s.port p
  match s.noticesOut p with
  | n :: _ => (s.modPort p (fun x => { x with notices := x.notices.erase n }), some { typ := 7, plen := 16, payload := n })
  | [] =>
    match (if s.reduced p then [] else x.mgmt) with
    | m :: t => (s.modPort p (fun x => { x with mgmt := t }), some { typ := 7, plen := m.length, payload := m })
    | [] =>
      let e := s.eggOut p
      (e.1, e.2.map (fun y => { typ := 6, plen := y.1, payload := y.2 }))

/-- An S slot of queue q: DATA, or an EGG flit while leaps are not armed (R184, R214). -/
def State.pickS (s : State) (p q : Nat) : State × Option Pick :=
  if s.reduced p then (s.dropFwd p q, none)
  else if s.armed then
    let d := s.txData p q
    (d.1, d.2.map (fun y => { typ := 5, queue := q, plen := y.1, payload := y.2 }))
  else
    let e := s.eggOut p
    (e.1, e.2.map (fun y => { typ := 6, plen := y.1, payload := y.2 }))

/-- The messages of a control flit's payload. -/
def flitMsgs (pl : List Byte) : List Msg := (List.range 15).map (fun j => BitVec.ofNat 128 (beNat ((pl.drop (16 * j)).take 16)))

/-- The active eft entry that has port p as its eft port. -/
def State.eftOn (s : State) (p : Nat) : Option Nat :=
  if s.part.isK then
    eftEntries.find? (fun e => s.bit (eftEn e) && s.bit (bitF (eftStatus e) 5) && s.f (eftPortF e) == p)
  else none

/-- A slot of an active eft port copies the flit of the shadowed port; in a slot that may carry control its own TIME and
CROAK messages take the place of those copied (R325, Table LNK-3). While leaps are not armed the port serves spawn for
itself (R325; log entry 143). -/
def State.pickEft (s : State) (p e : Nat) (ctl : Bool) : State × Option Pick :=
  let f := readFlit (s.port (s.f (eftShadowF e))).lastTx
  let c := f.typ == 1 || f.typ == 2 || f.typ == 3 || f.typ == 4
  let at_ := fun (r : State × Option Pick) => (r.1, r.2.map (fun k => { k with slot := some f.slot }))
  if c || (f.typ == 0 && ctl) then
    let x := s.port p
    let mine := fun (m : Msg) => mType m == 1 || mType m == 4
    let copied := if c then (flitMsgs f.payload).filter (fun m => mType m == 2 || mType m == 3) else []
    let pool := x.deferred.map (fun m => (m, true)) ++ ((x.ctrl.filter mine) ++ copied).map (fun m => (m, false))
    if pool.isEmpty then (s, none) else at_ (s.fillCtrl p pool)
  else if f.typ == 5 || f.typ == 7 || (f.typ == 6 && s.armed) then
    at_ (s, some { typ := f.typ, queue := f.queue, plen := f.plen, payload := f.payload })
  else if s.armed || ctl then (s, none)
  else
    let e := s.eggOut p
    (e.1, e.2.map (fun y => { typ := 6, plen := y.1, payload := y.2 }))

/-- The wheel entry of a slot in force: on an active eft port that of the shadowed port (R325). -/
def State.wheelAt (s : State) (p i : Nat) : Nat :=
  let c := match s.eftOn p with
    | some e => s.f (eftShadowF e)
    | none => s.chanOf p
  (tget wheelDefault (s.port c).wheelUse i).toNat

/-- What the flit carries: class 0 S, 1 T, 2 P, 3 F; `none` is a pad. In FLIT state and in TADPOLE it is IDLE. -/
def State.pick (s : State) (p : Nat) (cls : Option Nat) (q : Nat) : State × Option Pick :=
  if !s.portUp p || s.inTadpole then (s, none)
  else
    let cs := s.chanOf p
    let eft := s.eftOn p
    match cls with
    | some 2 =>
      let r := s.pickReplay p
      if r.2.isSome then r
      else match eft with
        | some e => s.pickEft p e true
        | none => s.pickCtrl p
    | _ =>
      match eft with
      | some e => s.pickEft p e (cls == none || cls == some 1)
      | none =>
        match cls with
        | some 0 => s.pickS cs q
        | some 3 => s.pickF cs
        | _ => s.pickCtrl p

/-- The position of the next flit: none for a pad, else the slot; a new revolution begins at its boundary (R183). -/
def State.nextSlot (s : State) (p : Nat) : State × Option Nat :=
  let x := s.port p
  let w := s.width (s.chanOf p)
  let rev := revPeriod w * 65536
  if x.slot < 4096 then (s, some x.slot)
  else
    let padAt := min x.padAt s.now
    let b := s.now / rev * rev
    if padAt + psQ16 (flitPs w) ≤ b then
      let s := s.modPort p (fun x => { x with rev := s.now / rev, wheelUse := x.wheel, slot := 0 })
      (s, some 0)
    else (s.modPort p (fun x => { x with padAt := padAt }), none)

/-- The next replay request of the port enters the header (R191). -/
def State.nextReq (s : State) (p : Nat) : State × Option Nat :=
  match sortBy (fun a b => decide ((a + 4096 - (s.port p).cack.getD 0) % 4096 < (b + 4096 - (s.port p).cack.getD 0) % 4096))
      (s.port p).reqs with
  | [] => (s, none)
  | q :: t =>
    let s := s.modPort p (fun x => { x with
      reqs := t, miss := x.miss.map (fun m => if m.sq = q then { m with at_ := s.now } else m) })
    ((((s.inc (s.pa p 0x54)).raise (s.pa p 0xC) 0).ev 0x24 p), some q)

/-- A codeword goes to n lanes of a die in words of 256 bits, bit 0 first on the line (R394). -/
def Port.words (x : Port) (n : Nat) (cw : List Nat) : Port :=
  let all := x.txPos + 5440 / n
  let vals := (List.range n).map (fun l => x.txPart.getD l 0 + symbolBits (laneSymbols cw n l) * 2 ^ x.txPos)
  { x with
    txPos := all % 256, txPart := vals.map (fun v => v / 2 ^ (all / 256 * 256))
    txd := vals.map (fun v => (List.range (all / 256)).map (fun i => v / 2 ^ (256 * i) % 2 ^ 256)) }

/-- The bits of a flit enter the codeword in progress; a whole message part leaves as a codeword (R179), in a die as words
of its n lanes; n is 0 in a Krasesta. Each byte goes with its lowest bit first, and so does each symbol (DESIGN CHOICE, log
entry 114). -/
def Port.encode (x : Port) (n : Nat) (bs : List Byte) : Port :=
  let m := x.cwBits + 8 * bs.length
  let v := x.cwValue + leNat bs * 2 ^ x.cwBits
  if m < 5140 then { x with cwBits := m, cwValue := v }
  else
    let cw := rsEncode (symbolsOf 514 v)
    let x := { x with cwBits := m - 5140, cwValue := v / 2 ^ 5140, cwLast := cw }
    if n = 0 then x else x.words n cw

/-- Put a flit on the line: its numbers, the replay buffer and the counts (R190, Table LNK-16). -/
def State.emit (s : State) (p : Nat) (slot : Option Nat) (cls : Option Nat) (k : Option Pick) : State :=
  let rq := s.nextReq p
  let s := rq.1
  let x := s.port p
  let k' := k.getD { typ := 0, plen := 16, payload := beBytes 16 (s.identity p) }
  let f : Flit :=
    { typ := k'.typ, slot := k'.slot.getD (slot.getD 0), sq := k'.sq.getD x.txSeq
      akind := b2n rq.2.isSome, asq := rq.2.getD 0, queue := k'.queue, plen := k'.plen, otyp := k'.otyp
      pad := k'.pad.getD slot.isNone, payload := k'.payload, cack := x.cack.getD 0, cackV := x.cack.isSome }
  let bs := f.bytes
  let rep := k'.sq.isSome
  let s := s.modPort p (fun x => Port.encode { x with
    txSeq := if rep then x.txSeq else (x.txSeq + 1) % 4096, lastTx := bs
    idles := if rep || k'.typ != 0 then x.idles else (x.idles ++ [(x.txSeq, f.slot, f.pad)]).drop (x.idles.length - 1023)
    replay := if rep || k'.typ == 0 then x.replay else x.replay ++ [(x.txSeq, bs)] }
    (if s.part.isK then 0 else (s.laneList p).length) bs)
  let s := (s.inc (s.pa p 0x40)).ev 0x20 p
  let s := match cls with
    | some c => if k'.typ = 0 then s else (s.inc (s.pa p (0x80 + 4 * c))).ev (0x28 + c) p
    | none => s
  if s.portUp p && s.replayFull p then s.linkDie p 4 else s

/-- One flit of a port. -/
def State.txFlit (s : State) (p : Nat) : State :=
  let n := s.nextSlot p
  let s := n.1
  match n.2 with
  | none => let k := s.pick p none 0; k.1.emit p none none k.2
  | some i =>
    let e := s.wheelAt p i
    let s := s.modPort p (fun x => { x with slot := i + 1, padAt := if i = 4095 then s.now else x.padAt })
    let k := s.pick p (some (e / 64)) (e % 64)
    k.1.emit p (some i) (some (e / 64)) k.2

/-- SLOT_TRANSMIT (R184): the next flit boundary of a port in FLIT or UP. -/
def execSlotTransmit (p : Nat) (s : State) : Out :=
  .next (if s.portExists p && s.txOn && (s.tstate p == 3 || s.tstate p == 4) then s.txFlit p else s)

/-! ### Lanes (R198, R395) -/

/-- BER_CHECK (R198): the symbols corrected in one lane of a port since its last check, one second ago. -/
def execBerCheck (p : Nat) (lane : Nat) (s : State) : Out :=
  .next (if s.portExists p && s.portUp p then
      let high := decide (s.rn (s.pa p 0x30) < tget (fun _ => 0) (s.port p).laneCorr lane)
      let s := s.modPort p (fun x => { x with laneCorr := tset (fun _ => 0) x.laneCorr lane 0 })
      if high then (s.setF (bitF (s.pa p 8) 9) 1).raise (s.pa p 0xC) 9 else s
    else s)

/-- PHY_RX_LOCK (R395) of a die's lane. The level of the pin is what counts, so one that changes in reset is found when the
reset ends; what a fall does is done outside reset alone (R411). -/
def execPhyRxLock (lane : Nat) (lock : Bool) (s : State) : Out :=
  .next (s.onDie (fun s =>
    let has := s.rxLock.any (fun x => x.1 == lane)
    if 8 ≤ lane then s
    else if lock then (if has then s else { s with rxLock := (lane, s.beat.n) :: s.rxLock })
    else
      { s with rxLock := s.rxLock.filter (fun y => y.1 != lane) }.inMain (fun s =>
        let s := s.setF (bitF (s.laneReg 0 lane) 31) 0
        if s.portUp 0 then s.linkDie 0 3
        else if s.tstate 0 = 2 ∨ s.tstate 0 = 3 then s.trainFail 0
        else s)))

/-- A lane's setting has been applied; one that has come meanwhile is driven now. -/
def State.ffeDone (s : State) (l : Nat) : State :=
  let o := s.outs
  let s := { s with outs := { o with
    ffeWait := o.ffeWait.filter (· != l), ffeNext := tset (fun _ => none) o.ffeNext l none } }
  match tget (fun _ => none) o.ffeNext l with
  | some v => s.driveFfe l v
  | none => s

/-- PHY_TXFFE_DONE (R395): an awaited transmit setting has been applied. The command names no lane: the lane is a free one
of those that wait (DESIGN CHOICE, log entry 150). -/
def execPhyTxffeDone (s : State) : Out :=
  .next (s.onDie (fun s => s.inMain (fun s =>
    match s.outs.ffeWait with
    | [] => s
    | l :: t => (s.ffeDone ((l :: t).getD (s.freeNat % (l :: t).length) l)).took)))

/-- PHY_MARGIN_TGL (R395). -/
def execPhyMarginTgl (lane : Nat) (mv : Byte) (s : State) : Out :=
  .next (s.onDie (fun s => s.inMain (fun s => if lane < 8 then s.setF ⟨s.laneReg 0 lane, 0, 8⟩ mv.toNat else s)))

end Sys2Proof.Machine
end

