-- ==== Sys2Proof/Machine/PerfUnit.lean ====
section
/-! DEFINITION. Event counters (R384 to R386, R389): selection, counting, the copies of MODE 2, and their registers. -/

namespace Sys2Proof.Machine

/-- The base of a block of counters: PERF, or PERFX. -/
def perfBase (x : Bool) : Nat := if x then 0x800000 else 0x1C0000

/-- The counters of a block: their number, and the key of the first in State.perf. -/
def perfCount (x : Bool) : Nat := if x then 32 else 16
def perfKey (x : Bool) (k : Nat) : Nat := if x then 16 + k else k

/-- PERF_SEL[k]. -/
def perfSelA (x : Bool) (k : Nat) : Nat := perfBase x + 0x100 + 0x20 * k

/-- MODE, EVENT and INST of PERF_SEL. -/
def selMode (w : Nat) : Nat := bitsOf w 30 2
def selEvent (w : Nat) : Nat := bitsOf w 16 9
def selInst (w : Nat) : Nat := w % 128

/-- FREEZE of a block. -/
def State.perfFrozen (s : State) (x : Bool) : Bool := s.bit (bitF (perfBase x) 0)

/-- The counters of a part: the block and the index. -/
def State.perfAll (s : State) : List (Bool × Nat) :=
  (List.range 16).map (fun k => (false, k)) ++ (if s.part.isK then (List.range 32).map (fun k => (true, k)) else [])

/-- A code of Table HST-7. -/
def perfCode (c : Nat) : Bool :=
  let i := fun (lo hi : Nat) => decide (lo ≤ c) && decide (c ≤ hi)
  i 0 6 || i 0x8 0x15 || i 0x18 0x1D || i 0x20 0x2C || i 0x30 0x35 || i 0x38 0x39 || i 0x3C 0x3D || i 0x40 0x4A ||
    i 0x60 0x65 || i 0x70 0x77 || i 0x90 0x93 || i 0xA0 0xA5 || i 0xB0 0xB2 || i 0xC0 0xC3 || i 0xD0 0xD1

/-- An event that takes an instance; the port events of a die all count its uplink (R385). -/
def State.perfInst (s : State) (c : Nat) : Bool :=
  (s.part.isK && decide (0x20 ≤ c) && decide (c ≤ 0x2C)) || (decide (0x30 ≤ c) && decide (c ≤ 0x35)) || c == 0x38 ||
    (decide (0x40 ≤ c) && decide (c ≤ 0x4A)) || (decide (0x60 ≤ c) && decide (c ≤ 0x65)) || c == 0xA3

/-- A counter counts an event. -/
def State.perfHit (s : State) (w code inst : Nat) : Bool :=
  (selMode w == 1 || selMode w == 2) && selEvent w == code &&
    (selInst w == 0x7F || !s.perfInst code || selInst w == inst)

/-- Add to a counter; wrapping from 2^48 − 1 sets OVF (R384). -/
def State.perfAdd (s : State) (x : Bool) (k n : Nat) : State :=
  let j := perfKey x k
  let v := tget (fun _ => 0) s.perf.cnt j + n
  let s := { s with perf := { s.perf with cnt := tset (fun _ => 0) s.perf.cnt j (v % 2 ^ 48) } }
  if 2 ^ 48 ≤ v then s.hit (bitF (perfBase x + 4) k) else s

/-- One event reaches the counters that select it. -/
def State.perfTake (s : State) (e : PerfEv) : State :=
  s.each s.perfAll (fun s y =>
    if !s.perfFrozen y.1 && !s.perf.shut.contains (perfKey y.1 y.2) && s.perfHit (s.rn (perfSelA y.1 y.2)) e.code e.inst
    then s.perfAdd y.1 y.2 e.n else s)

/-- The events that reach the counters in this cycle: those of 64 cycles ago, a time-counter cycle among them (R384). -/
def State.perfDue (s : State) : List PerfEv :=
  (if 64 ≤ s.perf.run then [⟨1, 0, 1, s.beat.n - 64⟩] else []) ++
    (s.perf.infl.filter (fun e => decide (e.at_ + 64 ≤ s.beat.n))).reverse

/-- The events due reach their counters, at the end of the cycle. -/
def State.perfTick (s : State) : State :=
  let t := s.each s.perfDue (fun s e => s.perfTake e)
  { t with
    perf := { t.perf with
      infl := t.perf.infl.filter (fun e => !decide (e.at_ + 64 ≤ s.beat.n)), run := min 64 (t.perf.run + 1), shut := [],
      early := [] } }

/-- The number of the events due that a counter counts. -/
def State.perfGain (s : State) (x : Bool) (k : Nat) : Nat :=
  let l := s.perfDue.filter (fun e => s.perfHit (s.rn (perfSelA x k)) e.code e.inst)
  l.foldl (fun m e => m + e.n) 0

/-- Some counter selects an event of tile cycles. -/
def State.perfTiles (s : State) : Bool :=
  s.perfAll.any (fun y =>
    let w := s.rn (perfSelA y.1 y.2)
    (selMode w == 1 || selMode w == 2) && decide (0x40 ≤ selEvent w) && decide (selEvent w ≤ 0x44))

/-- The tile cycles since an earlier state, and those in which a unit of a tile is busy (Table HST-7). They are noted while
a counter selects them. -/
def State.tileCycles (s old : State) : State :=
  if s.part.isK && s.perfTiles then
    s.each (List.range 64) (fun s l =>
      let t := s.physOf l
      let n := s.regEdges (t / 8) - old.regEdges (t / 8)
      if n = 0 then s
      else
        let us := (s.tile t).cur.elim [] (fun (p : Prog) => p.units.map (fun (u : Nat × TOp) => u.1))
        (s.evN 0x40 l n).each (us.filter (fun u => decide (u < 4))) (fun s u => s.evN (0x41 + u) l n))
  else s

/-- OVF of the counter with a key. -/
def perfOvf (j : Nat) : Fld := bitF (perfBase (decide (16 ≤ j)) + 4) (if 16 ≤ j then j - 16 else j)

/-- Set one counter and its PERF_LAST. -/
def State.perfSet (s : State) (j cnt last : Nat) : State :=
  { s with
    perf := { s.perf with
      cnt := tset (fun _ => 0) s.perf.cnt j cnt, last := tset (fun _ => 0) s.perf.last j last } }

/-- A counter that has taken this cycle's events gives them back, for a meeting of actions that R386 decides. -/
def State.perfBack (s : State) (j : Nat) : State :=
  match s.perf.early.find? (fun e => e.1 == j) with
  | none => s
  | some e =>
    let s := s.perfSet j ((tget (fun _ => 0) s.perf.cnt j + (2 ^ 48 - e.2.1 % 2 ^ 48)) % 2 ^ 48) (tget (fun _ => 0) s.perf.last j)
    { s.setB (perfOvf j) e.2.2 with
      perf := { s.perf with early := s.perf.early.filter (fun y => y.1 != j), shut := s.perf.shut.filter (fun y => y != j) } }

/-- A counter and its PERF_LAST are cleared; the events of this cycle are not counted (R386). -/
def State.perfClear (s : State) (j : Nat) : State :=
  let s := (s.perfBack j).perfSet j 0 0
  { s with perf := { s.perf with shut := j :: s.perf.shut } }

/-- The fire cycle of a leap: MODE 2 counters are copied and restart (R384, R386). -/
def State.perfFire (s : State) : State :=
  s.each s.perfAll (fun s y =>
    if !s.perfFrozen y.1 && selMode (s.rn (perfSelA y.1 y.2)) == 2 then
      let s := s.perfBack (perfKey y.1 y.2)
      s.perfSet (perfKey y.1 y.2) 0 (tget (fun _ => 0) s.perf.cnt (perfKey y.1 y.2))
    else s)

/-- The counter whose PERF_SEL lies at an address. -/
def State.perfSelAt (s : State) (a : Nat) : Option (Bool × Nat) := s.perfAll.find? (fun y => perfSelA y.1 y.2 == a)

/-- A block accepts a word of PERF_SEL (R385). -/
def selOk (x : Bool) (w : Nat) : Bool :=
  decide (selMode w ≤ 2) && perfCode (selEvent w) && (x || decide (selEvent w < 0x40))

/-- A write of PERF_SEL. -/
def State.perfSelWrite (s : State) (a v : Nat) : State :=
  match s.perfSelAt a with
  | none => s
  | some (x, k) =>
    if selOk x v then
      (s.setN a (selMode v * 2 ^ 30 + selEvent v * 2 ^ 16 + selInst v)).perfClear (perfKey x k)
    else s

/-- PERF_SEL_WRITE (R386). -/
def execPerfSelWrite (a : Nat) (v : Word) (s : State) : Out :=
  .next (if (s.perfSelAt a).isSome then s.unlocked (fun s => s.perfSelWrite a v.toNat) else s)

/-- A write of PERF_CTRL. -/
def State.perfCtrlWrite (s : State) (x : Bool) (v : Nat) : State :=
  let s := s.setB (bitF (perfBase x) 0) (bitOf v 0)
  let s := if bitOf v 0 then s.each (List.range (perfCount x)) (fun s k => s.perfBack (perfKey x k)) else s
  if bitOf v 1 then s.each (List.range (perfCount x)) (fun s k => s.perfClear (perfKey x k)) else s

/-- A write of PERF_CTRL of a block that the part has; the second one is in a Krasesta alone. -/
def State.perfCtrl (s : State) (x : Bool) (v : Nat) : State :=
  if x && !s.part.isK then s else s.unlocked (fun s => s.perfCtrlWrite x v)

/-- CLEAR_ALL (R386). -/
def execClearAll (x : Bool) (v : Word) (s : State) : Out := .next (s.perfCtrl x (forceBits v 2))

/-- FREEZE (R386). -/
def execFreeze (x : Bool) (v : Word) (s : State) : Out := .next (s.perfCtrl x v.toNat)

/-- OVF (R384): a counter whose events of this cycle take it past 2^48 − 1 takes them and wraps. Where a clear, a freeze or
the fire cycle meets it in the cycle, they decide (R386). -/
def execOvf (x : Bool) (k : Nat) (s : State) : Out :=
  let j := perfKey x k
  let n := s.perfGain x k
  .next (if decide (k < perfCount x) && (!x || s.part.isK) && s.mainOn && !s.perfFrozen x && !s.perf.shut.contains j &&
      decide (2 ^ 48 ≤ tget (fun _ => 0) s.perf.cnt j + n) then
      let was := s.bit (perfOvf j)
      let s := s.perfAdd x k n
      { s with perf := { s.perf with shut := j :: s.perf.shut, early := (j, n, was) :: s.perf.early } }
    else s)

end Sys2Proof.Machine
end

