-- ==== Sys2Proof/Machine/Block.lean ====
section
/-! DEFINITION. What only a Caertin block has: the window over LCLK (R393) and loopback (R413). -/

namespace Sys2Proof.Machine

def LCLK_OK : Fld := bitF BLOCK_STATUS 0
def TEST_LOOP : Fld := bitF 0x100010 0
def PAD_LOOP : Fld := bitF 0x100010 1

/-- LCLK_WINDOW (R393): in a Krasesta the count is that of the time clock (Table MAP-1), and no action follows. -/
def execLclkWindow (edges : Nat) (s : State) : Out :=
  let ok := decide (9900 ≤ edges) && decide (edges ≤ 10100)
  .next (
    if s.part.isK then s.inMain (fun s => (s.setF LCLK_MEAS edges).setB LCLK_OK ok)
    else if s.power.held then s
    else
      let s := (s.setF LCLK_MEAS edges).setB LCLK_OK ok
      if ok then
        if s.bit LCLK_FAULT && s.power.released then
          { s.setB LCLK_FAULT false with outs := { s.outs with txHeld := false } }
        else s
      else if s.bit LCLK_FAULT then s
      else
        let s := (s.setB LCLK_FAULT true).geckoHalt 4 true
        { s with power := { s.power with released := false }, outs := { s.outs with txHeld := true } })

/-- A write of TEST_CTRL (R413): the mode and the register differ only after a reset, which ends the mode and keeps the
register (R416); the register reads 0 and ignores writes in a Krasesta. -/
def State.testCtrlWrite (s : State) (v : Nat) : State :=
  s.onDie (fun s => s.loadFree (fun s =>
    let on := bitOf v 0
    let pad := bitOf v 1
    let was := s.outs.loop
    if (on && s.nst != .armed) || (pad && !on) then s.hit (bitF BLOCK_STATUS 5)
    else
      let s := (s.setB TEST_LOOP on).setB PAD_LOOP pad
      let s := { s with outs := { s.outs with loop := on, lpbk := pad } }
      if on != was then s.toSignal 0 else s))

/-- TEST_CTRL_WRITE (R413). -/
def execTestCtrlWrite (v : Word) (s : State) : Out := .next (s.testCtrlWrite v.toNat)

/-- LOOP_REQ_SEND (R413): a REQ every 1,000 ns. Its SEQ, which the spec does not state, is free. -/
def execLoopReqSend (s : State) : Out :=
  let e := s.exch 0
  let due := match e.sentAt with
    | none => true
    | some t => decide (t + 1000 ≤ s.beat.n)
  .next (if s.looped && s.portUp 0 && due then
    (((s.modExch 0 (fun e => { e with sentAt := some s.beat.n })).sendCtrl 0 (timeMsg 1 0 s.freeNat 0))).took
  else s)

end Sys2Proof.Machine
end

