-- ==== Sys2Proof/Machine/Counters.lean ====
section
/-! DEFINITION. Commands of counters, watches and barriers (R131 to R172): acceptance of requests, CADDs, the cycle of
the counter unit under each of its events, combined arrivals, releases, stalls and the deadlock detector. -/

namespace Sys2Proof.Machine

/-! ### Node identifiers (R6, R7) -/

/-- LEVEL of a node identifier. -/
def idLevel (x : Nat) : Nat := bitsOf x 18 2

/-- How many low bits of ADDR lie below a level. -/
def levelShift (l : Nat) : Nat := match l with | 0 => 0 | 1 => 4 | 2 => 10 | _ => 16

/-- The part of ADDR that names the ancestor at a level. -/
def idPrefix (x l : Nat) : Nat := bitsOf x 0 16 / 2 ^ levelShift l

/-- A node identifier that R7 accepts. -/
def idOk (x : Nat) : Bool :=
  decide (x < 2 ^ 20) && !bitOf x 16 && (!bitOf x 17 || decide (2 ≤ idLevel x)) &&
    bitsOf x 0 16 % 2 ^ levelShift (idLevel x) == 0

/-- Node d lies in the subtree of node n (n itself included). -/
def inSubtree (n d : Nat) : Bool := decide (idLevel d ≤ idLevel n) && idPrefix n (idLevel n) == idPrefix d (idLevel n)

/-- The level of the lowest common ancestor of two nodes. -/
def lcaLevel (a b : Nat) : Nat :=
  (([0, 1, 2, 3].filter (fun l => decide (idLevel a ≤ l) && decide (idLevel b ≤ l) && idPrefix a l == idPrefix b l)).head?).getD 3

/-- L of a remote ADD by the level of the common ancestor (Table CNT-2), ns. -/
def pathLatency (l : Nat) : Nat := if l ≤ 1 then 1000 else if l = 2 then 3200 else 6400

/-! ### CADDs -/

/-- A CADD is discarded as stray (R136, R137). -/
def State.strayAdd (s : State) : State := ((s.inc STRAY_ADD).raise CNT_CAUSE 5).ev 0xC

/-- Route a CADD onward (R136): upward on both up ports, or down toward DEST and with it on the twin link (R36). -/
def State.routeCadd (s : State) (m : Msg) : State :=
  let d := cDest m
  let me := s.f NODE_ID
  if s.quietTwin then s
  else if s.part.isK && bitOf d 17 then s.strayAdd
  else if s.part.isK && inSubtree me d then
    match s.kidPorts.find? (fun p => inSubtree (s.peerExp p) d) with
    | none => s.strayAdd
    | some p =>
      if s.fenced p then (s.inc STRAY_ADD).ev 0xC
      else (s.sendCtrl p m).sendAll s.mirror m
  else if s.upActive.isEmpty then s.strayAdd
  else (s.sendUp m).dlTouch

/-- The instant, in whole ns, that a DUE modulo 2^32 names, as a signed difference from the reading. -/
def State.dueNs (s : State) (due : Nat) : Int :=
  (s.nowNs : Int) + signed 32 (unsignedOf 32 ((due : Int) - s.nowNs))

/-- A CADD at the counter's node (R137, R138). -/
def State.caddHere (s : State) (m : Msg) : State :=
  let due := s.dueNs (cDue m)
  let c := cCore m
  let k := cCounter m
  if !s.armed || decide (due * 65536 < (s.cnt.armedAt : Int)) then s.strayAdd
  else if ¬ c < s.part.numCores then s.badReq 1 0 c k
  else if ¬ k < 48 then s.badReq 2 0 c k
  else if cK m = 0 then s.badReq 3 0 c k
  else
    let x : PendAdd := { due := due.toNat * 65536, core := c, k := k, inc := cK m, cadd := true, seen := s.beat.n }
    let soon := fun (s : State) => { s with cnt := { s.cnt with soon := s.cnt.soon ++ [x] } }
    if (s.nowNs : Int) ≤ due then
      if s.cnt.hold.length < s.part.holdCap then
        let n := s.cnt.hold.length + 1
        ({ s with cnt := { s.cnt with hold := s.cnt.hold ++ [x], hwm := max s.cnt.hwm n } }).dlTouch
      else ((soon ((s.inc HOLD_OVER).raise CNT_CAUSE 7)).ev 0x13).dlTouch
    else
      let s := ((s.inc LATE_SYNC).raise CNT_CAUSE 4).setRpt (fun x => { x with late := true })
      soon (s.ev 0xB)

/-- A CADD message received. -/
def State.caddRx (s : State) (m : Msg) : State :=
  let s := (s.inc CADD_RX).ev 0xA
  if s.quietTwin then s
  else if cDest m = s.f NODE_ID then s.caddHere m
  else if s.part.isK then s.routeCadd m
  else s.strayAdd

/-- A SYNC control message of one kind. -/
def isSync (m : Msg) (k : Nat) : Bool := mType m == 3 && mKind m == k

/-! ### Acceptance of requests -/

/-- REASON of a request discarded or refused for its form (R142, R146): TADPOLE first, then a reserved OP, and for the
counter requests DEST or LOCAL, K, and the ranges of Table CNT-13 (the order is a DESIGN CHOICE, log entry 17). -/
def State.badForm (s : State) (m : Msg) : Option Nat :=
  let op := rqOp m
  let c := rqCore m
  let k := rqCounter m
  let range := if ¬ c < s.part.numCores then some 1 else if ¬ k < 48 then some 2 else none
  let src := if ¬ rqSrc m < s.part.numCores then some 1 else none
  if s.inTadpole then some 0
  else match op with
    | 1 =>
      if !rqFlag m && !idOk (rqDest m) then some 5
      else if rqK m = 0 then some 3
      else if rqFlag m || rqDest m == s.f NODE_ID then range else none
    | 2 => if rqFlag m then range else some 6
    | 3 => if rqFlag m then range <|> src else some 6
    | 4 => none
    | 8 | 9 | 10 | 11 => src
    | _ => some 4

/-- Latency from acceptance to effect, ns (R135): L - 4 of same core or other core. -/
def effectDelay (m : Msg) (bad : Option Nat) : Nat :=
  if bad.isNone && (rqOp m == 1 || rqOp m == 2 || rqOp m == 3) && rqCore m == rqSrc m then 8 else 36

/-- A remote ADD leaves as a CADD (R135, R136); a node in FENCED sends none (R199), and CADD_TX does not count it. -/
def State.remoteAdd (s : State) (m : Msg) : State :=
  let l := pathLatency (lcaLevel (s.f NODE_ID) (rqDest m))
  let due := (s.nowNs + l - 4) % 2 ^ 32
  let s := if s.nst = .fenced then s else (s.inc CADD_TX).ev 9
  s.routeCadd (caddMsg (rqDest m) (rqCore m) (rqCounter m) (rqK m) (s.f NODE_ID) due)

/-- A request is accepted at a port, or from a tile's descriptor (R135, R146). A request of a core that holds a watch
breaks the deadlock window (R170). -/
def State.accept (s : State) (port : Nat) (m : Msg) : State :=
  let s := if s.cnt.watches.any (fun w => w.core == rqSrc m) then s.dlTouch else s
  let bad := s.badForm m
  if bad.isNone && rqOp m == 1 && !rqFlag m && rqDest m != s.f NODE_ID then s.remoteAdd m
  else
    let x : PendReq := { due := s.now + effectDelay m bad * 65536, acc := s.now, port := port, word := m, bad := bad }
    { s with cnt := { s.cnt with pend := s.cnt.pend ++ [x] } }

/-- A request word on a core message port: the port exists and the block is not in reset (R397); `ok` tells the OPs of
the row. -/
def State.cmp (s : State) (c : CmpReq) (ok : Nat → Bool) : State :=
  if !s.power.held && decide (c.port < s.part.numCmp) && ok (rqOp c.word) then s.accept c.port c.word else s

/-- ADD (R135); a request with a reserved OP is taken here too, to be discarded by R146. -/
def execAdd (c : CmpReq) (s : State) : Out :=
  .next (s.cmp c (fun op => !(decide (2 ≤ op) && decide (op ≤ 4)) && !(decide (8 ≤ op) && decide (op ≤ 11))))

/-- READ (R150). -/
def execRead (c : CmpReq) (s : State) : Out := .next (s.cmp c (· == 2))

/-- WATCH (R141). -/
def execWatch (c : CmpReq) (s : State) : Out := .next (s.cmp c (· == 3))

/-- UNWATCH (R145). -/
def execUnwatch (c : CmpReq) (s : State) : Out := .next (s.cmp c (· == 4))

/-- ARRIVE_WAIT (R160). -/
def execArriveWait (c : CmpReq) (s : State) : Out := .next (s.cmp c (· == 8))

/-- ARRIVE (R160). -/
def execArrive (c : CmpReq) (s : State) : Out := .next (s.cmp c (· == 9))

/-- WAIT (R160). -/
def execWait (c : CmpReq) (s : State) : Out := .next (s.cmp c (· == 10))

/-- BREAD (R160). -/
def execBread (c : CmpReq) (s : State) : Out := .next (s.cmp c (· == 11))

/-! ### Events of the counter unit: each runs the cycle, with everything that is due in it -/

/-- REQUEST_REFUSAL (R135). -/
def execRequestRefusal (s : State) : Out := .next (s.counterCycle false)

/-- ADD_EFFECT (R135). -/
def execAddEffect (s : State) : Out := .next (s.counterCycle false)

/-- WATCH_ENTRY (R141). -/
def execWatchEntry (s : State) : Out := .next (s.counterCycle false)

/-- UNWATCH_EFFECT (R145). -/
def execUnwatchEffect (s : State) : Out := .next (s.counterCycle false)

/-- READ_SAMPLE (R150). -/
def execReadSample (s : State) : Out := .next (s.counterCycle false)

/-- WATCH_TIMEOUT (R134). -/
def execWatchTimeout (s : State) : Out := .next (s.counterCycle false)

/-- CADD_APPLY (R137). -/
def execCaddApply (s : State) : Out := .next (s.counterCycle false)

/-- BARRIER_REQUEST_EFFECT (R157). -/
def execBarrierRequestEffect (s : State) : Out := .next (s.counterCycle false)

/-- RELEASE_APPLY (R164). -/
def execReleaseApply (s : State) : Out := .next (s.counterCycle false)

/-- FORCE_APPLY (R153): the oldest FORCE applies in this cycle. -/
def execForceApply (s : State) : Out := .next (s.counterCycle true)

/-- CMP_STALL (R148): a response has waited for more than 8 ns. -/
def execCmpStall (port : Nat) (s : State) : Out :=
  .next (if s.cnt.rsps.any (fun r => r.port == port && decide (r.at_ + 8 * 65536 < s.now)) then
      ((s.raise CNT_CAUSE 8).ev 0x15).dlTouch
    else s)

/-- A write of FORCE_DATA (R336): the FORCE joins the one write path, or is counted in BAD_REQ. While the main part of a die is in
reset it has no effect (R406). -/
def State.forceDataWrite (s : State) (v : Word) : State :=
  let c := bitsOf (s.rn FORCE_ADDR) 8 8
  let k := bitsOf (s.rn FORCE_ADDR) 0 6
  if ¬ s.mainOn then s
    else if ¬ c < s.part.numCores then s.badReq 1 0 c k
    else if ¬ k < 48 then s.badReq 2 0 c k
    else { s with cnt := { s.cnt with forces := s.cnt.forces ++ [(c, k, v.toNat)] } }

/-- FORCE_DATA (R336). -/
def execForceData (v : Word) (s : State) : Out := .next (s.forceDataWrite v)

/-! ### Barrier messages (R163, R164) -/

/-- A barrier message is discarded: counted in STRAY_BAR. -/
def State.strayBar (s : State) : State := (s.inc STRAY_BAR).raise BAR_CAUSE 3

/-- An ARRIVE of a child (R163): it is counted in this cycle of the unit; that of a fenced child is absent (R169). -/
def State.arriveRx (s : State) (p : Nat) (m : Msg) : State :=
  let h := bSlot m
  if s.fenced p then s
  else if s.armed && s.bit (barEn (16 + h)) && (s.childPorts h).contains p then
    ({ s with bar := { s.bar with arrs := s.bar.arrs ++ [(p, h, bRound m)] } }).counterCycle false
  else s.strayBar

/-- Schedule a release at this node (R164). -/
def State.schedRelease (s : State) (m : Msg) : State :=
  let due := s.dueNs (bDue m)
  let late := bAligned m && decide (due < (s.nowNs : Int))
  let s := if late then (((s.inc LATE_REL).raise BAR_CAUSE 2).ev 0x1C).setRpt (fun x => { x with late := true }) else s
  let r : Rel :=
    { due := if bAligned m && !late then due.toNat * 65536 else s.now, slot := bSlot m, round := bRound m,
      aligned := bAligned m, seen := if late then some s.beat.n else none }
  ({ s with bar := { s.bar with rels := s.bar.rels ++ [r] } }).dlTouch

/-- A RELEASE from above (R163, R164): forwarded on the ports of CHILD_MAP and scheduled. -/
def State.releaseRx (s : State) (p : Nat) (m : Msg) : State :=
  let h := bSlot m
  let k := 16 + h
  if s.armed && s.bit (barEn k) && s.bit (barScope k) then s
  else if s.armed && s.bit (barEn k) && s.selPort.contains p && bRound m == s.f (barRound k) then
    let s := if s.quietTwin then s else s.sendAll (s.childPorts h ++ s.mirror) m
    s.schedRelease m
  else s.strayBar

/-- A SYNC control message on a port; reserved kinds are counted in STRAY_BAR (Table BRS-4). -/
def State.syncCtlRx (s : State) (p : Nat) (m : Msg) : State :=
  match mKind m with
  | 0 => s.caddRx m
  | 1 => s.arriveRx p m
  | 2 => s.releaseRx p m
  | _ => s.strayBar

/-! ### Stalls and deadlock -/

/-- BAR_STALL (R168): stage 4 of the cycle, after the arrivals and completions that fall in it. -/
def execBarStall (e : Nat) (s : State) : Out := .next (if e < 80 then s.counterCycle false else s)

/-- Nothing breaks the deadlock window now (R170). -/
def State.dlQuiet (s : State) : Bool :=
  s.bit DL_EN && !s.cnt.watches.isEmpty && s.cnt.hold.isEmpty && s.cnt.rsps.isEmpty &&
    !s.bar.rels.any (fun r => r.aligned) &&
    !(s.upActive ++ s.upStandby).any (fun p => ((s.port p).ctrl ++ (s.port p).deferred).any (fun m => mType m == 3)) &&
    !(s.enabledEntries.any (fun k => decide (16 ≤ k) && s.bit (barSent k)))

/-- One entry of the deadlock snapshot (R171, Table BRS-12). -/
def snapWords (w : Watch) : List Nat :=
  let kind := w.bar.isSome
  let k := (w.bar.map (·.1)).getD 0
  let hall := kind && decide (16 ≤ k)
  let r := (w.bar.map (·.2)).getD 0
  [2 ^ 31 + b2n kind * 2 ^ 30 + b2n hall * 2 ^ 29 + r % 4 * 2 ^ 27 + w.slot % 8 * 2 ^ 24 + w.core % 256 * 2 ^ 16 + w.tag % 2 ^ 16,
    (if kind then (if hall then k - 16 else k) else w.ck) % 64 * 2 ^ 8 + (if kind then 0 else w.cc % 256),
    w.acc / 65536 % 2 ^ 32, (w.deadline.map (fun d => d / 65536 % 2 ^ 32)).getD 0]

/-- The deadlock snapshot (R171). -/
def State.dlSnapshot (s : State) : State :=
  let ws := (sortBy (fun (a b : Watch) => lexLt [a.acc, a.core, a.slot] [b.acc, b.core, b.slot]) s.cnt.watches).take 16
  let s := s.each (List.range 16) (fun s e =>
    let l := (ws[e]?.map snapWords).getD [0, 0, 0, 0]
    s.each [0, 1, 2, 3] (fun s j => s.setN (snapW e j) (l.getD j 0)))
  (s.setN DL_STATUS ws.length).hit DL_VALID

/-- DEADLOCK (R170). -/
def execDeadlock (s : State) : Out :=
  .next (if s.dlQuiet && decide (s.bar.dlSince + s.f DL_WINDOW * 65536 ≤ s.now) then
      let s := (((s.inc DEADLOCKS).raise BAR_CAUSE 4).ev 0x1D).log 16 0
      let s := s.snapshot 16 0
      (if s.bit DL_VALID then s else s.dlSnapshot).dlTouch
    else s)

end Sys2Proof.Machine
end

