-- ==== Sys2Proof/Machine/Detector.lean ====
section
/-! DEFINITION. Croak and the failure detector, notices, and the gecko operations (R189, R313 to R322, R330, R335,
R337), the core map (R328), and eft entries (R324 to R327). -/

namespace Sys2Proof.Machine

/-! ### Croak (R189, R313, R316) -/

/-- A CROAK message (Table LNK-6). -/
def State.croakMsg (s : State) (sq echo : Nat) : Msg :=
  BitVec.ofNat 128 (4 * 2 ^ 120 + s.nst.code * 2 ^ 116 + b2n (s.bit ORPHAN) * 2 ^ 115 + b2n s.armed * 2 ^ 114 +
    b2n (s.part.isK && s.bit BASK) * 2 ^ 113 + b2n (s.bit HALTED) * 2 ^ 112 + s.f NODE_ID * 2 ^ 92 + sq % 2 ^ 16 * 2 ^ 76 +
    echo % 2 ^ 16 * 2 ^ 60 + s.step % 2 ^ 48 * 2 ^ 12)

/-- The croak instant k has come: the time shadow takes it (R337). -/
def State.shadow (s : State) (k : Nat) : State :=
  let s := s.setR96 TSHADOW (tsOf (k * 10000 * 65536))
  { s with flt := { s.flt with shadowAge := 0, croakK := k + 1 } }

/-- CROAK_SEND (R189). -/
def execCroakSend (s : State) : Out :=
  .next (if s.flt.croakK * 10000 ≤ s.nowNs then
      let s := s.shadow (s.nowNs / 10000)
      if s.inTadpole then s
      else
        let q := s.flt.cseq
        let s := { s with flt := { s.flt with cseq := (q + 1) % 2 ^ 16 } }
        s.each (s.allPorts.filter (fun p => !s.gangedUpper p)) (fun s p => s.sendCtrl p (s.croakMsg q ((s.port p).lastCseq.getD 0)))
    else s)

/-- PEER_STATE and MISS of the port's detector. -/
def State.detState (s : State) (p : Nat) : Fld := if s.part.isK then ⟨detPort p, 4, 4⟩ else ⟨DET_STATUS, 4, 4⟩
def State.detMiss (s : State) (p : Nat) : Fld := if s.part.isK then ⟨detPort p, 0, 3⟩ else ⟨DET_STATUS, 0, 3⟩

/-- The fence cause that a child's croak shows, if any, in the order of Table FLT-2. -/
def State.croakCause (s : State) (p : Nat) (m : Msg) : Option Nat :=
  let st := mKind m
  if bitOf m.toNat 115 then some 4
  else if (st = 1 ∨ st = 2) ∧ s.armed ∧ (s.port p).childRan then some 5
  else if st = 6 then some 6
  else none

/-- A node fences a down port; an enabled eft on it ends (R316, R327). -/
def State.fenceDown (s : State) (p cause : Nat) : State :=
  match s.eftOf p with
  | some e => s.eftEnd e cause
  | none => if s.fenced p then s else s.fenceChild p cause

/-- A CROAK on a port (R313, R314, R316). -/
def State.croakRx (s : State) (p : Nat) (m : Msg) : State :=
  let sq := bitsOf m.toNat 76 16
  let cause := if s.part.isK && s.use p == 1 then s.croakCause p m else none
  let new := (s.port p).lastCseq != some sq
  let s := s.setF (s.detState p) (mKind m)
  let s := s.modPort p (fun x => { x with
    newCroak := x.newCroak || new, lastCseq := some sq, childRan := decide (mKind m = 4) })
  let s := if bitsOf m.toNat 92 20 = s.expectedId p then s else s.declareDead p 3
  match cause with
  | some c => s.fenceDown p c
  | none => s

/-- CROAK (R313). -/
def execCroak (p : Nat) (m : Msg) (s : State) : Out :=
  .next (if s.portUp p && mType m == 4 then s.croakRx (s.chanOf p) m else s)

/-- DETECTOR_CHECK (R313, R314): at hall time k × 10,000 + 5,000 ns. A ganged channel has one far end, and one detector
(R178). -/
def execDetectorCheck (p : Nat) (s : State) : Out :=
  let x := s.port p
  .next (if s.portUp p && !s.gangedUpper p && !s.looped && decide (x.checkK * 10000 + 5000 ≤ s.nowNs) then
      let n := if x.newCroak then 0 else min 5 (s.f (s.detMiss p) + 1)
      let s := s.setF (s.detMiss p) n
      let s := s.modPort p (fun x => { x with newCroak := false, checkK := (s.nowNs + 5000) / 10000 })
      if n = 5 then s.declareDead p 1 else s
    else s)

/-! ### Fault notices (Table FLT-3, R319, R321) -/

/-- The record of a fault notice. -/
def noticeRec (pl : List Byte) : Nat := beNat (pl.take 16)

/-- A MGMT payload is a fault notice of one kind. -/
def isNotice (pl : List Byte) (k : Nat) : Bool := bitsOf (noticeRec pl) 120 8 == 0x46 && bitsOf (noticeRec pl) 116 4 == k

/-- A fault notice on a port: FENCE on an up port, UP_SWITCH on a down port of a twin. -/
def State.noticeRx (s : State) (p : Nat) (pl : List Byte) : State :=
  if isNotice pl 1 then
    if (s.use p = 2 ∨ s.use p = 3 ∨ ¬ s.part.isK) ∧ bitsOf (noticeRec pl) 72 20 = s.f NODE_ID then s.selfFence 1 else s
  else if isNotice pl 2 then (if s.use p = 1 then s.takeover else s)
  else s

/-- A port takes a MGMT flit (R199, Table LNK-10): a twin's down port takes fault notices only. -/
def State.takesMgmt (s : State) (p : Nat) (pl : List Byte) : Bool :=
  !s.reduced p || (!s.fencePort p && s.quietTwin && s.use p == 1 && bitsOf (noticeRec pl) 120 8 == 0x46)

/-- A discarded flit or message on a port with reduced traffic. -/
def State.fenceDrop (s : State) (p : Nat) : State := s.inc (s.pa p 0x6C)

/-! ### Gecko operations -/

/-- A write of FENCE_REQ (R320). -/
def State.fenceReqWrite (s : State) (v : Word) : State :=
  let p := v.toNat % 128
  if s.inTadpole then s.raise GK_CAUSE 3
    else if bitOf v.toNat 31 then s.selfFence 4
    else if s.part.isK && decide (p < 72) && s.use p == 1 && s.portUp p then s.fenceDown p 7
    else s.raise GK_CAUSE 3

/-- FENCE_REQ (R320). -/
def execFenceReq (v : Word) (s : State) : Out := .next (s.fenceReqWrite v)

/-- A write of UNFENCE (R320): PORT_FENCE, PORT_DEAD, DET_PORT and FENCE_REC of the port take their reset values (R340); a
fence notice that has not left is of no use any more. -/
def State.unfenceWrite (s : State) (v : Word) : State :=
  let p := v.toNat % 128
  if s.part.isK && decide (p < 72) && !s.armed && s.fenced p && (s.port p).tadSeen then
      let s := (s.setB (portFence p) false).setB (portDead p) false
      let s := s.modPort p (fun x => { x with notices := x.notices.filter (fun n => !isFenceNotice n) })
      ((s.setN (detPort p) 0).setN (fenceRec p) 0).log 4 (p * 2 ^ 8)
    else s.raise GK_CAUSE 3

/-- UNFENCE (R320). -/
def execUnfence (v : Word) (s : State) : Out := .next (s.unfenceWrite v)

/-- A write of GK_CTRL: HALT (R335; first by log entry 5), then LOG_UNFREEZE and LOG_FREEZE (R337). -/
def State.gkCtrlWrite (s : State) (v : Nat) : State :=
  let was := s.bit LOG_FROZEN
  let s := if bitOf v 0 then s.geckoHalt 1 true else s
  let s := if bitOf v 2 then s.setB LOG_FROZEN false else s
  if bitOf v 1 then
    let s := s.setB LOG_FROZEN true
    if was then s else s.raise GK_CAUSE 4
  else s

/-- GECKO_HALT (R335). -/
def execGeckoHalt (v : Word) (s : State) : Out := .next (s.gkCtrlWrite (forceBits v 1))

/-- LOG_FREEZE (R337). -/
def execLogFreeze (v : Word) (s : State) : Out := .next (s.gkCtrlWrite (forceBits v 2))

/-- LOG_UNFREEZE (R337). -/
def execLogUnfreeze (v : Word) (s : State) : Out := .next (s.gkCtrlWrite (forceBits v 4))

/-- SNAP_REQ (R330). -/
def execSnapReq (v : Word) (s : State) : Out := .next (if bitOf (forceBits v 1) 0 then s.snapshot 0 0 else s)

/-- CMAP_SEQ counts an accepted change of CORE_MAP (R398). -/
def State.stepCmap (s : State) : State := { s with outs := { s.outs with cmapSeq := (s.outs.cmapSeq + 1) % 16 } }

/-- A write of CORE_MAP (R328, R398) in a die; CMAP_SEQ stays 0 in reset (R411). -/
def State.coreMapWrite (s : State) (l : Nat) (v : Word) : State :=
  s.onDie (fun s => if l < s.part.numCores then s.loadFree (fun s =>
      let used := (List.range s.part.numCores).any (fun k => k != l && s.f (coreMap k) == v.toNat % 256)
      if (s.nst == .stopped || s.inTadpole) && !used then
        let s := s.setF (coreMap l) v.toNat
        if s.mainOn then s.stepCmap else s
      else s.cfgLocked)
    else s)

/-- CORE_MAP_WRITE (R328, R398) in a die. -/
def execCoreMapWrite (l : Nat) (v : Word) (s : State) : Out := .next (s.coreMapWrite l v)

/-! ### Efts (R324 to R327) -/

/-- An entry's runtime. -/
def State.eft (s : State) (e : Nat) : Eft := tget (fun _ => {}) s.flt.efts e

/-- Replace an entry's runtime. -/
def State.setEft (s : State) (e : Nat) (x : Eft) : State :=
  { s with flt := { s.flt with efts := tset (fun _ => {}) s.flt.efts e x } }

/-- The rules of R324 on an EFT_CFG that enables its entry. -/
def State.eftOk (s : State) (v : Nat) : Bool :=
  let p := bitsOf v 8 7
  let q := bitsOf v 0 7
  s.level == 1 && decide (p < 72) && decide (q < 72) && p != q && s.use p == 1 && s.use q == 1 && s.width p == 2 &&
    s.width q == 2 && s.peerExp p == 0xFFFFF && s.peerExp q != 0xFFFFF && bitsOf (s.peerExp q) 18 2 == 0

/-- A write of EFT_CFG (R324, R327). -/
def State.eftCfgWrite (s : State) (e : Nat) (v : Word) : State :=
  s.onK (fun s => if 2 ≤ e then s else s.unlocked (fun s =>
    if s.armed then s.cfgLocked
    else
      let w := v.toNat % 2 ^ 15 - v.toNat % 2 ^ 8 + v.toNat % 2 ^ 7
      let on := bitOf v.toNat 31
      if on && !s.eftOk v.toNat then s.raise EFT_CAUSE 3
      else
        let was := s.bit (eftEn e)
        let s := if was && !on then (s.eftEnd e (s.freeNat % 16)).took else s
        let s := s.setN (eftCfg e) (b2n on * 2 ^ 31 + w)
        if on && !was then
          let s := (s.setN (eftCfg e + 4) 0).setN (eftCfg e + 8) 0
          ((s.setN (eftStatus e) 0).clearRange (eftLog e 0) (eftLog e 16)).setEft e {}
        else s))

/-- EFT_CFG_WRITE (R324, R327). -/
def execEftCfgWrite (e : Nat) (v : Word) (s : State) : Out := .next (s.eftCfgWrite e v)

/-- The step to which an instant belongs: the running one, the one before, or one that is closed; none before the leap that
begins the comparison (R326). -/
def State.stepAt (s : State) (first t : Nat) : Option Nat :=
  let one := stepBefore s.step
  if s.leap.firstLeap then none
  else if s.leap.firedAt ≤ t then some s.step
  else if s.step = first then none
  else if s.leap.firedPrev ≤ t then some one
  else if one = first then none
  else some (stepBefore one)

/-- Note the first mismatch of a step: (step, kind, queue, j). -/
def Eft.note (x : Eft) (step kind q j : Nat) : Eft :=
  if x.mism.any (fun m => m.1 == step) then x else { x with mism := x.mism ++ [(step, kind, q, j)] }

/-- Count of a side for a step and queue. -/
def cntOf (l : List (Nat × Nat × Nat)) (step q : Nat) : Nat :=
  match l.find? (fun y => y.1 == step && y.2.1 == q) with
  | some y => y.2.2
  | none => 0

/-- One more flit of a step and queue. -/
def cntUp (l : List (Nat × Nat × Nat)) (step q : Nat) : List (Nat × Nat × Nat) :=
  (step, q, cntOf l step q + 1) :: l.filter (fun y => !(y.1 == step && y.2.1 == q))

/-- The key of a flit (R326). -/
def eftKey (f : Flit) : Nat :=
  (crc32c ([BitVec.ofNat 8 f.typ, BitVec.ofNat 8 f.queue, BitVec.ofNat 8 f.plen] ++ f.payload.take f.plen)).toNat

/-- A DATA or EGG flit of one side: `fromE` tells the eft's (R326). -/
def Eft.flit (x : Eft) (fromE : Bool) (step q key : Nat) : Eft :=
  if step < x.closed then x.note x.closeStep 5 q 0
  else
    let j := cntOf (if fromE then x.cntE else x.cntQ) step q
    let x := if fromE then { x with cntE := cntUp x.cntE step q } else { x with cntQ := cntUp x.cntQ step q }
    let same := fun (k : EftKey) => k.step == step && k.queue == q && k.pos == j
    match (if fromE then x.keysQ else x.keysE).find? same with
    | some k =>
      let x := if fromE then { x with keysQ := x.keysQ.eraseP same } else { x with keysE := x.keysE.eraseP same }
      if k.key = key then x else x.note step 1 q j
    | none =>
      let own := if fromE then x.keysE else x.keysQ
      if 4096 ≤ own.length then x.note step 4 q j
      else if fromE then { x with keysE := own ++ [⟨step, q, j, key⟩] } else { x with keysQ := own ++ [⟨step, q, j, key⟩] }

/-- A message with DUE set to 0: of a CADD, of a barrier message. -/
def noDue (m : Msg) : Msg :=
  if mType m ≠ 3 then m
  else if mKind m = 0 then BitVec.ofNat 128 (insBits m.toNat 16 32 0) else BitVec.ofNat 128 (insBits m.toNat 48 32 0)

/-- Add to the sum of a step. -/
def sumUp (l : List (Nat × Nat)) (step v : Nat) : List (Nat × Nat) :=
  let old := match l.find? (fun y => y.1 == step) with
    | some y => y.2
    | none => 0
  (step, (old + v) % 2 ^ 32) :: l.filter (fun y => y.1 != step)

/-- An upward LEAP or SYNC message of one side (R326). -/
def Eft.msg (x : Eft) (fromE : Bool) (step : Nat) (m : Msg) : Eft :=
  let v := (crc32c (msgBytes (noDue m))).toNat
  if step < x.closed then x.note x.closeStep 5 0 0
  else if fromE then { x with sumE := sumUp x.sumE step v } else { x with sumQ := sumUp x.sumQ step v }

/-- The active entries that a port serves, and whether it is the eft's side. -/
def State.eftSides (s : State) (p : Nat) : List (Nat × Bool) :=
  if s.part.isK then
    (eftEntries.filter (fun e => s.bit (eftEn e) && s.bit (bitF (eftStatus e) 5))).filterMap (fun e =>
      if s.f (eftPortF e) = p then some (e, true) else if s.f (eftShadowF e) = p then some (e, false) else none)
  else []

/-- Compare a DATA or EGG flit of a port whose slot began at `began`. -/
def State.eftFlit (s : State) (p began : Nat) (f : Flit) : State :=
  s.each (s.eftSides p) (fun s a =>
    match s.stepAt (s.eft a.1).first began with
    | some n => s.setEft a.1 ((s.eft a.1).flit a.2 n f.queue (eftKey f))
    | none => s)

/-- Compare an upward LEAP or SYNC message of a port that belongs to an instant. -/
def State.eftMsgAt (s : State) (p at_ : Nat) (m : Msg) : State :=
  s.each (s.eftSides p) (fun s a =>
    match s.stepAt (s.eft a.1).first at_ with
    | some n => s.setEft a.1 ((s.eft a.1).msg a.2 n m)
    | none => s)

/-- Compare one that a flit has brought: it belongs to the instant at which the flit's slot began. -/
def State.eftMsg (s : State) (p slot : Nat) (m : Msg) : State := s.eftMsgAt p (s.slotBegan p slot) m

/-- The mismatch with which a step closes, if any: kind, queue, j. -/
def Eft.judge (x : Eft) (n : Nat) : Option (Nat × Nat × Nat) :=
  match x.mism.find? (fun m => m.1 == n) with
  | some m => some m.2
  | none =>
    match (List.range 64).find? (fun q => cntOf x.cntE n q != cntOf x.cntQ n q) with
    | some q => some (2, q, min (cntOf x.cntE n q) (cntOf x.cntQ n q))
    | none =>
      let sum := fun (l : List (Nat × Nat)) => match l.find? (fun y => y.1 == n) with
        | some y => y.2
        | none => 0
      if sum x.sumE = sum x.sumQ then none else some (3, 0, 0)

/-- Forget a closed step. -/
def Eft.close (x : Eft) (n : Nat) : Eft :=
  { x with
    keysE := x.keysE.filter (fun k => k.step != n), keysQ := x.keysQ.filter (fun k => k.step != n)
    cntE := x.cntE.filter (fun y => y.1 != n), cntQ := x.cntQ.filter (fun y => y.1 != n)
    sumE := x.sumE.filter (fun y => y.1 != n), sumQ := x.sumQ.filter (fun y => y.1 != n)
    mism := x.mism.filter (fun y => y.1 != n), closeStep := n + 1, closed := n + 1 }

/-- EFT_STEP_CLOSE (R326). -/
def execEftStepClose (e : Nat) (s : State) : Out :=
  .next (s.onK (fun s =>
    let x := s.eft e
    let n := x.closeStep
    let past := decide (n + 1 < s.step) || (decide (s.step = n + 1) && decide (s.leap.firedAt + 10000 * 65536 ≤ s.now))
    if decide (e < 2) && s.bit (eftEn e) && s.bit (bitF (eftStatus e) 5) && past then
      let s := s.setEft e (x.close n)
      match x.judge n with
      | none => ((s.inc (eftCfg e + 4)).inc (eftCfg e + 8)).ev 0xC0
      | some (k, q, j) =>
        let i := s.rn (eftStatus e) % 16
        let w0 := 2 ^ 31 + k * 2 ^ 27 + q % 64 * 2 ^ 21 + min j (2 ^ 21 - 1)
        let s := ((s.inc (eftCfg e + 0xC)).setN (eftCfg e + 8) 0).setF ⟨eftStatus e, 0, 4⟩ (i + 1)
        let s := ((s.setN (eftLog e i) w0).setR64 (eftLog e i + 4) n).setN (eftLog e i + 0xC) s.nsField
        let s := s.logDma 3 (e * 16 + i) [w0, n % 2 ^ 32, n / 2 ^ 32 % 2 ^ 32, s.nsField]
        let s := ((s.raise EFT_CAUSE 1).log 14 (e * 2 ^ 16 + k)).snapshot 14 k
        (s.ev 0xC1).setRpt (fun x => { x with eftMism := true })
    else s))

end Sys2Proof.Machine
end

