-- ==== Sys2Proof/Machine/Arith.lean ====
section
/-! DEFINITION. The arithmetic of the tiles (R234 to R245): exact values, the element formats and their conversion,
block scales, and the exact accumulator. -/

namespace Sys2Proof.Machine

/-- A value: NaN, an infinity, or a finite dyadic number m × 2^e with a sign (−0 is told from +0). -/
inductive Val where
  | nan
  | inf (neg : Bool)
  | fin (neg : Bool) (m : Nat) (e : Int)
  deriving DecidableEq, Repr

/-- An element format of Table TIL-3: precision, exponent of the smallest subnormal, largest finite value m × 2^e,
width in bits; whether it has infinities. INT8 is code 4. -/
structure Fmt where
  bits : Nat
  prec : Nat
  emin : Int
  maxM : Nat
  maxE : Int
  inf : Bool
  nan : Nat
  deriving DecidableEq, Repr

/-- Table TIL-3 by FMT [2:0]. -/
def fmtOf (c : Nat) : Fmt :=
  match c % 8 with
  | 0 => { bits := 4, prec := 2, emin := -1, maxM := 3, maxE := 1, inf := false, nan := 0 }
  | 1 => { bits := 6, prec := 3, emin := -4, maxM := 7, maxE := 2, inf := false, nan := 0 }
  | 2 => { bits := 8, prec := 4, emin := -9, maxM := 14, maxE := 5, inf := false, nan := 0x7F }
  | 3 => { bits := 8, prec := 3, emin := -16, maxM := 7, maxE := 13, inf := true, nan := 0x7E }
  | 4 => { bits := 8, prec := 8, emin := 0, maxM := 127, maxE := 0, inf := false, nan := 0 }
  | 5 => { bits := 16, prec := 8, emin := -133, maxM := 255, maxE := 120, inf := true, nan := 0x7FC0 }
  | 6 => { bits := 16, prec := 11, emin := -24, maxM := 2047, maxE := 5, inf := true, nan := 0x7E00 }
  | _ => { bits := 32, prec := 24, emin := -149, maxM := 16777215, maxE := 104, inf := true, nan := 0x7FC00000 }

/-- FP32. -/
def fp32 : Nat := 7

/-- Block scales accompany the elements: bit [3] of FMT. -/
def isScaled (c : Nat) : Bool := bitOf c 3

/-- The value of an element, without its scale (R234). -/
def decodeElem (c x : Nat) : Val :=
  let f := fmtOf c
  if c % 8 = 4 then
    let v := signed 8 x
    .fin (decide (v < 0)) v.natAbs (if isScaled c then -6 else 0)
  else
    let neg := bitOf x (f.bits - 1)
    let mag := x % 2 ^ (f.bits - 1)
    let top := 2 ^ (f.prec - 1)
    let ex := mag / top
    let fr := mag % top
    if f.inf && ex == 2 ^ (f.bits - f.prec) - 1 then (if fr = 0 then .inf neg else .nan)
    else if c % 8 = 2 ∧ mag = 0x7F then .nan
    else if ex = 0 then .fin neg fr f.emin
    else .fin neg (top + fr) (f.emin + ex - 1)

/-- Is it a zero? -/
def Val.isZero : Val → Bool
  | .fin _ m _ => m == 0
  | _ => false

/-- Is it NaN? -/
def Val.isNan (v : Val) : Bool := v == .nan

/-- Negation. -/
def Val.negate : Val → Val
  | .nan => .nan
  | .inf n => .inf (!n)
  | .fin n m e => .fin (!n) m e

/-- Exact product; ∞ × 0 is NaN (IEEE 754). -/
def Val.mul : Val → Val → Val
  | .nan, _ => .nan
  | _, .nan => .nan
  | .inf a, .inf b => .inf (a != b)
  | .inf a, .fin b m _ => if m = 0 then .nan else .inf (a != b)
  | .fin a m _, .inf b => if m = 0 then .nan else .inf (a != b)
  | .fin a m e, .fin b n f => .fin (a != b) (m * n) (e + f)

/-- The integer that a finite value is in units of 2^k, for k at or below its exponent. -/
def scaleTo (neg : Bool) (m : Nat) (e k : Int) : Int :=
  let v : Int := (m : Int) * 2 ^ (e - k).toNat
  if neg then -v else v

/-- Exact sum; +∞ + −∞ is NaN, and an exact zero is −0 only where both are −0 (IEEE 754, to nearest). -/
def Val.add : Val → Val → Val
  | .nan, _ => .nan
  | _, .nan => .nan
  | .inf a, .inf b => if a = b then .inf a else .nan
  | .inf a, _ => .inf a
  | _, .inf b => .inf b
  | .fin a m e, .fin b n f =>
    let k := min e f
    let v := scaleTo a m e k + scaleTo b n f k
    if v = 0 then .fin (a && b) 0 k else .fin (decide (v < 0)) v.natAbs k

/-- Less than, on numbers (−0 equals +0). -/
def Val.lt : Val → Val → Bool
  | .nan, _ => false
  | _, .nan => false
  | .inf a, .inf b => a && !b
  | .inf a, .fin .. => a
  | .fin .., .inf b => !b
  | .fin a m e, .fin b n f => decide (scaleTo a m e (min e f) < scaleTo b n f (min e f))

/-- Sign of a value. -/
def Val.neg : Val → Bool
  | .nan => false
  | .inf n => n
  | .fin n _ _ => n

/-- The larger value; NaN if either is NaN, and +0 is above −0 (R250). -/
def Val.max (a b : Val) : Val :=
  if a.isNan || b.isNan then .nan
  else if a.lt b then b else if b.lt a then a else if a.neg then b else a

/-- The smaller value (R250). -/
def Val.min (a b : Val) : Val := ((a.negate).max b.negate).negate

/-- m / 2^d rounded to nearest, ties to even. -/
def rne (m d : Nat) : Nat :=
  let q := m / 2 ^ d
  let r := 2 * (m % 2 ^ d)
  if r > 2 ^ d ∨ (r = 2 ^ d ∧ q % 2 = 1) then q + 1 else q

/-- Round a non-zero m × 2^e to `prec` bits, not below the unit 2^emin: the rounded mantissa and its exponent, with the
mantissa below 2^prec. -/
def roundMant (prec : Nat) (emin : Int) (m : Nat) (e : Int) : Nat × Int :=
  let top : Int := e + (m.log2 : Int)
  let q := Max.max (top - ((prec : Int) - 1)) emin
  if q ≤ e then (m * 2 ^ (e - q).toNat, q)
  else
    let r := rne m (q - e).toNat
    if r = 2 ^ prec then (r / 2, q + 1) else (r, q)

/-- A finite magnitude lies beyond the largest finite value of a format. -/
def beyond (f : Fmt) (m : Nat) (e : Int) : Bool :=
  let k := min e f.maxE
  decide (f.maxM * 2 ^ (f.maxE - k).toNat < m * 2 ^ (e - k).toNat)

/-- A converted element: its code, and whether NUM_INVALID or NUM_SAT is raised. -/
structure Conv where
  code : Nat
  invalid : Bool := false
  sat : Bool := false
  deriving DecidableEq, Repr

/-- The code of a sign and a magnitude code. -/
def withSign (f : Fmt) (neg : Bool) (mag : Nat) : Nat := b2n neg * 2 ^ (f.bits - 1) + mag

/-- The magnitude code of the largest finite value. -/
def maxCode (c : Nat) : Nat :=
  let f := fmtOf c
  match c % 8 with
  | 2 => 0x7E
  | 4 => 127
  | 0 | 1 => 2 ^ (f.bits - 1) - 1
  | _ => (2 ^ (f.bits - f.prec) - 1) * 2 ^ (f.prec - 1) - 1

/-- Conversion of a value to INT8, an integer or a multiple of 2^−6 when scaled (Table TIL-5). -/
def convInt8 (scaled : Bool) : Val → Conv
  | .nan => { code := 0, invalid := true }
  | .inf n => { code := if n then 0x81 else 0x7F, invalid := true }
  | .fin n m e =>
    let e := if scaled then e + 6 else e
    let r := if 0 ≤ e then m * 2 ^ e.toNat else rne m (-e).toNat
    if n then (if 128 < r then { code := 0x80, sat := true } else { code := (256 - r) % 256 })
    else if 127 < r then { code := 127, sat := true } else { code := r }

/-- Conversion to a target format by Table TIL-5. −∞ to INT8 gives −127, minus the largest finite value of Table TIL-3. -/
def convert (c : Nat) (v : Val) : Conv :=
  if c % 8 = 4 then convInt8 (isScaled c) v
  else
    let f := fmtOf c
    let infCode := (2 ^ (f.bits - f.prec) - 1) * 2 ^ (f.prec - 1)
    match v with
    | .nan => if c % 8 = 0 ∨ c % 8 = 1 then { code := 0, invalid := true } else { code := f.nan }
    | .inf n =>
      if f.inf then { code := withSign f n infCode }
      else if c % 8 = 2 then { code := 0x7F, invalid := true }
      else { code := withSign f n (maxCode c), invalid := true }
    | .fin n m e =>
      if m = 0 then { code := withSign f n 0 }
      else
        let r := roundMant f.prec f.emin m e
        if beyond f r.1 r.2 then
          if f.inf then { code := withSign f n infCode } else { code := withSign f n (maxCode c), sat := true }
        else { code := withSign f n ((r.2 - f.emin).toNat * 2 ^ (f.prec - 1) + r.1) }

/-- One rounding to FP32 (R237): the FP32 value. -/
def round32 (v : Val) : Val := decodeElem fp32 (convert fp32 v).code

/-- The FP32 code of a value. -/
def code32 (v : Val) : Word := BitVec.ofNat 32 (convert fp32 v).code

/-- The value of an FP32 word. -/
def val32 (w : Nat) : Val := decodeElem fp32 w

/-- +0. -/
def vZero : Val := .fin false 0 0

/-- Quotient rounded once to FP32: at least 26 significant bits and a sticky bit (R252). -/
def divRound32 (a b : Val) : Val :=
  match a, b with
  | .nan, _ => .nan
  | _, .nan => .nan
  | .inf _, .inf _ => .nan
  | .inf x, .fin y _ _ => .inf (x != y)
  | .fin x _ _, .inf y => .fin (x != y) 0 0
  | .fin x m e, .fin y n f =>
    if n = 0 then (if m = 0 then .nan else .inf (x != y))
    else
      let k := n.log2 + 300
      let q := m * 2 ^ k / n
      let s := if m * 2 ^ k % n = 0 then 0 else 1
      round32 (.fin (x != y) (2 * q + s) (e - f - k - 1))

/-! ### exp, log and reciprocal of the VU (R245, R250) -/

/-- One in the fixed point of 256 fractional bits. -/
def fixOne : Nat := 2 ^ 256

/-- The sum of z^(2i+1) / (2i+1) from the term t, in fixed point: artanh z for t = z. -/
def artanhSum (zz : Nat) : Nat → Nat → Nat → Nat
  | 0, _, _ => 0
  | n + 1, i, t => t / (2 * i + 1) + artanhSum zz n (i + 1) (t * zz / fixOne)

/-- 2 artanh z for z below 1/3, in fixed point. -/
def twoArtanh (z : Nat) : Nat := 2 * artanhSum (z * z / fixOne) 90 0 z

/-- ln 2 in fixed point. -/
def fixLn2 : Nat := twoArtanh (fixOne / 3)

/-- The sum of r^i / i! from the term t, in fixed point: e^r for t = 1. -/
def expSum (r : Nat) : Nat → Nat → Nat → Nat
  | 0, _, _ => 0
  | n + 1, i, t => t + expSum r n (i + 1) (t * r / (fixOne * (i + 1)))

/-- e^x of a non-zero finite x, to 250 bits: beyond 128 and -256 the FP32 result is that of the bound. -/
def expVal (n : Bool) (m : Nat) (e : Int) : Val :=
  let x := scaleTo n m (max e (-256)) (-256)
  let x := max (-256 * (fixOne : Int)) (min (128 * (fixOne : Int)) x)
  let k := x / (fixLn2 : Int)
  .fin false (expSum (x - k * fixLn2).toNat 64 0 fixOne) (k - 256)

/-- ln of a positive finite value, to 240 bits. -/
def lnVal (m : Nat) (e : Int) : Val :=
  let t := m.log2
  let z := (m - 2 ^ t) * fixOne / (m + 2 ^ t)
  let v : Int := (e + t) * fixLn2 + twoArtanh z
  .fin (decide (v < 0)) v.natAbs (-256)

/-- FP32 codes in the order of the values they stand for, and back. -/
def ordOf (w : Nat) : Int := if 2 ^ 31 ≤ w then -((w - 2 ^ 31 : Nat) : Int) else w
def ofOrd (z : Int) : Nat := if z < 0 then 2 ^ 31 + z.natAbs else z.natAbs

/-- A value within 1 ulp of the FP32 result v of a VU function, no lower than `lo` and no higher than `hi` in the order of
codes (R245, log entry 71); a result that overflows is the infinity. -/
def vuNear (fn : Nat) (x : Word) (lo hi : Int) (v : Val) : Val :=
  match round32 v with
  | .fin a m e =>
    let d : Int := (Config.vuUlp fn x % 3 : Nat) - 1
    val32 (ofOrd (max lo (min hi (ordOf (code32 (.fin a m e)).toNat + d))))
  | w => w

/-- +1. -/
def vOne : Val := .fin false 1 0

/-- The FP32 code of the largest value, the infinity, and of 1. -/
def ordInf : Int := 0x7F800000
def ordOne : Int := 0x3F800000

/-- exp, log and reciprocal of the VU: fixed functions within 1 ulp, with the special cases of R250. exp(±0) is 1, and exp
of a negative value is at most 1 (R281: a row sum of T terms lies between 1 and T). -/
def vuApply (fn : Nat) (x : Val) : Val :=
  match x with
  | .nan => .nan
  | .inf n =>
    if fn = 9 then (if n then vZero else .inf false)
    else if fn = 10 then (if n then .nan else .inf false)
    else .fin n 0 0
  | .fin n m e =>
    if fn = 9 then (if m = 0 then vOne else vuNear fn (code32 x) 0 (if n then ordOne else ordInf) (expVal n m e))
    else if fn = 10 then
      if m = 0 then .inf true else if n then .nan else vuNear fn (code32 x) (-ordInf) ordInf (lnVal m e)
    else if m = 0 then .inf n
    else vuNear fn (code32 x) (if n then -ordInf else 0) (if n then 0 else ordInf) (divRound32 vOne x)

/-! ### Elements in memory (R235, R236) -/

/-- Bytes that n elements of a format take. -/
def elemBytes (c n : Nat) : Nat := ceilDiv (n * (fmtOf c).bits) 8

/-- The distance of two rows: a row begins at a 32-byte boundary. -/
def rowBytes (c n : Nat) : Nat := ceilDiv (elemBytes c n) 32 * 32

/-- Scale bytes of a row of n elements, and the distance of two rows of scales. -/
def scaleRow (n : Nat) : Nat := ceilDiv (ceilDiv n 32) 32 * 32

/-- Element i of packed bytes. -/
def unpackElem (c : Nat) (bs : List Byte) (i : Nat) : Nat :=
  let w := (fmtOf c).bits
  let o := i * w / 8
  bitsOf (leNat ((bs.drop o).take 5)) (i * w % 8) w

/-- The little-endian number that codes of w bits form. -/
def packNat (w : Nat) : List Nat → Nat
  | [] => 0
  | x :: t => x % 2 ^ w + 2 ^ w * packNat w t

/-- Packed bytes of codes. -/
def packElems (c : Nat) (l : List Nat) : List Byte :=
  let w := (fmtOf c).bits
  leBytes (ceilDiv (l.length * w) 8) (packNat w l)

/-- The value of an E8M0 scale. -/
def scaleVal (x : Nat) : Val := if x = 0xFF then .nan else .fin false 1 ((x : Int) - 127)

/-- The values of n packed elements, each multiplied exactly by the scale of its block where the format is scaled. -/
def readVals (c n : Nat) (bs scales : List Byte) : List Val :=
  (List.range n).map (fun i =>
    let v := decodeElem c (unpackElem c bs i)
    if isScaled c then v.mul (scaleVal (scales.getD (i / 32) 0).toNat) else v)

/-! ### Output (R237, R238) -/

/-- Converted output: the packed bytes, the scale bytes, and how many NUM_INVALID and NUM_SAT events came. -/
structure Outp where
  bytes : List Byte
  scales : List Byte := []
  invalid : Nat := 0
  sat : Nat := 0
  deriving DecidableEq, Repr

/-- floor(log2 |v|) of a finite non-zero value. -/
def Val.log2 : Val → Option Int
  | .fin _ m e => if m = 0 then none else some (e + (m.log2 : Int))
  | _ => none

/-- E of R238 by format. -/
def scaleExp (c : Nat) : Int := match c % 8 with | 0 => 2 | 1 => 4 | 2 => 8 | 3 => 15 | _ => 0

/-- One block of 32 values (R238): its scale byte and converted elements. -/
def convBlock (c : Nat) (vs : List Val) : Nat × List Conv :=
  let f := fmtOf c
  let special := vs.any (fun v => match v with | .fin .. => false | _ => true)
  if special then (0xFF, vs.map (fun _ => { code := 0 }))
  else
    match vs.filterMap Val.log2 with
    | [] => (0, vs.map (fun v => { code := if c % 8 = 4 then 0 else withSign f v.neg 0 }))
    | x :: t =>
      let top := t.foldl (fun a b => if a < b then b else a) x - scaleExp c
      let X := max (-127) (min 127 top)
      ((X + 127).toNat, vs.map (fun v => convert c (v.mul (.fin false 1 (-X)))))

/-- The blocks of a row. -/
def blocksOf : Nat → List Val → List (List Val)
  | 0, _ => []
  | n + 1, l => l.take 32 :: blocksOf n (l.drop 32)

/-- Convert a row of values to a target format. -/
def convRow (c : Nat) (vs : List Val) : Outp :=
  let cs : List Nat × List Conv :=
    if isScaled c then
      let b := (blocksOf (ceilDiv vs.length 32) vs).map (convBlock c)
      (b.map (·.1), b.flatMap (·.2))
    else ([], vs.map (convert c))
  { bytes := packElems c (cs.2.map (·.code)), scales := cs.1.map (BitVec.ofNat 8)
    invalid := (cs.2.filter (·.invalid)).length, sat := (cs.2.filter (·.sat)).length }

/-! ### The exact accumulator (R241 to R244) -/

/-- One contribution (R242, R244), and whether it raised NUM_INVALID. -/
def XAcc.add (x : XAcc) (v : Val) : XAcc × Bool :=
  if 2 ^ 24 ≤ x.cnt then ({ x with nan := true }, true)
  else
    let x := { x with cnt := x.cnt + 1 }
    (match v with
      | .nan => { x with nan := true }
      | .inf n => if n then { x with ninf := true } else { x with pinf := true }
      | .fin n m e =>
        if n ∧ m = 0 then x else { x with nz := false, value := x.value + BitVec.ofInt 320 (scaleTo n m e (-149)) },
      false)

/-- What an accumulator yields (R243). -/
def XAcc.out (x : XAcc) : Val :=
  if x.nan || (x.pinf && x.ninf) then .nan
  else if x.pinf then .inf false
  else if x.ninf then .inf true
  else
    let v := x.value.toInt
    if v = 0 then .fin (x.nz && decide (1 ≤ x.cnt)) 0 (-149) else .fin (decide (v < 0)) v.natAbs (-149)

end Sys2Proof.Machine
end

