-- ==== Sys2Proof/Machine/Desc.lean ====
section
/-! DEFINITION. Tile descriptors (Tables TIL-6 to TIL-8): their fields, the checks of R261 that one descriptor can be
held to, the memory they touch and their durations. -/

namespace Sys2Proof.Machine

/-- Bits [hi:lo] of a descriptor. -/
def fd (d hi lo : Nat) : Nat := bitsOf d lo (hi + 1 - lo)

/-- OP of a descriptor. -/
def dOp (d : Nat) : Nat := fd d 255 250
def dFence (d : Nat) : Bool := bitOf d 249
def dLidx (d : Nat) : Bool := bitOf d 248
def dDoneEn (d : Nat) : Bool := bitOf d 247
def dDoneK (d : Nat) : Nat := fd d 246 241

/-- The OP codes of Table TIL-6. -/
def opLOAD : Nat := 1
def opSTORE : Nat := 2
def opMATMUL : Nat := 3
def opVECTOR : Nat := 4
def opSOFTMAX : Nat := 5
def opMERGE : Nat := 6
def opREDUCE : Nat := 7
def opTOPK : Nat := 8
def opSEND : Nat := 9
def opRECV : Nat := 10
def opSIGNAL : Nat := 11
def opWATCH : Nat := 12
def opLOOP : Nat := 13

/-- The unit of a descriptor (Table TIL-1): 0 MX, 1 VU, 2 RU, 3 LS, 4 SQ. -/
def unitOf (op : Nat) : Nat :=
  match op with
  | 3 => 0
  | 4 | 5 | 6 | 8 => 1
  | 7 => 2
  | 1 | 2 | 9 | 10 => 3
  | _ => 4

/-- The first three address fields of a descriptor, in the order of Table TIL-8: lowest bit and width. -/
def addrFields (op : Nat) : List (Nat × Nat) :=
  match op with
  | 1 | 2 => [(213, 27), (173, 40)]
  | 4 => [(207, 27), (180, 27), (153, 27)]
  | 3 | 5 | 6 | 7 | 8 => [(213, 27), (186, 27), (159, 27)]
  | 9 | 10 => [(213, 27)]
  | _ => []

/-- Which of these fields a descriptor uses. -/
def usedFields (d : Nat) : List Bool :=
  match dOp d with
  | 1 | 2 => [fd d 170 144 != 0, fd d 170 144 != 0]
  | 4 => [true, decide (1 ≤ fd d 239 234) && decide (fd d 239 234 ≤ 6), true]
  | 7 => [true, isScaled (fd d 95 92), fd d 87 86 == 0 || fd d 87 86 == 3]
  | 8 => [true, bitOf d 94, true]
  | _ => [true, true, true]

/-- Add offsets, in bytes, to the address fields of a descriptor (R259). -/
def addOffsets (d : Nat) (o : List Int) : Nat :=
  ((addrFields (dOp d)).zip o).foldl (fun d x =>
    let w := x.1.2
    insBits d x.1.1 w (unsignedOf w ((bitsOf d x.1.1 w : Int) + x.2))) d

/-- LOOP: the body length, the count and the strides in bytes. -/
def loopBody (d : Nat) : Nat := fd d 239 232
def loopCount (d : Nat) : Nat := fd d 231 208
def loopStrides (d : Nat) : List Int :=
  [32 * signed 24 (fd d 207 184), 32 * signed 24 (fd d 183 160), 32 * signed 24 (fd d 159 136)]

/-- A format code that Table TIL-3 allows. -/
def fmtValid (c : Nat) : Bool := decide (c < 8) || decide (8 ≤ c ∧ c ≤ 12)

/-- FC of MATMUL, and FO1, FO2, FOD of MERGE, as FMT codes. -/
def fcFmt (c : Nat) : Nat := match c with | 0 => 7 | 1 => 5 | _ => 6
def foFmt (c : Nat) : Nat := if c = 0 then 7 else 5

/-- A scaled operand's dimension is a multiple of 32 (R236). -/
def blockOk (c n : Nat) : Bool := !isScaled c || n % 32 == 0

/-- VECTOR functions that take a scaled source (R250). -/
def scaledFunc (f : Nat) : Bool := f == 0 || f == 7 || f == 8 || f == 9 || f == 10 || f == 11

/-- Every field of a descriptor lies in its range (Table TIL-8, R261). -/
def fieldsOk (d : Nat) : Bool :=
  match dOp d with
  | 1 =>
    decide (fd d 172 171 ≤ 1) && fd d 170 144 % 32 == 0 && (fd d 172 171 == 1 || decide (fd d 212 173 < 2 ^ 33)) &&
      (!bitOf d 143 || (fd d 172 171 == 1 && fd d 239 213 % 65536 == 0 && fd d 170 144 % 65536 == 0))
  | 2 =>
    decide (fd d 172 171 ≤ 1) && fd d 170 144 % 32 == 0 && (fd d 172 171 == 1 || decide (fd d 212 173 < 2 ^ 33)) &&
      !bitOf d 143
  | 3 =>
    decide (1 ≤ fd d 104 93) && decide (1 ≤ fd d 92 81) && decide (1 ≤ fd d 80 65) && fmtValid (fd d 64 61) &&
      fmtValid (fd d 60 57) && decide (fd d 56 55 ≤ 2) && blockOk (fd d 64 61) (fd d 80 65) && blockOk (fd d 60 57) (fd d 80 65)
  | 4 =>
    decide (fd d 239 234 ≤ 11) && decide (1 ≤ fd d 152 129) && fmtValid (fd d 128 125) && fmtValid (fd d 124 121) &&
      (!isScaled (fd d 128 125) || scaledFunc (fd d 239 234)) && blockOk (fd d 128 125) (fd d 152 129) &&
      blockOk (fd d 124 121) (fd d 152 129)
  | 5 =>
    decide (1 ≤ fd d 158 147) && decide (1 ≤ fd d 146 123) &&
      (fd d 122 119 == 2 || fd d 122 119 == 3 || fd d 122 119 == 5 || fd d 122 119 == 6 || fd d 122 119 == 7)
  | 6 =>
    decide (1 ≤ fd d 77 66) && decide (1 ≤ fd d 65 54) && decide (fd d 53 52 ≤ 1) && decide (fd d 51 50 ≤ 1) &&
      decide (fd d 49 48 ≤ 1)
  | 7 =>
    decide (1 ≤ fd d 119 96) && fmtValid (fd d 95 92) && fmtValid (fd d 91 88) && blockOk (fd d 95 92) (fd d 131 120 + 1) &&
      blockOk (fd d 91 88) (fd d 131 120 + 1)
  | 8 =>
    decide (1 ≤ fd d 131 108) && decide (1 ≤ fd d 107 99) && decide (fd d 107 99 ≤ 256) &&
      (fd d 98 95 == 5 || fd d 98 95 == 6 || fd d 98 95 == 7)
  | 9 =>
    decide (fd d 212 206 ≤ 71) && decide (1 ≤ fd d 199 176) && decide (1 ≤ fd d 175 168) && decide (fd d 175 168 ≤ 240)
  | 10 => decide (fd d 212 206 ≤ 71) && decide (1 ≤ fd d 199 176) && decide (fd d 175 170 ≤ 47)
  | 11 => decide (fd d 210 205 ≤ 47) && decide (1 ≤ fd d 204 197)
  | 12 =>
    if fd d 239 238 = 0 then decide (fd d 237 230 < 64) && decide (fd d 229 224 ≤ 47)
    else bitOf d 223 || decide (fd d 222 217 < 16)
  | 13 => decide (1 ≤ loopBody d) && decide (1 ≤ loopCount d)
  | _ => false

/-- n rows of a stride, the last one of m bytes. -/
def rowsLen (n stride m : Nat) : Nat := if n = 0 then 0 else (n - 1) * stride + m

/-- A matrix of rows in a format: address and length. -/
def matRange (a c rows cols : Nat) : Nat × Nat := (a, rowsLen rows (rowBytes c cols) (elemBytes c cols))

/-- The scales of rows, nothing where the format has none. -/
def scaleRange (a c rows cols : Nat) : Nat × Nat :=
  (a, if isScaled c then rowsLen rows (scaleRow cols) (ceilDiv cols 32) else 0)

/-- The local ranges that a descriptor reads. -/
def descReads (d : Nat) : List (Nat × Nat) :=
  match dOp d with
  | 2 => [(fd d 239 213, fd d 170 144)]
  | 3 =>
    let m := fd d 104 93
    let n := fd d 92 81
    let k := fd d 80 65
    [matRange (fd d 239 213) (fd d 64 61) m k, scaleRange (fd d 158 132) (fd d 64 61) m k,
      (if bitOf d 53 then matRange (fd d 212 186) (fd d 60 57) k n else matRange (fd d 212 186) (fd d 60 57) n k),
      scaleRange (fd d 131 105) (fd d 60 57) n k] ++
      (if bitOf d 54 then [matRange (fd d 185 159) (fcFmt (fd d 56 55)) m n] else [])
  | 4 =>
    let n := fd d 152 129
    let c := fd d 128 125
    let f := fd d 239 234
    [matRange (fd d 233 207) c 1 n, scaleRange (fd d 88 62) c 1 n] ++
      (if (1 ≤ f ∧ f ≤ 6) then [matRange (fd d 206 180) c 1 n] else []) ++
      (if f = 4 then [matRange (fd d 179 153) (fd d 124 121) 1 n, scaleRange (fd d 61 35) (fd d 124 121) 1 n] else [])
  | 5 => [matRange (fd d 239 213) fp32 (fd d 158 147) (fd d 146 123)]
  | 6 =>
    let r := fd d 77 66
    let n := fd d 65 54
    [matRange (fd d 239 213) (foFmt (fd d 53 52)) r n, (fd d 212 186, 8 * r),
      matRange (fd d 185 159) (foFmt (fd d 51 50)) r n, (fd d 158 132, 8 * r)]
  | 7 =>
    let n := fd d 131 120 + 1
    [matRange (fd d 239 213) (fd d 95 92) (fd d 119 96) n, scaleRange (fd d 212 186) (fd d 95 92) (fd d 119 96) n]
  | 8 =>
    [matRange (fd d 239 213) (fd d 98 95) 1 (fd d 131 108)] ++
      (if bitOf d 94 then [(fd d 212 186, 4 * fd d 131 108)] else [])
  | 9 => [(fd d 239 213, 240 * fd d 199 176)]
  | _ => []

/-- The local ranges that a descriptor writes. -/
def descWrites (d : Nat) : List (Nat × Nat) :=
  match dOp d with
  | 1 => [(fd d 239 213, fd d 170 144)]
  | 3 => [matRange (fd d 185 159) (fcFmt (fd d 56 55)) (fd d 104 93) (fd d 92 81)]
  | 4 => [matRange (fd d 179 153) (fd d 124 121) 1 (fd d 152 129), scaleRange (fd d 61 35) (fd d 124 121) 1 (fd d 152 129)]
  | 5 => [matRange (fd d 212 186) (fd d 122 119) (fd d 158 147) (fd d 146 123), (fd d 185 159, 8 * fd d 158 147)]
  | 6 => [matRange (fd d 131 105) (foFmt (fd d 49 48)) (fd d 77 66) (fd d 65 54), (fd d 104 78, 8 * fd d 77 66)]
  | 7 =>
    let n := fd d 131 120 + 1
    if fd d 87 86 = 0 ∨ fd d 87 86 = 3 then
      [matRange (fd d 185 159) (fd d 91 88) 1 n, scaleRange (fd d 158 132) (fd d 91 88) 1 n]
    else []
  | 8 => [matRange (fd d 185 159) (fd d 98 95) 1 (fd d 107 99), (fd d 158 132, 4 * fd d 107 99)]
  | 10 => [(fd d 239 213, 240 * fd d 199 176)]
  | _ => []

/-- A local range is 32-byte aligned and lies in the tile's memory; an empty one is not touched. -/
def rangeOk (x : Nat × Nat) : Bool := x.2 == 0 || (x.1 % 32 == 0 && decide (x.1 + x.2 ≤ tileBytes))

/-- The far range of LOAD and STORE lies in its space. -/
def farOk (d : Nat) : Bool :=
  if dOp d = 1 ∨ dOp d = 2 then
    fd d 212 173 % 32 == 0 &&
      decide (fd d 212 173 + fd d 170 144 ≤ (if fd d 172 171 = 1 then stackBytes else 64 * tileBytes))
  else true

/-- A descriptor that the device can run: its fields and the memory it touches. -/
def descOk (d : Nat) : Bool := fieldsOk d && (descReads d).all rangeOk && (descWrites d).all rangeOk && farOk d

/-! ### Durations (Tables TIL-2, TIL-7) -/

/-- ns of a transfer of n bytes by a contract: stack space with a share, or bonded memory (Table TIL-2, R233). -/
def transferNs (stack : Bool) (share n : Nat) : Nat :=
  if stack then 800 + ceilDiv (n * 64) (675 * share) else 200 + ceilDiv n 768

/-- w of MATMUL: the weight of the wider format. -/
def macWeight (c : Nat) : Nat := match c % 8 with | 0 => 1 | 1 | 2 | 3 | 4 => 2 | 5 | 6 => 4 | _ => 16

/-- Duration in tile cycles of the units MX, VU and RU. -/
def descCycles (d : Nat) : Nat :=
  match dOp d with
  | 3 =>
    ceilDiv (ceilDiv (fd d 104 93) 128 * ceilDiv (fd d 92 81) 128) 4 * fd d 80 65 *
      max (macWeight (fd d 64 61)) (macWeight (fd d 60 57)) + 24
  | 4 => ceilDiv (fd d 152 129) 256 * (if 9 ≤ fd d 239 234 then 4 else 1) + 16
  | 5 => fd d 158 147 * ceilDiv (fd d 146 123) 256 * 6 + 24
  | 6 => fd d 77 66 * (ceilDiv (fd d 65 54) 256 * 2 + 8) + 24
  | 7 =>
    let n := ceilDiv (fd d 131 120 + 1) 64
    n * fd d 119 96 + 12 + (if fd d 87 86 = 0 ∨ fd d 87 86 = 3 then n + 8 else 0)
  | 8 => ceilDiv (fd d 131 108) 256 * 2 + fd d 107 99 + 16
  | _ => 1

end Sys2Proof.Machine
end

