-- ==== Sys2Proof/Machine/Compute.lean ====
section
/-! DEFINITION. What the units of a tile compute (R240, R249 to R254): MATMUL, VECTOR, SOFTMAX_PART, MERGE, REDUCE and
TOPK on the tile's memory, and the copies of LOAD and STORE. -/

namespace Sys2Proof.Machine

/-- The logical tile of a physical tile; none for a spare (R227). Before a structure image, an entry that holds 0 has not
been set. -/
def State.logicalOf (s : State) (t : Nat) : Option Nat :=
  (List.range 64).find? (fun l => s.physOf l == t && (s.bit STRUCT_VALID || t != 0))

/-- The instance that tile events name: the logical tile, 0x7F for a spare (Table FLT-9). -/
def State.tileInst (s : State) (t : Nat) : Nat := (s.logicalOf t).getD 0x7F

/-- NUM_INVALID and NUM_SAT events of a tile (Table TIL-5). -/
def State.numEvents (s : State) (t inv sat : Nat) : State :=
  let s := if inv = 0 then s else s.raise (tileReg t 4) 6
  let s := if sat = 0 then s else s.raise (tileReg t 4) 7
  if inv + sat = 0 then s else (s.addN (tileReg t 0x2C) (inv + sat)).evN 0x4A (s.tileInst t) (inv + sat)

/-- Write a row of values to local memory in a format, with its scales. -/
def State.putRow (s : State) (t c a sa : Nat) (vs : List Val) : State :=
  let o := convRow c vs
  let s := s.tWrite t a o.bytes
  let s := if isScaled c then s.tWrite t sa o.scales else s
  s.numEvents t o.invalid o.sat

/-- Elements of a row, without block scales. -/
def State.rowElems (s : State) (t c a n : Nat) : List Val :=
  let bs := s.tRead t a (elemBytes c n)
  (List.range n).map (fun i => decodeElem c (unpackElem c bs i))

/-- The scale bytes of a row. -/
def State.rowScales (s : State) (t c a n : Nat) : List Nat :=
  if isScaled c then (s.tRead t a (ceilDiv n 32)).map (·.toNat) else []

/-- The values of a row, each multiplied exactly by the scale of its block. -/
def State.rowVals (s : State) (t c a sa n : Nat) : List Val :=
  let sc := s.rowScales t c sa n
  let vs := s.rowElems t c a n
  if isScaled c then vs.zipIdx.map (fun x => x.1.mul (scaleVal (sc.getD (x.2 / 32) 0))) else vs

/-- An exact sum (R240). -/
def exactSum (l : List Val) : Val := l.foldl Val.add (.fin true 0 0)

/-- One chunk of MATMUL: the exact sum of products, times the scales of the chunk, rounded once to FP32. -/
def chunkSum (as bs : List Val) (sa sb : Option Nat) : Val :=
  let s := exactSum ((as.zip bs).map (fun x => x.1.mul x.2))
  let s := match sa with
    | some x => s.mul (scaleVal x)
    | none => s
  let s := match sb with
    | some x => s.mul (scaleVal x)
    | none => s
  round32 s

/-- acc over the chunks of K in order (R240). -/
def macChunks : Nat → List Val → List Val → List Nat → List Nat → Val → Val
  | 0, _, _, _, _, acc => acc
  | f + 1, as, bs, sa, sb, acc =>
    if as.isEmpty then acc
    else
      let c := chunkSum (as.take 32) (bs.take 32) sa.head? sb.head?
      macChunks f (as.drop 32) (bs.drop 32) (sa.drop 1) (sb.drop 1) (round32 (acc.add c))

/-- MATMUL (R240). -/
def State.doMatmul (s : State) (t d : Nat) : State :=
  let m := fd d 104 93
  let n := fd d 92 81
  let k := fd d 80 65
  let fa := fd d 64 61
  let fb := fd d 60 57
  let fc := fcFmt (fd d 56 55)
  let arow := fun i => s.rowElems t fa (fd d 239 213 + i * rowBytes fa k) k
  let ascl := fun i => s.rowScales t fa (fd d 158 132 + i * scaleRow k) k
  let bT := (List.range k).map (fun j => s.rowElems t fb (fd d 212 186 + j * rowBytes fb n) n)
  let brow := fun j => if bitOf d 53 then bT.map (fun r => r.getD j vZero) else s.rowElems t fb (fd d 212 186 + j * rowBytes fb k) k
  let bscl := fun j => s.rowScales t fb (fd d 131 105 + j * scaleRow k) k
  let bs := (List.range n).map (fun j => (brow j, bscl j))
  let rows := (List.range m).map (fun i =>
    let ca := fd d 185 159 + i * rowBytes fc n
    let a := arow i
    let sa := ascl i
    let old := if bitOf d 54 then (s.rowElems t fc ca n).map round32 else List.replicate n vZero
    (ca, (bs.zip old).map (fun x => (macChunks (k / 32 + 1) a x.1.1 sa x.1.2 x.2).mul (val32 (fd d 52 21)))))
  s.each rows (fun s r => s.putRow t fc r.1 0 r.2)

/-- Sources of VECTOR as FP32 (R250): exact, and a scaled source with one rounding. -/
def State.fpRow (s : State) (t c a sa n : Nat) : List Val :=
  if isScaled c then (s.rowVals t c a sa n).map round32 else s.rowElems t c a n

/-- The functions of VECTOR (Table TIL-8, R250) on SRC1, SRC2, the old DST and IMM. -/
def vecFn (f : Nat) (a b old imm : Val) : Val :=
  match f with
  | 0 => a
  | 1 => round32 (a.add b)
  | 2 => round32 (a.add b.negate)
  | 3 => round32 (a.mul b)
  | 4 => round32 ((a.mul b).add old)
  | 5 => a.max b
  | 6 => a.min b
  | 7 => round32 (a.mul imm)
  | 8 => round32 (a.add imm)
  | _ => vuApply f a

/-- VECTOR (R250). -/
def State.doVector (s : State) (t d : Nat) : State :=
  let f := fd d 239 234
  let n := fd d 152 129
  let c := fd d 128 125
  let o := fd d 124 121
  let a := s.fpRow t c (fd d 233 207) (fd d 88 62) n
  let b := if 1 ≤ f ∧ f ≤ 6 then s.rowElems t c (fd d 206 180) n else List.replicate n vZero
  let old := if f = 4 then s.fpRow t o (fd d 179 153) (fd d 61 35) n else List.replicate n vZero
  let imm := val32 (fd d 120 89)
  s.putRow t o (fd d 179 153) (fd d 61 35) (((a.zip b).zip old).map (fun x => vecFn f x.1.1 x.1.2 x.2 imm))

/-- The 4 bytes of an FP32 value. -/
def word32 (v : Val) : List Byte := leBytes 4 (code32 v).toNat

/-- max of a row. -/
def rowMax : List Val → Val
  | [] => .inf true
  | x :: t => t.foldl Val.max x

/-- The exact sum of FP32 values in an exact accumulator, rounded once to FP32. -/
def accSum (l : List Val) : Val := round32 ((l.foldl (fun (x : XAcc) v => (x.add v).1) {}).out)

/-- One row of SOFTMAX_PART (R251): P, m, l, and whether NUM_INVALID is raised. -/
def softRow (row : List Val) (scale : Val) : List Val × Val × Val × Bool :=
  let ss := row.map (fun v => round32 (v.mul scale))
  let m := rowMax ss
  if m.isNan || m == .inf false then (ss.map (fun _ => .nan), .nan, .nan, true)
  else if m = .inf true then (ss.map (fun _ => vZero), m, vZero, false)
  else
    let ps := ss.map (fun v => vuApply 9 (round32 (v.add m.negate)))
    (ps, m, accSum ps, false)

/-- SOFTMAX_PART (R251). -/
def State.doSoftmax (s : State) (t d : Nat) : State :=
  let r := fd d 158 147
  let n := fd d 146 123
  let c := fd d 122 119
  let rows := (List.range r).map (fun i =>
    (i, softRow (s.rowElems t fp32 (fd d 239 213 + i * rowBytes fp32 n) n) (val32 (fd d 118 87))))
  s.each rows (fun s x =>
    let s := s.putRow t c (fd d 212 186 + x.1 * rowBytes c n) 0 x.2.1
    let s := s.tWrite t (fd d 185 159 + 8 * x.1) (word32 x.2.2.1 ++ word32 x.2.2.2.1)
    s.numEvents t (b2n x.2.2.2.2) 0)

/-- a_k of R252. -/
def mergeA (mk m : Val) : Val := if mk = .inf true then vZero else vuApply 9 (round32 (mk.add m.negate))

/-- One row of MERGE (R252): O, m, l, and whether NUM_INVALID is raised. -/
def mergeRow (o1 o2 : List Val) (m1 l1 m2 l2 : Val) (norm : Bool) : List Val × Val × Val × Bool :=
  let m := m1.max m2
  if m.isNan || m == .inf false then (o1.map (fun _ => .nan), .nan, .nan, true)
  else
    let a1 := mergeA m1 m
    let a2 := mergeA m2 m
    let l := round32 ((round32 (l1.mul a1)).add (round32 (l2.mul a2)))
    let o := (o1.zip o2).map (fun x => round32 ((round32 (x.1.mul a1)).add (round32 (x.2.mul a2))))
    let o := if norm then o.map (fun v => if l.isZero && !l.neg then vZero else divRound32 v l) else o
    (o, m, l, false)

/-- MERGE (R252). -/
def State.doMerge (s : State) (t d : Nat) : State :=
  let r := fd d 77 66
  let n := fd d 65 54
  let c1 := foFmt (fd d 53 52)
  let c2 := foFmt (fd d 51 50)
  let co := foFmt (fd d 49 48)
  let w := fun a => val32 (leNat (s.tRead t a 4))
  let rows := (List.range r).map (fun i =>
    let o1 := s.rowElems t c1 (fd d 239 213 + i * rowBytes c1 n) n
    let o2 := s.rowElems t c2 (fd d 185 159 + i * rowBytes c2 n) n
    let ml1 := fd d 212 186 + 8 * i
    let ml2 := fd d 158 132 + 8 * i
    (i, mergeRow o1 o2 (w ml1) (w (ml1 + 4)) (w ml2) (w (ml2 + 4)) (bitOf d 47)))
  s.each rows (fun s x =>
    let s := s.putRow t co (fd d 131 105 + x.1 * rowBytes co n) 0 x.2.1
    let s := s.tWrite t (fd d 104 78 + 8 * x.1) (word32 x.2.2.1 ++ word32 x.2.2.2.1)
    s.numEvents t (b2n x.2.2.2.2) 0)

/-- Accumulator e of a tile. -/
def Tile.acc (x : Tile) (e : Nat) : XAcc := tget (fun _ => {}) x.accs e

/-- Add one contribution vector to the accumulators from 0; the number of NUM_INVALID events (R242, R244). -/
def Tile.contribute (x : Tile) (vs : List Val) : Tile × Nat :=
  vs.zipIdx.foldl (fun (a : Tile × Nat) v =>
    let r := (a.1.acc v.2).add v.1
    ({ a.1 with accs := tset (fun _ => {}) a.1.accs v.2 r.1 }, a.2 + b2n r.2)) (x, 0)

/-- The contributions of a REDUCE (R253): to cleared accumulators in MODE 0 and 1. -/
def State.reduceAdd (s : State) (t d : Nat) : State :=
  let n := fd d 131 120 + 1
  let c := fd d 95 92
  let x := s.tile t
  let x := if fd d 87 86 ≤ 1 then { x with accs := x.accs.filter (fun a => decide (n ≤ a.1)) } else x
  let r := (List.range (fd d 119 96)).foldl (fun (a : Tile × Nat) i =>
    let vs := s.rowVals t c (fd d 239 213 + i * rowBytes c n) (fd d 212 186 + i * scaleRow n) n
    let b := a.1.contribute vs
    (b.1, a.2 + b.2)) (x, 0)
  (s.setTile t r.1).numEvents t r.2 0

/-- REDUCE (R253): MODE 0 and 3 write out. -/
def State.doReduce (s : State) (t d : Nat) : State :=
  let s := s.reduceAdd t d
  if fd d 87 86 = 0 ∨ fd d 87 86 = 3 then
    s.putRow t (fd d 91 88) (fd d 185 159) (fd d 158 132)
      ((List.range (fd d 131 120 + 1)).map (fun e => ((s.tile t).acc e).out))
  else s

/-- The order of TOPK (R254): larger values first, NaN below −∞, equal values by ascending index. -/
def topBefore (a b : Val × Nat) : Bool :=
  if a.1.isNan && b.1.isNan then decide (a.2 < b.2)
  else if a.1.isNan then false
  else if b.1.isNan then true
  else if b.1.lt a.1 then true
  else if a.1.lt b.1 then false
  else decide (a.2 < b.2)

/-- TOPK (R254). -/
def State.doTopk (s : State) (t d : Nat) : State :=
  let n := fd d 131 108
  let k := fd d 107 99
  let c := fd d 98 95
  let vs := s.rowElems t c (fd d 239 213) n
  let ix := fun i => if bitOf d 94 then leNat (s.tRead t (fd d 212 186 + 4 * i) 4) else (fd d 93 62 + i) % 2 ^ 32
  let top := (sortBy topBefore (vs.zipIdx.map (fun x => (x.1, ix x.2)))).take k
  let rest := List.replicate (k - top.length) (Val.nan, 0xFFFFFFFF)
  let out := top ++ rest
  let s := s.putRow t c (fd d 185 159) 0 (out.map (·.1))
  s.tWrite t (fd d 158 132) (out.flatMap (fun x => leBytes 4 x.2))

/-- LOAD (R249, R262): with CLEAN the destination blocks become clean. -/
def State.doLoad (s : State) (t d : Nat) : State :=
  let a := fd d 212 173
  let n := fd d 170 144
  let lo := fd d 239 213
  let stack := fd d 172 171 == 1
  let s := (if stack then s.stackEv 0x60 a n else s).tWrite t lo (s.readSpace (fd d 172 171) a n)
  if bitOf d 143 then s.each (blockSpan lo n) (fun s b => s.setClean t b (some (a + (b * 65536 - lo)))) else s

/-- STORE (R249). -/
def State.doStore (s : State) (t d : Nat) : State :=
  s.writeSpace (fd d 172 171) (fd d 212 173) (s.tRead t (fd d 239 213) (fd d 170 144))

/-- The entries that SEND writes (R255): 240 payload bytes, PLEN 240 except in the last. -/
def sendEntry (bs : List Byte) (i n plen : Nat) : List Byte :=
  ringBytes (if i + 1 = n then plen else 240) ((bs.drop (240 * i)).take 240)

/-- SEND writes its entries to the transmit ring (R255). -/
def State.doSend (s : State) (t d : Nat) : State :=
  let p := fd d 212 206
  let q := fd d 205 200
  let n := fd d 199 176
  let v := s.refVal (s.rn (s.qa p q 0x20))
  let bs := s.tRead t (fd d 239 213) (240 * n)
  s.each (List.range n) (fun s i =>
    s.writeSpace (s.txSel p q) (s.ringAddr (s.txSel p q) (s.qa p q 0x18) (s.rn (s.qa p q 0x1C)) (v + i))
      (sendEntry bs i n (fd d 175 168)))

/-- RECV copies its entries from the receive ring (R256). -/
def State.doRecv (s : State) (t d c : Nat) : State :=
  let p := fd d 212 206
  let q := fd d 205 200
  let n := fd d 199 176
  let at_ := fun i => s.ringAddr (s.rxSel p q) (s.qa p q 8) (s.rn (s.qa p q 0xC)) (c + i)
  let s' := if s.rxSel p q = 0 then s else s.each (List.range n) (fun s i => s.stackEv 0x60 (at_ i) 256)
  s'.tWrite t (fd d 239 213) ((List.range n).flatMap (fun i => (s.readSpace (s.rxSel p q) (at_ i) 256).take 240))

end Sys2Proof.Machine
end

