-- ==== Sys2Proof/Machine/Tiles.lean ====
section
/-! DEFINITION. Tile programs (R246 to R260), the sentinel (R331), parity and stack errors (R262 to R265, R267), and the
tile map (R227). -/

namespace Sys2Proof.Machine

/-! ### Programs -/

/-- STATUS bits of a tile. -/
def tProgErr (t : Nat) : Fld := bitF (tileReg t 0) 9
def tPoison (t : Nat) : Fld := bitF (tileReg t 0) 10

/-- A tile begins a step program (R246): what the next program start clears, and descriptor 0. -/
def State.beginProg (s : State) (t l : Nat) : State :=
  let x := { s.tile t with cyc0 := s.regEdges (t / 8) }
  let len := s.rn (tileReg t 0x10)
  if len = 0 then s.setTile t { x with prog := none, sentReady := true }
  else
    let s := ((s.setB (tProgErr t) false).setB (tPoison t) false).setB (tRun t) true
    let s := (s.setN (tileReg t 0x30) 0).setN (tileReg t 0x14) 0
    s.setTile t { x with prog := some { l := l, base := s.rn (tileReg t 0xC), len := len }, accs := [], sentReady := false }

/-- The tile of logical tile l begins step n, or queues its program (R246); a sentinel is abandoned (R331). -/
def State.tileLeap (s : State) (l : Nat) : State :=
  let t := s.physOf l
  let x := s.tile t
  let s := if x.sent.isSome then ((s.inc 0x700C38).setB (tRun t) false).setTile t { x with sent := none } else s
  let x := s.tile t
  if x.prog.isSome then
    let s := ((s.setTile t { x with queued := x.queued + 1 }).setB (tPend t) true).raise (tileReg t 4) 2
    (s.inc (tileReg t 0x28)).ev 0x46 l
  else s.beginProg t l

/-- The step programs start at a leap (R117). -/
def State.tilesLeap (s : State) : State := s.each (List.range 64) (fun s l => s.tileLeap l)

/-- All descriptors of a program have issued and completed. -/
def Prog.ended (p : Prog) : Bool := (p.stopped || decide (p.len ≤ p.pc)) && p.units.isEmpty && p.watch.isNone

/-- A step program ends (R246); one that R260 stopped ends without PROG_DONE (DEDUCED, log entry 21). -/
def State.endIfDone (s : State) (t : Nat) : State :=
  let x := s.tile t
  match x.prog with
  | none => s
  | some p =>
    if p.ended then
      let s := (s.setB (tRun t) false).setN (tileReg t 0x1C) (s.regEdges (t / 8) - x.cyc0)
      let s := if p.stopped then s else s.raise (tileReg t 4) 1
      let s := s.setTile t { x.ended with queued := x.queued - 1, sentReady := x.queued == 0 }
      if x.queued = 0 then s
      else (s.setB (tPend t) (decide (1 < x.queued))).beginProg t p.l
    else s

/-- Replace the program that the sequencer of a tile runs. -/
def Tile.setCur (x : Tile) (p : Prog) : Tile := if x.prog.isSome then { x with prog := some p } else { x with sent := some p }

/-- Change the running program of a tile. -/
def State.modProg (s : State) (t : Nat) (g : Prog → Prog) : State :=
  match (s.tile t).cur with
  | some p => s.setTile t ((s.tile t).setCur (g p))
  | none => s

/-- Descriptor i of a program, as it lies in memory. -/
def State.descAt (s : State) (t : Nat) (p : Prog) (i : Nat) : Nat := leNat (s.tRead t ((p.base + i) * 32 % tileBytes) 32)

/-- The offsets that the enclosing loops add to the address fields of descriptor i (R259): loops with index 0 add
nothing. -/
def State.loopOffsets (s : State) (t : Nat) (p : Prog) (i : Nat) : List Int :=
  p.loops.foldl (fun (o : List Int) e =>
    let d := s.descAt t p e.1
    if i < e.1 ∧ e.1 ≤ i + loopBody d then
      (o.zip (loopStrides d)).map (fun x => x.1 + (e.2 : Int) * x.2)
    else o) [0, 0, 0]

/-- The next descriptor of a program, with its loop offsets. -/
def State.nextDesc (s : State) (t : Nat) (p : Prog) : Nat :=
  let d := s.descAt t p p.pc
  if dLidx d then addOffsets d (s.loopOffsets t p p.pc) else d

/-- OPs that a sentinel may use, within its own tile and its area (R331). -/
def State.sentAllowed (s : State) (p : Prog) (d : Nat) : Bool :=
  let lo := s.rn 0x700C14
  let hi := lo + s.rn 0x700C18
  let inArea := fun (x : Nat × Nat) => x.2 == 0 || (decide (lo ≤ x.1) && decide (x.1 + x.2 ≤ hi))
  let op := dOp d
  let far := fd d 172 171 == 0 && decide (fd d 212 173 / tileBytes = p.l) &&
    decide ((fd d 212 173 + fd d 170 144 - 1) / tileBytes = p.l)
  if op = 1 then far && (descWrites d).all inArea
  else if op = 2 then far && inArea (fd d 212 173 % tileBytes, fd d 170 144)
  else (decide (3 ≤ op) && decide (op ≤ 8) || op == 13) && (descWrites d).all inArea

/-- A sentinel stops on a descriptor that R331 forbids. -/
def State.sentStop (s : State) (t : Nat) : State :=
  ((s.inc 0x700C3C).setB (tRun t) false).setTile t { s.tile t with sent := none }

/-- SHARE of the requester that a logical tile is. -/
def State.share (s : State) (l : Nat) : Nat := s.rn (0x3401000 + 4 * l)

/-- The space of the far side of an LS descriptor: stack or bonded memory. -/
def State.lsStack (s : State) (d : Nat) : Bool :=
  match dOp d with
  | 9 => s.txSel (fd d 212 206) (fd d 205 200) == 1
  | 10 => s.rxSel (fd d 212 206) (fd d 205 200) == 1
  | _ => fd d 172 171 == 1

/-- Bytes that an LS descriptor transfers. -/
def lsBytes (d : Nat) : Nat := if dOp d = 9 ∨ dOp d = 10 then 256 * fd d 199 176 else fd d 170 144

/-- The counter reference of a SEND's posted counter or a RECV's arrival counter. -/
def State.ringRef (s : State) (d : Nat) : Nat :=
  let p := fd d 212 206
  let q := fd d 205 200
  if dOp d = 9 then s.rn (s.qa p q 0x20) else s.rn (s.qa p q 0x10)

/-- The device can run a descriptor of a program: requests it sends as they are, and the counter unit judges them (R146,
R162); any other keeps its own fields and the memory it touches in range, and a LOOP has a body. One that does not has no
effect in the spec, and does not issue (log entry 23). -/
def descRuns (p : Prog) (d : Nat) : Bool :=
  match dOp d with
  | 11 | 12 => true
  | 13 => descOk d && decide (loopBody d ≤ p.pc)
  | _ => descOk d

/-- An LS descriptor that crosses the stacks has a share (R261). -/
def State.hasShare (s : State) (l d : Nat) : Bool := !s.lsStack d || decide (1 ≤ s.share l)

/-- A request word of a tile (Tables CNT-4, BRS-2). -/
def tileReq (op l : Nat) (flag : Bool) (rest : Nat) : Msg :=
  BitVec.ofNat 128 (op * 2 ^ 124 + l * 2 ^ 116 + b2n flag * 2 ^ 115 + rest)

/-- The tag of a tile's request: 0 WATCH, 1 RECV, 2 ARRIVE, above 14 bits of the descriptor's index (log entry 24). -/
def tileTag (kind idx : Nat) : Nat := kind * 2 ^ 14 + idx % 2 ^ 14

/-- The request of a SIGNAL (R257). -/
def signalReq (l d : Nat) : Msg :=
  tileReq 1 l (bitOf d 239) (fd d 238 219 * 2 ^ 92 + fd d 218 211 * 2 ^ 84 + fd d 210 205 * 2 ^ 78 + fd d 204 197 * 2 ^ 64)

/-- A WATCH request on a counter of the node. -/
def watchReq (l tag core k target timeout : Nat) : Msg :=
  tileReq 3 l true (tag * 2 ^ 96 + core * 2 ^ 84 + k * 2 ^ 78 + target % 2 ^ 32 * 2 ^ 32 + timeout)

/-- r of Table TIL-8. -/
def State.runIndex (s : State) : Nat := (s.step + 2 ^ 64 - s.leap.n0) % 2 ^ 64

/-- The request of a WATCH descriptor (R258). -/
def State.watchDescReq (s : State) (l idx d : Nat) : Msg :=
  let r := s.runIndex
  if fd d 239 238 = 0 then
    watchReq l (tileTag 0 idx) (fd d 237 230) (fd d 229 224) (fd d 213 182 + fd d 181 150 * r) (fd d 149 118)
  else
    let op := fd d 239 238 + 7
    let rd := (fd d 216 215 + (if bitOf d 214 then r else 0)) % 4
    tileReq op l (bitOf d 223) (tileTag (if op = 9 then 2 else 0) idx * 2 ^ 96 + fd d 222 217 * 2 ^ 90 + rd * 2 ^ 88 + fd d 149 118)

/-- The DONE_EN ADD of a completed descriptor (R248). -/
def State.doneAdd (s : State) (l d : Nat) : State :=
  if dDoneEn d then s.accept l (tileReq 1 l true (l * 2 ^ 84 + dDoneK d * 2 ^ 78 + 2 ^ 64)) else s

/-- The units MX, VU and RU, and LOAD and STORE: what they compute. -/
def State.compute (s : State) (t d : Nat) : State :=
  match dOp d with
  | 1 => s.doLoad t d
  | 2 => s.doStore t d
  | 3 => s.doMatmul t d
  | 4 => s.doVector t d
  | 5 => s.doSoftmax t d
  | 6 => s.doMerge t d
  | 7 => s.doReduce t d
  | 8 => s.doTopk t d
  | 9 => s.doSend t d
  | _ => s

/-- The hall time at which an LS descriptor that begins now completes, 2^-16 ns (R233); none where it crosses the stacks
without a share. -/
def State.lsDue (s : State) (l d : Nat) : Option Nat :=
  if s.hasShare l d then some (s.now + transferNs (s.lsStack d) (s.share l) (lsBytes d) * 65536) else none

/-- Occupy a unit until a time, if that is known now. -/
def State.occupy (s : State) (t idx d : Nat) (due wait : Option Nat) : State :=
  let o : TOp := { idx := idx, desc := d, due := due, start := s.regEdges (t / 8), wait := wait }
  s.modProg t (fun p => { p with pc := p.pc + 1, units := p.units ++ [(unitOf (dOp d), o)] })

/-- LOOP (R259). -/
def Prog.loop (p : Prog) (d : Nat) : Prog :=
  let i := tget (fun _ => 0) p.loops p.pc
  if i + 1 < loopCount d then { p with pc := p.pc - loopBody d, loops := tset (fun _ => 0) p.loops p.pc (i + 1) }
  else { p with pc := p.pc + 1, loops := tset (fun _ => 0) p.loops p.pc 0 }

/-- An own arrival at an entry, and the round that it completes (R157, R158). -/
def State.arriveOn (s : State) (k : Nat) (m : Msg) : State :=
  let s := (s.arrive k (rqRound m) false (rqSrc m)).1
  if s.roundDue k then s.advanceRound k else s

/-- The state after the arrivals at an entry that are accepted and not yet counted. -/
def State.arrivalsDue (s : State) (k : Nat) : State :=
  (s.cnt.pend.filter (fun x => x.bad.isNone && (rqOp x.word == 8 || rqOp x.word == 9) && rqEntry x.word == k)).foldl
    (fun s x => s.arriveOn k x.word) s

/-- The counter unit would refuse an ARRIVE that is accepted now, after those accepted before it: its form, its entry or
its round (R146, R157, R162). -/
def State.arriveFails (s : State) (m : Msg) : Bool :=
  let k := rqEntry m
  (s.badForm m).isSome || s.barRefused m || !((s.arrivalsDue k).arrive k (rqRound m) false (rqSrc m)).2

/-- The request that the tile of logical number l had accepted at an instant is still to be answered. -/
def State.unanswered (s : State) (l acc : Nat) : Bool :=
  s.cnt.pend.any (fun x => rqSrc x.word == l && x.acc == acc) || s.cnt.rsps.any (fun x => x.port == l && x.acc == acc)

/-- Issue a WATCH (R258). KIND 2 completes at acceptance unless it is refused: one that the entry, with the arrivals
accepted before, would refuse holds the sequencer until the refusal comes, or until it is sure that none comes (DEDUCED, log entry 140). -/
def State.issueWatch (s : State) (t : Nat) (p : Prog) (d : Nat) : State :=
  let l := p.l
  let m := s.watchDescReq l p.pc d
  let bad := s.arriveFails m
  let s := s.accept l m
  if fd d 239 238 ≠ 2 then s.modProg t (fun p => { p with pc := p.pc + 1, watch := some p.pc })
  else if bad then s.occupy t p.pc d (some (s.now + 41 * 65536)) none
  else
    let open_ := p.arrives.filter (fun x => s.unanswered l x.1)
    (s.modProg t (fun p => { p with pc := p.pc + 1, arrives := (s.now, p.pc) :: open_ })).doneAdd l d

/-- Issue a descriptor (R248, R255 to R259). A transfer without a share moves nothing and never completes. -/
def State.issueDesc (s : State) (t : Nat) (p : Prog) (d : Nat) : State :=
  let l := p.l
  let s := s.setN (tileReg t 0x14) p.pc
  let s := s.ev 0x45 l
  match dOp d with
  | 10 =>
    let c := s.rn (counterA l (fd d 175 170))
    let a := s.ringRef d
    let s := s.accept l (watchReq l (tileTag 1 p.pc) (bitsOf a 8 8) (bitsOf a 0 6) (c + fd d 199 176) (fd d 169 138))
    s.occupy t p.pc d none (some c)
  | 11 => ((s.accept l (signalReq l d)).modProg t (fun p => { p with pc := p.pc + 1 })).doneAdd l d
  | 12 => s.issueWatch t p d
  | 13 => (s.modProg t (fun p => p.loop d)).doneAdd l d
  | _ => (if s.hasShare l d then s.compute t d else s).occupy t p.pc d (s.lsDue l d) none

/-- May the next descriptor of a program issue (R248)? -/
def Prog.mayIssue (p : Prog) (d : Nat) : Bool :=
  !p.stopped && decide (p.pc < p.len) && p.watch.isNone && !(p.units.any (fun u => u.1 == unitOf (dOp d) || u.1 == 4)) &&
    (!dFence d || p.units.isEmpty)

/-- The sequencer of a tile issues its next descriptor, if it has this OP and may issue. -/
def State.tileIssue (s : State) (t op : Nat) : State :=
  s.onK (fun s =>
    match (s.tile t).cur with
    | none => s
    | some p =>
      let d := s.nextDesc t p
      if decide (t < 72) && dOp d == op && p.mayIssue d then
        if (s.tile t).prog.isNone && !s.sentAllowed p d then s.sentStop t
        else if descRuns p d then (s.issueDesc t p d).endIfDone t
        else s
      else s)

/-- LOAD (R249). -/
def execLoad (t : Nat) (s : State) : Out := .next (s.tileIssue t opLOAD)

/-- STORE (R249). -/
def execStore (t : Nat) (s : State) : Out := .next (s.tileIssue t opSTORE)

/-- MATMUL (R240). -/
def execMatmul (t : Nat) (s : State) : Out := .next (s.tileIssue t opMATMUL)

/-- VECTOR (R250). -/
def execVector (t : Nat) (s : State) : Out := .next (s.tileIssue t opVECTOR)

/-- SOFTMAX_PART (R251). -/
def execSoftmaxPart (t : Nat) (s : State) : Out := .next (s.tileIssue t opSOFTMAX)

/-- MERGE (R252). -/
def execMerge (t : Nat) (s : State) : Out := .next (s.tileIssue t opMERGE)

/-- REDUCE (R253). -/
def execReduce (t : Nat) (s : State) : Out := .next (s.tileIssue t opREDUCE)

/-- TOPK (R254). -/
def execTopk (t : Nat) (s : State) : Out := .next (s.tileIssue t opTOPK)

/-- SEND (R255). -/
def execSend (t : Nat) (s : State) : Out := .next (s.tileIssue t opSEND)

/-- RECV (R256). -/
def execRecv (t : Nat) (s : State) : Out := .next (s.tileIssue t opRECV)

/-- SIGNAL (R257). -/
def execSignal (t : Nat) (s : State) : Out := .next (s.tileIssue t opSIGNAL)

/-- WATCH (R258). -/
def execWatchDescriptor (t : Nat) (s : State) : Out := .next (s.tileIssue t opWATCH)

/-- LOOP (R259). -/
def execLoop (t : Nat) (s : State) : Out := .next (s.tileIssue t opLOOP)

/-! ### Completion -/

/-- The blocks of physical tiles that a descriptor of a program on tile t reads (R263). -/
def State.readBlocks (s : State) (t : Nat) (o : TOp) : List (Nat × Nat) :=
  let d := o.desc
  let span := fun (a n : Nat) => (tileCuts 66 a n).flatMap (fun x =>
    (blockSpan (x.1 % tileBytes) x.2).map (fun b => (s.physOf (x.1 / tileBytes), b)))
  (descReads d).flatMap (fun x => (blockSpan x.1 x.2).map (fun b => (t, b))) ++
  (if dOp d = 1 ∧ fd d 172 171 = 0 then span (fd d 212 173) (fd d 170 144)
    else if dOp d = 10 ∧ ¬ s.lsStack d then
      let p := fd d 212 206
      let q := fd d 205 200
      span (s.rn (s.qa p q 8) * 256) (s.rn (s.qa p q 0xC) * 256)
    else [])

/-- A unit holds while a block that it reads is being refetched (R263). -/
def State.unitHeld (s : State) (t : Nat) (o : TOp) : Bool :=
  (s.tiles.any (fun x => !x.2.refetch.isEmpty)) && (s.readBlocks t o).any (fun b => (s.tile b.1).refetch.contains b.2)

/-- A descriptor on a unit has run its duration (Table TIL-7). -/
def State.unitDone (s : State) (t : Nat) (u : Nat × TOp) : Bool :=
  u.2.wait.isNone && !s.unitHeld t u.2 &&
    (if u.1 = 3 ∨ u.1 = 4 then (match u.2.due with | some d => decide (d ≤ s.now) | none => false)
      else decide (u.2.start + descCycles u.2.desc ≤ s.regEdges (t / 8)))

/-- The ADDs of a completing SEND or RECV (R255, R256), and of DONE_EN. -/
def State.completeAdds (s : State) (l d : Nat) : State :=
  let n := fd d 199 176
  let s := if dOp d = 9 then s.devAdd (s.ringRef d) n s.now
    else if dOp d = 10 then s.devAdd (l * 256 + fd d 175 170) n s.now
    else s
  s.doneAdd l d

/-- DESCRIPTOR_COMPLETE (R248) on a unit of a tile: a descriptor that has run its duration completes. -/
def execDescriptorComplete (t : Nat) (unit : Nat) (s : State) : Out :=
  .next (s.onK (fun s =>
    match (s.tile t).cur with
    | none => s
    | some p =>
      let me := fun (u : Nat × TOp) => u.1 == unit && s.unitDone t u
      match p.units.find? me with
      | none => s
      | some u =>
        let s := s.modProg t (fun p => { p with units := p.units.eraseP me })
        (s.completeAdds p.l u.2.desc).endIfDone t))

/-- R260 marks a tile whose program stops at a descriptor. -/
def State.progMark (s : State) (t l reason idx : Nat) : State :=
  let s := (s.setB (tProgErr t) true).setN (tileReg t 0x30) (2 ^ 31 + reason % 8 * 2 ^ 28 + idx % 2 ^ 22)
  ((s.raise (tileReg t 4) 3).ev 0x47 l).setRpt (fun x => { x with progFault := true })

/-- R260 stops the program of a tile at a descriptor. -/
def State.progStop (s : State) (t l reason idx : Nat) : State :=
  ((s.progMark t l reason idx).modProg t (fun p => { p with stopped := true, watch := none })).endIfDone t

/-- REASON of a response that stops a program (Table TIL-11). -/
def stopReason (status : Nat) : Nat := match status with | 1 => 1 | 9 => 2 | 10 => 3 | 7 => 5 | _ => 4

/-- The tile on which a program of logical tile l runs. -/
def State.runsAs (s : State) (l : Nat) : Option Nat :=
  (s.tiles.find? (fun x => match x.2.prog with | some p => p.l == l | none => false)).map (·.1)

/-- The descriptor of a program that waits for a response with a tag index on a unit. -/
def Prog.waits (p : Prog) (unit low : Nat) : Option TOp :=
  (p.units.find? (fun u => u.1 == unit && u.2.idx % 2 ^ 14 == low)).map (·.2)

/-- A unit of a program is free again. -/
def Prog.freeUnit (p : Prog) (unit : Nat) : Prog := { p with units := p.units.filter (fun u => u.1 != unit) }

/-- The response to a WATCH that the sequencer waits for (R258, R260). -/
def State.watchResponse (s : State) (t : Nat) (p : Prog) (low status : Nat) : State :=
  match p.watch with
  | none => s
  | some i =>
    if i % 2 ^ 14 ≠ low then s
    else if status = 0 ∨ status = 8 then
      ((s.modProg t (fun p => { p with watch := none })).doneAdd p.l (s.descAt t p i)).endIfDone t
    else s.progStop t p.l (stopReason status) i

/-- The response to the wait of a RECV (R256, R260). -/
def State.recvResponse (s : State) (t : Nat) (p : Prog) (low status : Nat) : State :=
  match p.waits 3 low with
  | none => s
  | some o =>
    if status = 0 then
      let s := if s.hasShare p.l o.desc then s.doRecv t o.desc (o.wait.getD 0) else s
      s.modProg t (fun p => { p.freeUnit 3 with units := (p.freeUnit 3).units ++
        [(3, { o with wait := none, due := s.lsDue p.l o.desc })] })
    else (s.modProg t (fun p => p.freeUnit 3)).progStop t p.l (stopReason status) o.idx

/-- The refusal of an ARRIVE (R258, R260), accepted at an instant: it stops the program, and where the program has ended
the tile shows it. -/
def State.arriveResponse (s : State) (t l acc : Nat) (p : Option Prog) (low status : Nat) : State :=
  let mine := fun (x : Nat × Nat) => x.1 == acc && x.2 % 2 ^ 14 == low
  let r := stopReason status
  match (s.tile t).left.find? mine, p with
  | some x, _ => (s.setTile t { s.tile t with left := (s.tile t).left.filter (fun x => s.unanswered l x.1) }).progMark t l r x.2
  | none, none => s
  | none, some p =>
    match p.arrives.find? mine, p.waits 4 low with
    | some x, _ => if p.stopped then s else s.progStop t l r x.2
    | none, some o => (s.modProg t (fun p => p.freeUnit 4)).progStop t l r o.idx
    | none, none => s

/-- A response comes to logical tile l, for the program it runs (R256, R258, R260); `acc` is when its request was
accepted. -/
def State.tileResponse (s : State) (l acc : Nat) (m : Msg) : State :=
  let low := rsTag m % 2 ^ 14
  let t := (s.runsAs l).getD (s.physOf l)
  let p := (s.tile t).prog
  match rsTag m / 2 ^ 14, p with
  | 2, p => s.arriveResponse t l acc p low (rsStatus m)
  | 0, some p => s.watchResponse t p low (rsStatus m)
  | 1, some p => s.recvResponse t p low (rsStatus m)
  | _, _ => s

/-! ### Sentinels (R331) -/

/-- SENTINEL_START (R331). -/
def execSentinelStart (t : Nat) (s : State) : Out :=
  .next (s.onK (fun s =>
    let x := s.tile t
    match s.logicalOf t with
    | none => s
    | some l =>
      if bitOf (s.rn 0x700C00) 31 && bitOf (s.r64 0x700C04) l && x.sentReady && x.prog.isNone && x.queued == 0 &&
          x.sent.isNone && s.bit LAUNCH_PEND && decide (s.now + s.rn 0x700C28 * 65536 < tsScalar (s.r96 NEXT_LAUNCH)) then
        (s.setB (tRun t) true).setTile t
          { x with sentReady := false, sent := some { l := l, base := s.rn 0x700C0C, len := s.rn 0x700C10 } }
      else s))

/-- SENTINEL_END (R331). -/
def execSentinelEnd (t : Nat) (s : State) : Out :=
  .next (s.onK (fun s =>
    let x := s.tile t
    match x.prog, x.sent with
    | none, some p =>
      if p.ended then
        let s := (s.setB (tRun t) false).setTile t { x with sent := none }
        if crc32c (s.tRead t (s.rn 0x700C1C) (s.rn 0x700C20)) = s.r 0x700C24 then (s.inc 0x700C30).ev 0xC2
        else
          let s := ((s.inc 0x700C34).setN 0x700C40 p.l).raise EFT_CAUSE 0
          let s := ((s.log 15 p.l).snapshot 15 p.l).ev 0xC3
          s.setRpt (fun x => { x with sentMiss := true })
      else if p.pc < p.len ∧ ¬ s.sentAllowed p (s.nextDesc t p) then s.sentStop t
      else s
    | _, _ => s))

/-! ### Parity, refetch, poison and the stacks -/

/-- ARG of the log entry of a parity event (Table FLT-9). -/
def State.parityArg (s : State) (t block : Nat) : Nat := s.tileInst t * 2 ^ 16 + block

/-- PARITY_ADDR: an address in a block whose low bits the command does not tell (free). -/
def State.parityAt (s : State) (t block : Nat) : State :=
  (s.setN (tileReg t 0x34) (block * 65536 + s.freeNat % 65536)).took

/-- A block of the top 32 MB of a service tile, the staging of a running pass, which the engine loads from the stacks
(R276, R287). -/
def State.inPassStaging (s : State) (t block : Nat) : Bool :=
  decide (96 * 16 ≤ block) && s.bit PASS_RUN && (List.range 64).any (fun l => bitOf (s.r64 SVC_TILES) l && s.physOf l == t)

/-- PARITY_CLEAN (R263, R287, R330) of a clean block. -/
def execParityClean (t : Nat) (block : Nat) (s : State) : Out :=
  .next (s.onK (fun s =>
    if decide (t < 72) && decide (block < 2048) && (s.bit (cleanF t block) || s.inPassStaging t block) then
      let s := ((s.inc (tileReg t 0x20)).raise (tileReg t 4) 4).ev 0x48 (s.tileInst t)
      let s := (s.parityAt t block).setTile t { s.tile t with refetch := (s.tile t).refetch ++ [block] }
      let s := (s.log 9 (s.parityArg t block)).snapshot 9 block
      s.setRpt (fun x => { x with refetch := true })
    else s))

/-- REFETCH_DONE (R263): the block is written anew from its stack source. -/
def execRefetchDone (t : Nat) (block : Nat) (s : State) : Out :=
  .next (s.onK (fun s =>
    let x := s.tile t
    if x.refetch.contains block then
      let s := s.setTile t { x with refetch := x.refetch.erase block }
      match tget (fun _ => none) x.src block with
      | none => s
      | some a =>
        let s := s.stackEv 0x60 a 65536
        { s with bonded := s.bonded.write (t * tileBytes + block * 65536) (s.readSpace 1 a 65536) }
    else s))

/-- A step is poisoned at a tile (R264, R330). -/
def State.tilePoison (s : State) (t block : Nat) : State :=
  let s := (((s.setB (tPoison t) true).raise (tileReg t 4) 5).inc (tileReg t 0x24)).ev 0x49 (s.tileInst t)
  ((s.log 10 (s.parityArg t block)).snapshot 10 block).poisonFail

/-- PARITY_DIRTY (R264); an error on a refetch ends it, and the unit that held goes on (R263). -/
def execParityDirty (t : Nat) (block : Nat) (s : State) : Out :=
  .next (s.onK (fun s =>
    if t < 72 then
      let b := block % 2048
      let s := s.setTile t { s.tile t with refetch := (s.tile t).refetch.erase b }
      (s.parityAt t b).tilePoison t b
    else s))

/-- A STACK register. -/
def stackReg (st ofs : Nat) : Nat := 0x3400000 + 0x10000 * st + ofs

/-- STACK_ECC_CORRECTED (R265). -/
def execStackEccCorrected (st : Nat) (s : State) : Out :=
  .next (s.onK (fun s =>
    if st < 6 then ((s.inc (stackReg st 0xC)).raise (stackReg st 4) 0).ev 0x62 st else s))

/-- STACK_UNCORRECTABLE (R265): an address outside the stacks is no address of the hardware. -/
def execStackUncorrectable (st : Nat) (a : Nat) (path : Bool) (t : Option Nat) (s : State) : Out :=
  if stackBytes ≤ a then .fault .stackRange
  else .next (s.onK (fun s =>
    if decide (st < 6) && a / 4096 % 6 == st then
      let s := if path then ((s.inc (stackReg st 0x14)).raise (stackReg st 4) 2).ev 0x64 st
        else ((s.inc (stackReg st 0x10)).raise (stackReg st 4) 1).ev 0x63 st
      let s := (s.setN (stackReg st 0x18) a).setN (stackReg st 0x1C) (a / 2 ^ 32)
      match t with
      | some t =>
        let b := s.freeNat % 2048
        if t < 72 then (s.took.parityAt t b).tilePoison t b else s
      | none =>
        let s := { s with host := { s.host with bad := s.host.bad ++ [(a, path)] } }
        ((s.log 10 (0x7F * 2 ^ 16)).snapshot 10 0).poisonFail
    else s))

/-- TEMP_ALARM (R267, Table TIL-13). -/
def execTempAlarm (st : Nat) (s : State) : Out :=
  .next (s.onK (fun s =>
    if st < 6 then
      { s with stackHot := tset (fun _ => none) s.stackHot st (some s.beat.n) }.raise (stackReg st 4) 3
    else s))

/-! ### The tile map (R227) -/

/-- SPARE and LOGICAL of every tile follow TILE_MAP. -/
def State.markTiles (s : State) : State :=
  s.each (List.range 72) (fun s t =>
    let l := s.logicalOf t
    (s.setB (bitF (tileReg t 0) 11) l.isNone).setF ⟨tileReg t 0, 0, 7⟩ (l.getD 0x7F))

/-- A regrow discards the state of the replaced tile: its registers, its programs and its memory (R329). -/
def State.dropTile (s : State) (t : Nat) : State :=
  let out := fun (a lo n : Nat) => !decide (lo ≤ a ∧ a < lo + n)
  let s : State := { s with
    regs := s.regs.filter (fun x => out x.1 (tileReg t 0) 0x20000)
    bonded := s.bonded.filter (fun x => out x.1 (t * tileBytes) tileBytes) }
  s.setTile t { cyc0 := s.regEdges (t / 8) }

/-- A write of TILE_MAP (R227); it takes nothing from the replaced tile to the one that takes its place (R329). -/
def State.tileMapWrite (s : State) (l : Nat) (v : Word) : State :=
  s.onK (fun s => if l < 64 then s.unlocked (fun s =>
      let t := v.toNat % 128
      let used := (List.range 64).any (fun k => k != l && s.physOf k == t)
      if (s.nst == .stopped || s.inTadpole) && !used && decide (t ≤ 71) then
        let old := s.logicalOf (s.physOf l)
        let s := if old == some l && s.physOf l != t then s.dropTile (s.physOf l) else s
        (s.setN (0x2F00000 + 4 * l) t).markTiles
      else s.raise LEAP_CAUSE 12)
    else s)

/-- TILE_MAP_WRITE (R227). -/
def execTileMapWrite (l : Nat) (v : Word) (s : State) : Out := .next (s.tileMapWrite l v)

/-- RESPONSE_PRESENT (R147): a response goes to the core message port, or to the tile's descriptor. -/
def execResponsePresent (port : Nat) (s : State) : Out :=
  let r := s.present port
  .next (match r.2 with
    | none => r.1
    | some x => if s.part.isK then r.1.tileResponse port x.acc x.word else r.1)

end Sys2Proof.Machine
end

