-- ==== Sys2Proof/Machine/Prefix.lean ====
section
/-! DEFINITION. Shared-prefix attention (R268 to R290): the clutch table and its commands, install packets, passes, and
the migration of pages into the cache. -/

namespace Sys2Proof.Machine

/-! ### Layouts (R268, R269) -/

/-- The layout of a clutch: pages per head, layers, kv-heads, head dimension, format, and the region's start. -/
structure Clutch where
  pph : Nat
  layers : Nat
  heads : Nat
  d : Nat
  cfmt : Nat
  base : Nat
  deriving DecidableEq, Repr

/-- The layout that an entry's registers hold. -/
def State.clutch (s : State) (i : Nat) : Clutch :=
  let w := s.rn (clE i 4)
  { pph := bitsOf w 20 12 + 1, layers := bitsOf w 12 8 + 1, heads := bitsOf w 6 6 + 1, d := 64 * 2 ^ bitsOf w 4 2
    cfmt := bitsOf w 0 2, base := s.rn (clE i 8) % 2 ^ 28 * 4096 }

/-- Pages, bytes of data and of scales of a page (Table PFX-1). -/
def Clutch.pages (c : Clutch) : Nat := c.layers * c.heads * c.pph
def pageData (cfmt d : Nat) : Nat := match cfmt with | 0 => 512 * d | 1 => 1024 * d | _ => 256 * d
def pageScales (cfmt d : Nat) : Nat := if cfmt = 1 then 0 else 16 * d
def Clutch.pd (c : Clutch) : Nat := pageData c.cfmt c.d
def Clutch.ps (c : Clutch) : Nat := pageScales c.cfmt c.d

/-- The next 4 KiB boundary. -/
def up4k (n : Nat) : Nat := ceilDiv n 4096 * 4096

/-- The areas of a region (Table PFX-2). -/
def Clutch.scalesAt (c : Clutch) : Nat := c.base + up4k (c.pages * c.pd)
def Clutch.presentAt (c : Clutch) : Nat := c.scalesAt + up4k (c.pages * c.ps)
def Clutch.end_ (c : Clutch) : Nat := c.presentAt + up4k (ceilDiv c.pages 8)

/-- Two ranges, from a start up to an end, overlap; an empty one overlaps nothing. -/
def overlaps (a b c d : Nat) : Bool := decide (max a c < min b d)

/-- The region of a new entry lies in stack space and overlaps nothing of Table PFX-3. -/
def State.regionFree (s : State) (i : Nat) : Bool :=
  let c := s.clutch i
  decide (c.end_ ≤ stackBytes) &&
    s.clUsed.all (fun k => k == i || (let o := s.clutch k; !overlaps c.base c.end_ o.base o.end_)) &&
    !overlaps c.base c.end_ (s.f SPAWN_CACHE * 2 ^ 20) ((s.f SPAWN_CACHE + s.f SPAWN_CACHE_SIZE) * 2 ^ 20) &&
    (List.range 16).all (fun d =>
      !overlaps c.base c.end_ (s.f (spillBase d) * 2 ^ 20) ((s.f (spillBase d) + s.f (spillSize d)) * 2 ^ 20))

/-! ### Commands (R272, R273) -/

/-- The entry that a reference names: its GEN agrees (R270). -/
def State.clNamed (s : State) (ref : Nat) : Option Nat :=
  if s.f (clGen (ref % 4096)) = ref / 4096 % 4096 then some (ref % 4096) else none

/-- A refused command (R272). -/
def State.cmdRefused (s : State) (code : Nat) : State := (s.setF CMD_STATUS code).raise PFX_CAUSE 5

/-- OPEN. -/
def State.clOpen (s : State) : State :=
  let i := s.f CMD_REF % 4096
  let w := s.rn (clE i 4)
  if s.f (clSt i) ≠ 0 then s.cmdRefused 1
  else if bitsOf w 4 2 = 3 ∨ bitsOf w 0 2 = 3 then s.cmdRefused 2
  else if ¬ s.regionFree i then s.cmdRefused 3
  else
    let c := s.clutch i
    let s := s.writeSpace 1 c.presentAt (List.replicate (ceilDiv c.pages 8) 0)
    let s := ((s.setF (clPresent i) 0).setF (clSt i) 1).setF (clBad i) 0
    s.setF CMD_REF (s.f (clGen i) * 4096 + i)

/-- Bytes that IMPORT copies: the data and scale areas. -/
def Clutch.importBytes (c : Clutch) : Nat := up4k (c.pages * c.pd) + c.pages * c.ps

/-- IMPORT. -/
def State.clImport (s : State) : State :=
  match s.clNamed (s.f CMD_REF) with
  | none => s.cmdRefused (if s.armed then 4 else 1)
  | some i =>
    let last := s.rn CMD_ARG + ceilDiv (s.clutch i).importBytes (2 ^ 20) - 1
    if s.armed then s.cmdRefused 4
    else if s.f (clSt i) ≠ 1 then s.cmdRefused 1
    else if s.f DOWN_CUM = 0xFFFFFF ∨ s.f DOWN_CUM < last then s.cmdRefused 5
    else
      let s := { s with pfx := { s.pfx with imports := s.pfx.imports ++ [(i, s.f (clGen i), s.rn CMD_ARG)] } }
      s.setB IMPORT_BUSY true

/-- The step that a SEAL or EVICT takes: STEP_COUNT. -/
def State.sealStep (s : State) : Nat := if s.armed then s.step else 2 ^ 64 - 1

/-- SEAL of an entry; the code of the refusal, if it is refused. -/
def State.sealCode (s : State) (i : Nat) : Option Nat :=
  if s.f (clSt i) ≠ 1 then some 1
  else if s.f (clPresent i) ≠ (s.clutch i).pages then some 6
  else if s.pfx.imports.isEmpty then none else some 1

/-- The action of SEAL. -/
def State.doSeal (s : State) (i : Nat) : State :=
  ((s.setF (clSt i) 2).setR64 (clSealStep i) s.sealStep).raise PFX_CAUSE 3

/-- EVICT of an entry: refused unless SEALED with no eviction pending. -/
def State.evictCode (s : State) (i : Nat) : Option Nat :=
  if s.f (clSt i) ≠ 2 ∨ s.bit (clEvictPend i) then some 1 else none

/-- The action of EVICT. -/
def State.doEvict (s : State) (i : Nat) : State :=
  if s.armed then (s.setR64 (clEvictStep i) s.step).setB (clEvictPend i) true else s.clFree i

/-- A command on the entry that CMD_REF names. -/
def State.clCommand (s : State) (code : State → Nat → Option Nat) (act : State → Nat → State) : State :=
  match s.clNamed (s.f CMD_REF) with
  | none => s.cmdRefused 1
  | some i =>
    match code s i with
    | some c => s.cmdRefused c
    | none => act s i

/-- FREE of an entry. -/
def State.freeCode (s : State) (i : Nat) : Option Nat :=
  if s.f (clSt i) = 0 then some 1 else if s.f (clSt i) = 2 ∧ s.armed then some 4 else none

/-- A write of PFX_CTRL, lowest bit first (log entry 5). -/
def State.pfxCtrlWrite (s : State) (v : Nat) : State :=
  let s := if bitOf v 0 then s.clOpen else s
  let s := if bitOf v 1 then s.clCommand State.sealCode State.doSeal else s
  let s := if bitOf v 2 then s.clCommand State.evictCode State.doEvict else s
  let s := if bitOf v 3 then s.clCommand State.freeCode State.clFree else s
  if bitOf v 4 then s.clImport else s

/-- OPEN (R272). -/
def execPfxOpen (v : Word) (s : State) : Out := .next (s.onK (fun s => s.inMain (fun s => s.pfxCtrlWrite (forceBits v 1))))

/-- SEAL (R272). -/
def execPfxSeal (v : Word) (s : State) : Out := .next (s.onK (fun s => s.inMain (fun s => s.pfxCtrlWrite (forceBits v 2))))

/-- EVICT (R272). -/
def execPfxEvict (v : Word) (s : State) : Out := .next (s.onK (fun s => s.inMain (fun s => s.pfxCtrlWrite (forceBits v 4))))

/-- FREE (R272). -/
def execPfxFree (v : Word) (s : State) : Out := .next (s.onK (fun s => s.inMain (fun s => s.pfxCtrlWrite (forceBits v 8))))

/-- IMPORT (R272). -/
def execPfxImport (v : Word) (s : State) : Out := .next (s.onK (fun s => s.inMain (fun s => s.pfxCtrlWrite (forceBits v 16))))

/-- The presence bytes of n pages, all present. -/
def allPresent (n : Nat) : List Byte :=
  List.replicate (n / 8) 0xFF ++ (if n % 8 = 0 then [] else [BitVec.ofNat 8 (2 ^ (n % 8) - 1)])

/-- IMPORT_DONE (R272) of an entry; an import whose entry has been freed since copies nothing. -/
def execImportDone (e : Nat) (s : State) : Out :=
  .next (s.onK (fun s =>
    match s.pfx.imports.find? (fun x => x.1 == e) with
    | none => s
    | some x =>
      let l := s.pfx.imports.eraseP (fun x => x.1 == e)
      let s := { s with pfx := { s.pfx with imports := l } }
      let s := if l.isEmpty then s.setB IMPORT_BUSY false else s
      if s.f (clGen e) = x.2.1 ∧ s.f (clSt e) = 1 then
        let c := s.clutch e
        let n := c.importBytes
        let frm := s.eggAddr x.2.2
        let s := (s.stackEv 0x60 frm n).writeSpace 1 c.base (s.readSpace 1 frm n)
        let s := (s.writeSpace 1 c.presentAt (allPresent c.pages)).setF (clPresent e) c.pages
        s.raise PFX_CAUSE 6
      else s))

/-! ### Install packets (R274, R275) -/

/-- The down port toward die k of the tray (R211, Table SCP-4). -/
def State.diePort (s : State) (k : Nat) : Option Nat :=
  s.downPorts.find? (fun p => decide (s.peerExp p < 2 ^ 18) && s.peerExp p % 16 == k)

/-- Entries of a receive queue that the engine has not consumed. -/
def State.waiting (s : State) (p q : Nat) : Nat :=
  (s.rn (s.qa p q 0x2C) + 2 ^ 32 - tget (fun _ => 0) s.pfx.eaten (64 * p + q)) % 2 ^ 32

/-- The payload bytes of n unconsumed entries. -/
def State.peekRing (s : State) (p q n : Nat) : List Byte :=
  let at_ := tget (fun _ => 0) s.pfx.eaten (64 * p + q)
  (List.range n).flatMap (fun i =>
    (s.readSpace (s.rxSel p q) (s.ringAddr (s.rxSel p q) (s.qa p q 8) (s.rn (s.qa p q 0xC)) (at_ + i)) 256).take 240)

/-- Consume n entries. -/
def State.eat (s : State) (p q n : Nat) : State :=
  let k := 64 * p + q
  { s with pfx := { s.pfx with
    eaten := tset (fun _ => 0) s.pfx.eaten k ((tget (fun _ => 0) s.pfx.eaten k + n) % 2 ^ 32) } }

/-- Entries of a PAGE packet. -/
def pageEntries (c : Clutch) : Nat := ceilDiv (16 + c.pd + c.ps) 240

/-- A dropped install packet (R275). -/
def State.installDrop (s : State) (reason die ref : Nat) : State :=
  (((s.inc INSTALL_DROP).setN LAST_DROP (reason * 2 ^ 28 + die % 16 * 2 ^ 24 + ref % 2 ^ 24)).raise PFX_CAUSE 2).ev 0x75

/-- The notification of an install packet (R275). -/
def State.notifyInstall (s : State) (ntf : Option (Nat × Nat × Nat)) : State :=
  match ntf with
  | none => s
  | some (node, core, k) =>
    if node = s.f NODE_ID then s.devAdd (core * 256 + k) 1 (s.now + 36 * 65536)
    else if idOk node then
      s.remoteAdd (BitVec.ofNat 128 (2 ^ 124 + node * 2 ^ 92 + core * 2 ^ 84 + k * 2 ^ 78 + 2 ^ 64))
    else s.badReq 5 0 core k

/-- The notification that a header asks for. -/
def hdrNotify (h : Nat) : Option (Nat × Nat × Nat) :=
  if bitOf h 73 then some (bitsOf h 53 20, bitsOf h 45 8, bitsOf h 39 6) else none

/-- The presence bit of a page. -/
def State.pagePresent (s : State) (c : Clutch) (g : Nat) : Bool :=
  bitOf (leNat (s.readSpace 1 (c.presentAt + g / 8) 1)) (g % 8)

/-- Set it. -/
def State.setPresent (s : State) (c : Clutch) (g : Nat) : State :=
  let a := c.presentAt + g / 8
  let b := leNat (s.readSpace 1 a 1)
  s.writeSpace 1 a [BitVec.ofNat 8 (insBits b (g % 8) 1 1)]

/-- A header names a layer, head or page beyond a layout (R275). -/
def Clutch.beyond (c : Clutch) (h : Nat) : Bool :=
  decide (c.layers ≤ bitsOf h 92 8) || decide (c.heads ≤ bitsOf h 86 6) || decide (c.pph ≤ bitsOf h 74 12)

/-- A PAGE packet for entry i. -/
def State.installPg (s : State) (k i h : Nat) (bs : List Byte) : State :=
  let c := s.clutch i
  if c.beyond h then s.installDrop 3 k (bitsOf h 100 24)
  else if s.f (clSt i) ≠ 1 then s.installDrop 4 k (bitsOf h 100 24)
  else
    let g := (bitsOf h 92 8 * c.heads + bitsOf h 86 6) * c.pph + bitsOf h 74 12
    if s.pagePresent c g then s.notifyInstall (hdrNotify h)
    else
      let w : PageWr := { ent := i, gen := s.f (clGen i), page := g, data := (bs.drop 16).take (c.pd + c.ps), ntf := hdrNotify h }
      { s.setPresent c g with pfx := { s.pfx with writes := s.pfx.writes ++ [w] } }

/-- A SEAL or EVICT packet for entry i. -/
def State.installCmd (s : State) (k i h : Nat) : State :=
  let ref := bitsOf h 100 24
  if (s.clutch i).beyond h then s.installDrop 3 k ref
  else if bitsOf h 124 4 = 4 then
    if s.f (clSt i) ≠ 1 then s.installDrop 4 k ref
    else match s.sealCode i with
      | some c => ((s.cmdRefused c).raise PFX_CAUSE 4).installDrop 5 k ref
      | none => (s.doSeal i).notifyInstall (hdrNotify h)
  else if s.f (clSt i) ≠ 2 then s.installDrop 4 k ref
  else match s.evictCode i with
    | some c => (s.cmdRefused c).installDrop 5 k ref
    | none => (s.doEvict i).notifyInstall (hdrNotify h)

/-- How many entries are taken of a PAGE packet whose REF names no clutch: free (log entry 25). -/
def State.freeCount (s : State) : Nat := 1 + s.freeNat % 4096

/-- The install packet at the head of the queue of port p, of die k, if its KIND is one of these (R275). -/
def State.installAt (s : State) (p k : Nat) (kinds : List Nat) : State :=
  let q := s.f PFX_IQ
  let h := beNat ((s.peekRing p q 1).take 16)
  let kind := bitsOf h 124 4
  let ref := bitsOf h 100 24
  if s.waiting p q = 0 ∨ ¬ kinds.contains kind then s
  else if kind = 3 then
    match s.clNamed ref with
    | none => ((s.eat p q s.freeCount).took).installDrop 2 k ref
    | some i =>
      let n := pageEntries (s.clutch i)
      if s.waiting p q < n then s else (s.eat p q n).installPg k i h (s.peekRing p q n)
  else
    let s := s.eat p q 1
    if kind = 4 ∨ kind = 5 then
      match s.clNamed ref with
      | none => s.installDrop 2 k ref
      | some i => s.installCmd k i h
    else s.installDrop 1 k ref

/-- Queue IQ of die k carries install packets: the die takes part in an enabled pass (R274). -/
def State.installs (s : State) (k : Nat) : Bool :=
  (List.range 1024).any (fun j => bitOf (s.rn (passR j 0)) 31 && bitOf (s.rn (passR j 8)) (16 + k % 16))

/-- The install packet at the head of the ring of die k, if it is of a kind that the row takes (R274, R275). The number of
entries of a PAGE packet whose REF names no clutch is free (log entry 25). -/
def State.install (s : State) (k : Nat) (kinds : List Nat) : State :=
  match s.diePort k with
  | none => s
  | some p => if s.installs k then s.installAt p k kinds else s

/-- INSTALL_PAGE (R275) from a die: a PAGE packet, or one of a reserved KIND, which is dropped. -/
def execInstallPage (d : Nat) (s : State) : Out :=
  .next (s.onK (fun s => s.install d [0, 1, 2, 3, 6, 7, 8, 9, 10, 11, 12, 13, 14, 15]))

/-- INSTALL_SEAL (R275). -/
def execInstallSeal (d : Nat) (s : State) : Out := .next (s.onK (fun s => s.install d [4]))

/-- INSTALL_EVICT (R275). -/
def execInstallEvict (d : Nat) (s : State) : Out := .next (s.onK (fun s => s.install d [5]))

/-- PAGE_WRITE_DONE (R275): the oldest page write of a clutch entry completes. -/
def execPageWriteDone (e : Nat) (err : Bool) (s : State) : Out :=
  .next (s.onK (fun s =>
    match s.pfx.writes.find? (fun w => w.ent == e) with
    | none => s
    | some w =>
      let s := { s with pfx := { s.pfx with writes := s.pfx.writes.eraseP (fun w => w.ent == e) } }
      if s.f (clGen e) ≠ w.gen then s
      else if err then ((s.setB (clBad e) true).raise PFX_CAUSE 8).poisonFail
      else
        let c := s.clutch e
        let s := s.writeSpace 1 (c.base + w.page * c.pd) (w.data.take c.pd)
        let s := s.writeSpace 1 (c.scalesAt + w.page * c.ps) (w.data.drop c.pd)
        let s := ((s.setF (clPresent e) (s.f (clPresent e) + 1)).inc PAGES_IN).ev 0x74
        s.notifyInstall w.ntf))

/-! ### Passes (R276 to R282, R288) -/

/-- Fields of a pass entry. -/
def State.passEn (s : State) (j : Nat) : Bool := bitOf (s.rn (passR j 0)) 31
def State.passG (s : State) (j : Nat) : Nat := 2 ^ bitsOf (s.rn (passR j 0)) 28 3
def State.passCfmt (s : State) (j : Nat) : Nat := bitsOf (s.rn (passR j 0)) 26 2
def State.passD (s : State) (j : Nat) : Nat := 64 * 2 ^ bitsOf (s.rn (passR j 0)) 24 2
def State.passBf16 (s : State) (j : Nat) : Bool := bitOf (s.rn (passR j 0)) 23
def State.passTpg (s : State) (j : Nat) : Nat := s.rn (passR j 0) % 4096 + 1
def State.rowCap (s : State) (j : Nat) : Nat := s.rn (passR j 8) % 256
def State.passDies (s : State) (j : Nat) : List Nat := (List.range 16).filter (fun k => bitOf (s.rn (passR j 8)) (16 + k))

/-- The service tiles, ascending. -/
def State.svcTiles (s : State) : List Nat := (List.range 64).filter (fun l => bitOf (s.r64 SVC_TILES) l)

/-- Bytes of a query row and of a reply row. -/
def State.qb (s : State) (j : Nat) : Nat := if s.passCfmt j = 1 then 2 * s.passD j else s.passD j + s.passD j / 32
def State.rb (s : State) (j : Nat) : Nat := 8 + s.passD j * (if s.passBf16 j then 2 else 4)

/-- QF and RF: ring entries of a query and of a reply packet. -/
def State.passQf (s : State) (j : Nat) : Nat := ceilDiv (16 + s.rowCap j * s.qb j) 240
def State.passRf (s : State) (j : Nat) : Nat := ceilDiv (16 + s.rowCap j * s.rb j) 240

/-- Pages of one chunk. -/
def State.passC (s : State) (j : Nat) : Nat := ceilDiv (s.passTpg j) (s.passG j)

/-- ns that a service tile streams its bytes at its share. -/
def State.passStream (s : State) (j : Nat) : Nat :=
  let b := s.passC j * (pageData (s.passCfmt j) (s.passD j) + pageScales (s.passCfmt j) (s.passD j))
  ceilDiv (b * 64) (675 * s.share (s.svcTiles.headD 0))

/-- The terms of Table PFX-8. -/
def State.passM (s : State) (j : Nat) : Nat := s.rowCap j * (s.passDies j).length
def State.passN (s : State) (j : Nat) : Nat := 256 * s.passC j
def State.passW (s : State) (j : Nat) : Nat := if s.passCfmt j = 1 then 4 else 2
def State.passB1 (s : State) (j : Nat) : Nat := ceilDiv (s.passM j) 128 * ceilDiv (s.passN j) 128
def State.passB2 (s : State) (j : Nat) : Nat := ceilDiv (s.passM j) 128 * ceilDiv (s.passD j) 128
def State.passS (s : State) (j : Nat) : Nat := ceilDiv (s.passM j * s.passN j) 256 + 32

/-- C of Table PFX-8, cycles. -/
def State.passCycles (s : State) (j : Nat) : Nat :=
  64 + ceilDiv (s.passM j * s.qb j) 4096 + ceilDiv (s.passB1 j) 4 * s.passD j * s.passW j + s.passS j +
    ceilDiv (s.passB2 j) 4 * s.passN j * s.passW j +
    bitsOf (s.rn (passR j 0)) 28 3 * (ceilDiv (s.passM j * (s.passD j + 2)) 1024 + 24) +
    32 + ceilDiv (s.passM j * s.rb j) 4096

/-- L of R288, ns. -/
def State.passL (s : State) (j : Nat) : Nat := 800 + s.passStream j + ceilDiv (2 * s.passCycles j) 3

/-- I of Table PFX-8, ns. -/
def State.passI (s : State) (j : Nat) : Nat :=
  max (ceilDiv ((s.passB1 j * s.passD j + s.passB2 j * s.passN j) * s.passW j) 6)
    (max (s.passStream j) (ceilDiv (2 * s.passS j) 3))

/-- The query formats: FMT of Q, K and V elements, and of P. -/
def qFmt (cfmt : Nat) : Nat := if cfmt = 1 then 5 else 10
def kvFmt (cfmt : Nat) : Nat := match cfmt with | 0 => 10 | 1 => 5 | _ => 8
def pFmt (cfmt : Nat) : Nat := if cfmt = 1 then 5 else 2

/-- The cache blocks of a resident page, as addresses of the bonded logical space (R285). -/
def State.residentAt (s : State) (i g : Nat) : Option Nat :=
  ((s.listed 0x3060000 0x30E0000).find? (fun x =>
    x.1 % 8 == 0 && bitOf x.2.toNat 31 && bitsOf x.2.toNat 16 12 == i && s.rn (x.1 + 4) == g)).map
    (fun x => (s.f CACHE_BASE + x.2.toNat % 65536) * 65536)

/-- The data and the scales of a page, from the cache where it is resident (R285). -/
def State.pageBytes (s : State) (i g : Nat) : List Byte × List Byte :=
  let c := s.clutch i
  let data := match s.residentAt i g with
    | some a => s.readSpace 0 a c.pd
    | none => s.readSpace 1 (c.base + g * c.pd) c.pd
  (data, s.readSpace 1 (c.scalesAt + g * c.ps) c.ps)

/-- Elements of packed bytes, without scales. -/
def elemsOf (c n : Nat) (bs : List Byte) : List Val := (List.range n).map (fun i => decodeElem c (unpackElem c bs i))

/-- The K rows of a page: elements and scales. -/
def pageK (c d : Nat) (data scales : List Byte) : List (List Val × List Nat) :=
  (List.range 256).map (fun r =>
    let rb := elemBytes c d
    (elemsOf c d ((data.drop (r * rb)).take rb), if isScaled c then ((scales.drop (r * (d / 32))).take (d / 32)).map (·.toNat) else []))

/-- The V columns of a page: elements, and the scales of their 8 blocks of tokens, which lie column by column
(log entry 26). -/
def pageV (c d : Nat) (data scales : List Byte) : List (List Val × List Nat) :=
  let rb := elemBytes c d
  let rows := (List.range 256).map (fun r => elemsOf c d ((data.drop (256 * rb + r * rb)).take rb))
  (List.range d).map (fun k =>
    (rows.map (fun r => r.getD k vZero), if isScaled c then ((scales.drop (8 * d + 8 * k)).take 8).map (·.toNat) else []))

/-- A triple of one row: m, l, O. -/
structure Triple where
  m : Val
  l : Val
  o : List Val

/-- One chunk of a pass for one query row (R279): the triple, and whether NUM_INVALID is raised. A NaN in V makes m and l
NaN as well, as one in Q or K does (R281). -/
def chunkTriple (cfmt d : Nat) (scale : Val) (q : List Val × List Nat) (pages : List (List Byte × List Byte)) : Triple × Bool :=
  if pages.isEmpty then ({ m := .inf true, l := vZero, o := List.replicate d vZero }, false)
  else
    let c := kvFmt cfmt
    let ks := pages.flatMap (fun x => pageK c d x.1 x.2)
    let ss := ks.map (fun k => round32 ((macChunks (d / 32 + 1) q.1 k.1 q.2 k.2 vZero).mul scale))
    let r := softRow ss (val32 0x3F800000)
    let vs := pages.map (fun x => pageV c d x.1 x.2)
    if vs.any (fun v => v.any (fun y => y.1.any Val.isNan || y.2.any (· == 0xFF))) then
      ({ m := .nan, l := .nan, o := List.replicate d .nan }, true)
    else
    let ps := r.1.map (fun v => decodeElem (pFmt cfmt) (convert (pFmt cfmt) v).code)
    let o := (List.range d).map (fun k =>
      let col := vs.flatMap (fun v => (v.getD k ([], [])).1)
      let scl := vs.flatMap (fun v => (v.getD k ([], [])).2)
      round32 (macChunks (8 * pages.length + 1) ps col [] scl vZero))
    ({ m := r.2.1, l := r.2.2.1, o := o }, r.2.2.2)

/-- Merge neighbours level by level (R279): the triple of service tile 0, and the places at which NUM_INVALID is
raised. -/
def combine : Nat → Nat → List (Nat × Triple) → List Nat → List (Nat × Triple) × List Nat
  | 0, _, l, bad => (l, bad)
  | n + 1, w, l, bad =>
    let r := l.foldl (fun (a : List (Nat × Triple) × List Nat) x =>
      match a.1 with
      | (t, y) :: rest =>
        if x.1 % (2 * w) = w ∧ t + w = x.1 then
          let mr := mergeRow y.o x.2.o y.m y.l x.2.m x.2.l false
          ((t, { m := mr.2.1, l := mr.2.2.1, o := mr.1 }) :: rest, if mr.2.2.2 then t :: a.2 else a.2)
        else (x :: a.1, a.2)
      | [] => ([x], a.2)) ([], bad)
    combine n (2 * w) r.1.reverse r.2

/-- The triple of a query row against (layer, head) of a clutch, and the service tiles that raise NUM_INVALID. -/
def State.rowTriple (s : State) (j i layer head : Nat) (q : List Val × List Nat) : Triple × List Nat :=
  let c := s.clutch i
  let g0 := (layer * c.heads + head) * c.pph
  let n := s.passC j
  let ts := (List.range (s.passG j)).map (fun t =>
    let ps := (List.range n).filterMap (fun x => if t * n + x < c.pph then some (s.pageBytes i (g0 + t * n + x)) else none)
    (t, chunkTriple c.cfmt c.d (val32 (s.rn (clE i 0xC))) q ps))
  let bad := (ts.filter (fun x => x.2.2)).map (·.1)
  let r := combine (bitsOf (s.rn (passR j 0)) 28 3) 1 (ts.map (fun x => (x.1, x.2.1))) bad
  ((r.1.head?.map (·.2)).getD { m := .inf true, l := vZero, o := List.replicate c.d vZero }, r.2)

/-- A query packet: its die, port, header and bytes. -/
structure Query where
  die : Nat
  port : Nat
  hdr : Nat
  bytes : List Byte

/-- Fields of a query header (Table PFX-5). -/
def qRows (h : Nat) : Nat := bitsOf h 78 8

/-- BAD_HDR of Table PFX-6. -/
def State.badHdr (s : State) (j h : Nat) : Bool :=
  bitsOf h 124 4 != 1 || bitsOf h 46 10 != j || bitsOf h 56 16 != s.step % 2 ^ 16 ||
    bitsOf h 76 2 != (if s.passCfmt j = 1 then 1 else 0)

/-- A clutch is servable in the running step (R271). -/
def State.servable (s : State) (i : Nat) : Bool :=
  s.f (clSt i) == 2 && !s.bit (clBad i) && decide (s.i64 (clSealStep i) < (s.step : Int)) &&
    decide ((s.step : Int) ≤ s.i64 (clEvictStep i))

/-- ABSENT of Table PFX-6, by the lead packet: none, or the entry that serves. -/
def State.leadEntry (s : State) (j h : Nat) : Option Nat :=
  match s.clNamed (bitsOf h 100 24) with
  | none => none
  | some i =>
    let c := s.clutch i
    if s.servable i && c.cfmt == s.passCfmt j && c.d == s.passD j && decide (c.pph ≤ s.passTpg j) &&
        decide (bitsOf h 92 8 < c.layers) && decide (bitsOf h 86 6 < c.heads) then some i
    else none

/-- The status of one query (Table PFX-6). -/
def State.queryStatus (s : State) (j : Nat) (lead : Option Query) (x : Query) : Nat :=
  if s.badHdr j x.hdr then 4
  else if s.rowCap j < qRows x.hdr then 3
  else match lead with
    | none => 0
    | some y =>
      if bitsOf x.hdr 86 38 ≠ bitsOf y.hdr 86 38 then 2
      else if (s.leadEntry j y.hdr).isNone then 1 else 0

/-- Row i of a query packet. -/
def State.queryRow (s : State) (j : Nat) (x : Query) (i : Nat) : List Val × List Nat :=
  let bs := (x.bytes.drop (16 + i * s.qb j)).take (s.qb j)
  let d := s.passD j
  (elemsOf (qFmt (s.passCfmt j)) d bs, if s.passCfmt j = 1 then [] else ((bs.drop d).take (d / 32)).map (·.toNat))

/-- The reply header (Table PFX-5). -/
def State.replyHdr (s : State) (j h rows status : Nat) : List Byte :=
  beBytes 16 (2 * 2 ^ 124 + bitsOf h 86 38 * 2 ^ 86 + rows % 256 * 2 ^ 78 + status * 2 ^ 73 + b2n (s.passBf16 j) * 2 ^ 72 +
    s.step % 2 ^ 16 * 2 ^ 56 + j * 2 ^ 46)

/-- The rows of a served packet: their bytes, and the service tiles that raise NUM_INVALID. -/
def State.serveRows (s : State) (j i : Nat) (x : Query) : List Byte × List Nat :=
  let rs := (List.range (qRows x.hdr)).map (fun r =>
    s.rowTriple j i (bitsOf x.hdr 92 8) (bitsOf x.hdr 86 6) (s.queryRow j x r))
  (rs.flatMap (fun r => word32 r.1.m ++ word32 r.1.l ++
      packElems (if s.passBf16 j then 5 else 7) (r.1.o.map (fun v => (convert (if s.passBf16 j then 5 else 7) v).code))),
    rs.flatMap (·.2))

/-- Fill a packet with zeros to n ring entries. -/
def padTo (n : Nat) (bs : List Byte) : List Byte := bs ++ List.replicate (240 * n - bs.length) 0

/-- The page reads of a pass that the cache serves. -/
def State.cacheHits (s : State) (i layer head : Nat) : Nat :=
  let c := s.clutch i
  ((List.range c.pph).filter (fun p => (s.residentAt i ((layer * c.heads + head) * c.pph + p)).isSome)).length

/-- The stack reads of a pass: of each page, its data where the cache does not hold it, and its scales (R285, Table HST-7). -/
def State.pageReads (s : State) (i layer head : Nat) : List (Nat × Nat) :=
  let c := s.clutch i
  (List.range c.pph).flatMap (fun p =>
    let g := (layer * c.heads + head) * c.pph + p
    (if (s.residentAt i g).isSome then [] else [(c.base + g * c.pd, c.pd)]) ++ [(c.scalesAt + g * c.ps, c.ps)])

/-- The queries of a pass, in order of die; none while some die's have not arrived. -/
def State.queries (s : State) (j : Nat) : Option (List Query) :=
  (s.passDies j).mapM (fun k =>
    match s.diePort k with
    | none => none
    | some p =>
      if s.waiting p (s.f PFX_QQ) < s.passQf j then none
      else
        let bs := s.peekRing p (s.f PFX_QQ) (s.passQf j)
        some { die := k, port := p, hdr := beNat (bs.take 16), bytes := bs })

/-- A pass runs: its statuses, its computation and the replies that it holds (R278, R279, R282). -/
def State.runPass (s : State) (j : Nat) (qs : List Query) : State :=
  let lead := qs.find? (fun x => !s.badHdr j x.hdr && decide (qRows x.hdr ≤ s.rowCap j) && decide (0 < qRows x.hdr))
  let ent := lead.bind (fun y => s.leadEntry j y.hdr)
  let st := qs.map (fun x => (x, s.queryStatus j lead x))
  let bad := (st.filter (fun x => x.2 != 0)).length
  let outs := st.map (fun x =>
    match (if x.2 = 0 then ent else none) with
    | some i => (x.1.port, s.serveRows j i x.1, x.1, x.2)
    | none => (x.1.port, ([], []), x.1, x.2))
  let replies := outs.map (fun o =>
    (o.1, padTo (s.passRf j) (s.replyHdr j o.2.2.1.hdr (if o.2.2.2 = 0 then qRows o.2.2.1.hdr else 0) o.2.2.2 ++ o.2.1.1)))
  let svc := s.svcTiles
  let inv := outs.flatMap (fun o => o.2.1.2)
  let s := s.each qs (fun s x => s.eat x.port (s.f PFX_QQ) (s.passQf j))
  let s := if bad = 0 then s else ((s.addN REFUSED_PKTS bad).raise PFX_CAUSE 1).evN 0x73 0 bad
  let s := match lead, ent with
    | some y, some i =>
      let n := s.cacheHits i (bitsOf y.hdr 92 8) (bitsOf y.hdr 86 6)
      let s := (s.inc (clReads i)).each (s.pageReads i (bitsOf y.hdr 92 8) (bitsOf y.hdr 86 6)) (fun s x => s.stackEv 0x60 x.1 x.2)
      if n = 0 then s else (s.addN CACHE_READS n).evN 0x76 0 n
    | _, _ => s
  let s := s.each inv (fun s t => s.numEvents (s.physOf (svc.getD t 0)) 1 0)
  let run : PassRun := { j := j, due := s.now + s.passL j * 65536, replies := replies }
  { ((s.inc PASSES).ev 0x70).setB PASS_RUN true with
    pfx := { s.pfx with nextJ := j + 1, lastStart := some (j, s.now), runs := s.pfx.runs ++ [run] } }

/-- PASS_START[j], 2^-16 ns after T(n). -/
def State.passAt (s : State) (j : Nat) : Nat := s.leap.firedAt + s.rn (passR j 4) * 65536

/-- PASS_START (R277). -/
def execPassStart (j : Nat) (s : State) : Out :=
  .next (s.onK (fun s =>
    let first := (List.range (j - s.pfx.nextJ)).all (fun i => !s.passEn (s.pfx.nextJ + i))
    let spaced := match s.pfx.lastStart with
      | none => true
      | some x => decide (x.2 + s.passI x.1 * 65536 ≤ s.now)
    if decide (j < 1024) && s.armed && s.pfx.inStep && s.passEn j && decide (s.pfx.nextJ ≤ j) && first &&
        decide (s.passAt j ≤ s.now) && spaced then
      match s.queries j with
      | none => s
      | some qs =>
        let s := if s.passAt j / 65536 < s.nowNs then ((s.inc LATE_PASS).raise PFX_CAUSE 0).ev 0x71 else s
        s.runPass j qs
    else s))

/-- Physical tile and block belong to the staging of a service tile of pass j, or to the page cache (R276, R285). -/
def State.passBlock (s : State) (j t b : Nat) : Bool :=
  (s.svcTiles.take (s.passG j)).any (fun l => s.physOf l == t && decide (96 * 16 ≤ b)) ||
    (match s.logicalOf t with
      | some l => decide (s.f CACHE_BASE ≤ l * 2048 + b ∧ l * 2048 + b < s.f CACHE_BASE + s.f CACHE_BLOCKS)
      | none => false)

/-- A pass waits while a block that it reads is being refetched (R287). -/
def State.passHeld (s : State) (j : Nat) : Bool :=
  s.tiles.any (fun x => x.2.refetch.any (fun b => s.passBlock j x.1 b))

/-- PASS_REPLY_POST (R282, R287). -/
def execPassReplyPost (j : Nat) (s : State) : Out :=
  .next (s.onK (fun s =>
    let me := fun (r : PassRun) => r.j == j && decide (r.due ≤ s.now) && !s.passHeld j
    match s.pfx.runs.find? me with
    | none => s
    | some r =>
      let l := s.pfx.runs.eraseP me
      let s := { s with pfx := { s.pfx with runs := l } }
      let s := if l.isEmpty then s.setB PASS_RUN false else s
      let s := if r.due / 65536 < s.nowNs then ((s.inc LATE_PASS).raise PFX_CAUSE 0).ev 0x71 else s
      s.each r.replies (fun s x =>
        let q := s.f PFX_RQ
        let p := x.1
        let n := x.2.length / 240
        let post := s.rn (s.qa p q 0x20)
        let v := s.refVal post
        let s := s.each (List.range n) (fun s i =>
          s.writeSpace (s.txSel p q) (s.ringAddr (s.txSel p q) (s.qa p q 0x18) (s.rn (s.qa p q 0x1C)) (v + i))
            (ringBytes 240 ((x.2.drop (240 * i)).take 240)))
        s.devAdd post n s.now)))

/-! ### Migration (R285, R286) -/

/-- The entry of the clutch table that migration picks: the servable one with the highest CL_READS, the lower index
first. -/
def State.migPick (s : State) : Option Nat :=
  (s.clUsed.filter (fun i => s.servable i)).foldl (fun b i =>
    match b with
    | none => some i
    | some k => if s.rn (clReads k) < s.rn (clReads i) then some i else some k) none

/-- The valid residence entries outside a list of demoted clutches: clutch, page and first block. -/
def State.residents (s : State) (drop : List Nat) : List (Nat × Nat × Nat) :=
  (s.listed 0x3060000 0x30E0000).filterMap (fun x =>
    if x.1 % 8 = 0 ∧ bitOf x.2.toNat 31 ∧ ¬ drop.contains (bitsOf x.2.toNat 16 12) then
      some (bitsOf x.2.toNat 16 12, s.rn (x.1 + 4), x.2.toNat % 65536)
    else none)

/-- Cache blocks of a page. -/
def State.pageBlocks (s : State) (i : Nat) : Nat := ceilDiv (s.clutch i).pd 65536

/-- The lowest run of n free cache blocks (log entry 27). -/
def State.freeRun (s : State) (n : Nat) (drop : List Nat) (new : List MigPage) : Option Nat :=
  let used := (s.residents drop).map (fun x => (x.2.2, s.pageBlocks x.1)) ++ new.map (fun x => (x.block, s.pageBlocks x.ent))
  (List.range (s.f CACHE_BLOCKS + 1 - n)).find? (fun b => used.all (fun u => !overlaps b (b + n) u.1 (u.1 + u.2)))

/-- The entry to demote for one of a count: the lowest CL_READS that holds blocks and lies below it. -/
def State.demote (s : State) (pick : Nat) (drop : List Nat) : Option Nat :=
  let holds := (sortBy (fun (a b : Nat) => decide (a < b)) ((s.residents drop).map (·.1))).eraseDups
  match holds.foldl (fun (b : Option Nat) i =>
      match b with
      | none => some i
      | some k => if s.rn (clReads i) < s.rn (clReads k) then some i else some k) none with
  | some k => if s.rn (clReads k) < s.rn (clReads pick) then some k else none
  | none => none

/-- Choose the pages to copy: n more, from page g of the picked entry. -/
def State.migChoose (s : State) (i : Nat) : Nat → Nat → Nat → List Nat → List MigPage → List Nat × List MigPage
  | 0, _, _, drop, new => (drop, new)
  | f + 1, n, g, drop, new =>
    if n = 0 ∨ (s.clutch i).pages ≤ g then (drop, new)
    else if (s.residents drop).any (fun x => x.1 == i && x.2.1 == g) || new.any (fun x => x.ent == i && x.page == g) then
      s.migChoose i f n (g + 1) drop new
    else match s.freeRun (s.pageBlocks i) drop new with
      | some b =>
        s.migChoose i f (n - 1) (g + 1) drop (new ++ [{ ent := i, gen := s.f (clGen i), page := g, block := b }])
      | none =>
        match s.demote i drop with
        | some k => s.migChoose i f n g (k :: drop) new
        | none => (drop, new)

/-- The time of the oldest migration slot that has not opened has come (R286). -/
def State.migDue (s : State) : Bool :=
  s.bit MIG_EN && decide (1 ≤ s.share 65) && s.pfx.slots.head?.any (fun t => decide (t + s.rn MIG_OFS * 65536 ≤ s.now))

/-- The pages that a slot copies, and the entries it demotes: the pages of the slots still open count as resident, the
entries that those demote as without residence. -/
def State.migPages (s : State) : List Nat × List MigPage :=
  match s.migPick with
  | none => ([], [])
  | some i =>
    let drop := s.pfx.migs.flatMap (·.drop)
    let new := s.pfx.migs.flatMap (·.pages)
    let r := s.migChoose i ((s.clutch i).pages + 4096) (s.f MIG_PAGES) 0 drop new
    (r.1.take (r.1.length - drop.length), r.2.drop new.length)

/-- The address of a CL_READS. -/
def isReads (a : Nat) : Bool := decide (clE 0 0 ≤ a ∧ a < clE 4096 0 ∧ (a - clE 0 0) % 0x40 = 0x24)

/-- MIGRATION_SLOT (R286). The copies of one slot follow those of the slots before it (DESIGN CHOICE, log entry 152). -/
def execMigrationSlot (s : State) : Out :=
  .next (s.onK (fun s =>
    if s.migDue then
      let ch := s.migPages
      let bytes := ch.2.foldl (fun n x => n + (s.clutch x.ent).pd) 0
      let ns := if bytes = 0 then 0 else transferNs true (s.share 65) bytes
      let from_ := s.pfx.migs.foldl (fun t m => if m.done then t else max t m.due) s.now
      let m : Mig := { due := from_ + ns * 65536, done := false, drop := ch.1, pages := ch.2 }
      let s := { s with regs := s.regs.filter (fun x => !isReads x.1) }
      { s.setB MIG_ACTIVE true with pfx := { s.pfx with slots := s.pfx.slots.tail, migs := s.pfx.migs ++ [m] } }
    else s))

/-- MIGRATION_COPY_DONE (R286). -/
def execMigrationCopyDone (s : State) : Out :=
  .next (s.onK (fun s =>
    let me := fun (m : Mig) => !m.done && decide (m.due ≤ s.now)
    match s.pfx.migs.findIdx? me with
    | none => s
    | some i =>
      let l := s.pfx.migs.modify i (fun m => { m with done := true })
      { s.setB MIG_ACTIVE (l.any (fun m => !m.done)) with pfx := { s.pfx with migs := l } }))

/-- One copied page becomes resident: its blocks hold the copy and are clean (R286). -/
def State.migPage (s : State) (x : MigPage) : State :=
  if s.f (clGen x.ent) ≠ x.gen ∨ s.f (clSt x.ent) = 0 then s
  else
    let c := s.clutch x.ent
    let a := (s.f CACHE_BASE + x.block) * 65536
    let frm := c.base + x.page * c.pd
    let s := (s.stackEv 0x60 frm c.pd).writeSpace 0 a (s.readSpace 1 frm c.pd)
    let s := s.each (List.range (s.pageBlocks x.ent)) (fun s k =>
      let b := a + 65536 * k
      s.setClean (s.physOf (b / tileBytes)) (b % tileBytes / 65536) (some (frm + 65536 * k)))
    match (List.range 65536).find? (fun e => !bitOf (s.rn (residA e)) 31) with
    | none => s
    | some e => ((s.setN (residA e) (2 ^ 31 + x.ent * 2 ^ 16 + x.block)).setN (residB e) x.page).inc MIGRATED |>.ev 0x77

/-- A step begins: the passes of the step before that have not started are abandoned (R277). -/
def State.passesLeap (s : State) : State :=
  let n := if s.pfx.inStep then ((List.range (1024 - s.pfx.nextJ)).filter (fun i => s.passEn (s.pfx.nextJ + i))).length else 0
  let s := if n = 0 then s else (s.addN PASS_ABANDON n).evN 0x72 0 n
  { s with pfx := { s.pfx with inStep := true, nextJ := 0, lastStart := none } }

/-- The migration slots whose copies have completed take effect (R286). -/
def State.migLeap (s : State) : State :=
  let t := { s with pfx := { s.pfx with migs := s.pfx.migs.filter (fun m => !m.done) } }
  t.each (s.pfx.migs.filter (·.done)) (fun s m =>
    let s := s.each m.drop (fun s i => s.dropResid i)
    (s.each m.pages (fun s x => s.migPage x)).raise PFX_CAUSE 9)

/-- Step c + 1 begins: where c is a commit step, its migration slot is to open (R286). -/
def State.slotLeap (s : State) : State :=
  if s.bit MIG_EN && s.step != 0 && stepBefore s.step % s.f COMMIT_EVERY == 0 then
    { s with pfx := { s.pfx with slots := s.pfx.slots ++ [s.leap.firedAt] } }
  else s

/-- The fire cycle of a leap, for the prefix engine: abandoned passes (R277), and residence changes (R286). -/
def State.pfxLeap (s : State) : State := s.passesLeap.migLeap.slotLeap

end Sys2Proof.Machine
end

