-- ==== Sys2Proof/Machine/Fire.lean ====
section
/-! DEFINITION. The firing of a leap (R116 to R119, R128, R303, R330). -/

namespace Sys2Proof.Machine

/-- E in 2^-40 ns. -/
def State.launch40 (s : State) : Int := ((s.launchAt * 2 ^ 24 : Nat) : Int)

/-- The phase p of R118 of E against the edge with hall time h, before its carry. -/
def State.firePhase (s : State) (h : Int) : Nat :=
  let inc := s.r64 TIME_INCR
  ((16 * (s.launch40 - h) + inc) / (2 * (inc : Int))).toNat

/-- The edge of the local clock that R118 names e, as the hall time H(e) there: the reading of the last edge that is not
later than E, 2^-40 ns. -/
def State.fireEdge (s : State) : Int :=
  let inc := s.r64 TIME_INCR
  (s.time : Int) - (ceilDiv ((s.time : Int) - s.launch40).toNat inc * inc : Nat)

/-- The edge with hall time h is e of R118. -/
def State.isFireEdge (s : State) (h : Nat) : Bool := decide ((h : Int) ≤ s.launch40) && decide (s.launch40 < h + s.r64 TIME_INCR)

/-- Drive the leap fire outputs with phase p (Table LEP-6). -/
def State.driveFire (s : State) (p : Nat) : State :=
  { s with outs := { s.outs with
      fireStb := true, fireStep := s.pendStep, firePhase := p % 8, fireAt := some s.launchAt } }

/-- The strobe of a leap that is sure to fire, and of no other (R402), belongs to the cycle that begins now: it ends at the
edge where the fire cycle begins, which is e, or the edge after it where p is 8 (R118). -/
def State.fireAhead (s : State) : State :=
  let next := s.time + s.r64 TIME_INCR
  if ¬ s.launchSure ∨ s.outs.fireAt = some s.launchAt then s
  else if s.isFireEdge next && decide (s.firePhase next < 8) then s.driveFire (s.firePhase next)
  else if s.isFireEdge s.time && s.firePhase s.time == 8 then s.driveFire 0
  else s

/-- The region strobe of a switch to profile p due at t belongs to the cycle that begins now: it ends at the edge nearest
to t, of two the later (R307). -/
def State.switchAhead (s : State) (x : Nat × Nat) : State :=
  let inc : Int := s.r64 TIME_INCR
  let next := s.time + s.r64 TIME_INCR
  let d : Int := (next : Int) - (x.1 * 2 ^ 24 : Nat)
  if s.outs.regionAt ≠ some x.1 ∧ -inc < 2 * d ∧ 2 * d ≤ inc then s.driveSwitch x.2 x.1 next else s

/-- The number of cycles until the reading is an instant, 2^-16 ns, or later. -/
def State.cyclesTo (s : State) (t : Nat) : Nat := ceilDiv (t * 2 ^ 24 - s.time) (s.r64 TIME_INCR)

/-- The strobes of a block in the local-clock cycle that begins now (R118, R307): a software epoch that falls in the cycle
of a plan epoch is to be discarded and has none (R129). -/
def State.strobes (s : State) : State :=
  if s.part.isK then s
  else
    let s := s.fireAhead
    match (if s.launchSure then s.planEpochAt s.pendStep else none), s.leap.epoch with
    | some p, some x => (if s.cyclesTo x.1 = s.cyclesTo s.launchAt then s else s.switchAhead x).switchAhead (s.launchAt, p)
    | some p, none => s.switchAhead (s.launchAt, p)
    | none, some x => s.switchAhead x
    | none, none => s

/-- The fire instant at the TDC. A block whose outputs were not driven before it, because the reading moved past E,
drives them now (DESIGN CHOICE, log entry 126); a Krasesta fires at its time-clock edge (R118). -/
def State.fireStrobe (s : State) : State :=
  if s.part.isK then s.tdcNow 0x10
  else
    let h := s.fireEdge
    let p := s.firePhase h
    let s := if s.outs.fireAt = some s.launchAt then s else s.driveFire p
    s.tdcEdge 0x10 ((8 * h + (p * s.r64 TIME_INCR : Nat)) * 125 / 2 ^ 32)

/-- READY_TARGET at a fire (R117, R119). -/
def State.fireTarget (s : State) : State :=
  if s.leap.firstLeap then { s with leap := { s.leap with firstLeap := false } }
  else
    let t := s.rn READY_TARGET + s.rn READY_STRIDE
    if t > 0xFFFFFFFF then
      (({ s with leap := { s.leap with voteOff := true } }).raise LEAP_CAUSE 7).formFail 3 (s.f NODE_ID)
    else s.setN READY_TARGET t

/-- The step report of the step that ends: none at the first leap of a run, and what came before it belongs to no step
(R330, Table FLT-14). -/
def State.fireReport (s : State) : State :=
  if s.pendStep = s.leap.n0 then
    { s with flt := { s.flt with rpt := {} }, leap := { s.leap with skipsInStep := 0 } }
  else s.stepReport false

/-- A plan epoch due at step n; a software epoch of the same cycle is discarded (R128, R129). The pre-raise of a switch
at the next step begins (R295). -/
def State.fireEpoch (s : State) (n e : Nat) : State :=
  let s := match s.planEpochAt n with
    | none => s
    | some p =>
      let s := (s.switchStrobe p e).raise LEAP_CAUSE 10
      match s.leap.epoch with
      | some (t, _) => if s.reached t then s.dropEpoch.raise LEAP_CAUSE 11 else s
      | none => s
  if (s.planEpochAt ((n + 1) % 2 ^ 64)).isSome then s.holdVolts else s

/-- The fire cycle of leap n (R117). -/
def State.fire (s : State) : State :=
  let n := s.pendStep
  let e := s.launchAt
  let s := ((s.latchStretch.fireReport).perfFire).fireStrobe
  let s := (s.setR64 STEP_COUNT n).setB GO_HELD false
  let s := { s with leap := { s.leap with firedAt := e, firedPrev := s.leap.firedAt } }.stepFired e
  let s := s.setR96 NEXT_LAUNCH (tsOf (e + s.r64 LEAP_PERIOD * 65536))
  let s := (s.fireTarget).fireEpoch n e
  let s := if s.part.isK then s.tilesLeap.pfxLeap else s
  ((s.raise LEAP_CAUSE 0).ev 2).leapChecks

/-- LEAP_FIRE (R117). -/
def execLeapFire (s : State) : Out := .next (if s.fireDue then s.fire else s)

end Sys2Proof.Machine
end

