-- ==== Sys2Proof/Machine/Flags.lean ====
section
/-! DEFINITION. The cause tree (R380, R381): INT_SUMMARY and the second-level summaries as functions of the cause and
mask registers, the interrupt lines (R382) and the MSI-X vector (R383). -/

namespace Sys2Proof.Machine

/-- A cause register has a bit that its mask passes. -/
def State.passes (s : State) (cause mask : Nat) : Bool := (s.r cause &&& s.r mask) != 0

/-- A CAUSE register and the MASK register in the next word. -/
def State.passes4 (s : State) (cause : Nat) : Bool := s.passes cause (cause + 4)

/-- LINK_SUM, TILE_SUM and STACK_SUM bits (R381). -/
def State.linkSum (s : State) (p : Nat) : Bool := s.passes (s.pa p 0xC) (s.pa p 0x10)
def State.tileSum (s : State) (t : Nat) : Bool := s.passes4 (0x2000004 + 0x20000 * t)
def State.stackSum (s : State) (st : Nat) : Bool := s.passes4 (0x3400004 + 0x10000 * st)

/-- The source of INT_SUMMARY bit b (Table HST-5). -/
def State.intBit (s : State) (b : Nat) : Bool :=
  let k := s.part.isK
  match b with
  | 0 => (s.r CFG_CAUSE &&& (s.r (CFG_CAUSE + 4) ||| 8)) != 0
  | 1 => (s.r GK_CAUSE &&& s.r (GK_CAUSE + 4) &&& 0xFF) != 0
  | 2 => s.passes4 TIME_CAUSE
  | 3 => if k then s.passes4 0x300000 else s.passes4 0x118000
  | 4 => s.passes4 LEAP_CAUSE
  | 5 => s.passes4 REGION_CAUSE
  | 6 => s.passes4 CNT_CAUSE
  | 7 => s.passes4 BAR_CAUSE
  | 8 => if k then (List.range 72).any (fun p => s.linkSum p) else s.linkSum 0
  | 9 => s.passes4 Q_CAUSE
  | 10 => s.passes4 FLT_CAUSE
  | 11 => s.passes4 0x1C0004
  | 16 => k && s.passes4 CLK_CAUSE
  | 17 => k && s.passes4 NET_CAUSE
  | 18 => k && s.passes4 HST_CAUSE
  | 19 => k && (List.range 72).any (fun t => s.tileSum t)
  | 20 => k && (List.range 6).any (fun t => s.stackSum t)
  | 21 => k && s.passes4 PFX_CAUSE
  | 22 => k && s.passes4 RGX_CAUSE
  | 23 => k && s.passes4 EFT_CAUSE
  | 24 => k && s.passes4 0x800004
  | _ => false

/-- A word of bits: bit j is g (base + j). -/
def mapBits (g : Nat → Bool) (base n : Nat) : Nat :=
  (List.range n).foldl (fun w j => if g (base + j) then w + 2 ^ j else w) 0

/-- INT_SUMMARY. -/
def State.intSummary (s : State) : Nat := mapBits s.intBit 0 32

/-- INT_SUMMARY is not 0: IRQ_N is low, or the IRQ output of a block is high (R382). -/
def State.irq (s : State) : Bool := s.intSummary != 0

/-- The MSI-X message is sent: its address and data are those of the table (R383, R424). -/
def State.msixSend (s : State) : State :=
  { s with outs := { s.outs with msix := s.outs.msix + 1, msixAt := s.r64 0x8000, msixData := s.rn 0x8008 } }

/-- MSI-X is enabled, and neither the function nor the vector is masked (R383). -/
def State.msixOpen (s : State) : Bool := s.bit MSIX_EN && !s.bit MSIX_MASKED

/-- An event that sends the MSI-X message: with the vector or the function masked the Pending Bit is set instead, and
with Bus Master Enable 0 the message waits, behind those that wait already (R379, R383). -/
def State.msixEvent (s : State) : State :=
  if ¬ s.part.isK then s
  else if ¬ s.msixOpen then { s with outs := { s.outs with msixPend := true } }
  else if s.bit BME then s.msixSend
  else { s with host := { s.host with msixWait := s.host.msixWait + 1 } }

/-- A mask has changed: the message leaves if the Pending Bit is still set and nothing masks it (R383). -/
def State.msixAgain (s : State) : State :=
  if s.outs.msixPend && s.msixOpen then ({ s with outs := { s.outs with msixPend := false } }).msixEvent else s

/-- Follow INT_SUMMARY: a change from 0 sends a message, and the Pending Bit clears at 0 (R383). -/
def State.followInt (s : State) : State :=
  let now := s.irq
  let s' := { s with host := { s.host with sum := now } }
  if now && !s.host.sum then s'.msixEvent
  else if now then s'
  else { s' with outs := { s'.outs with msixPend := false } }

end Sys2Proof.Machine
end

