-- ==== Sys2Proof/Machine/Host.lean ====
section
/-! DEFINITION. The host interface of a Krasesta (R366 to R383): the stack aperture, descriptor rings, log records, MGMT
flits, stack copies, PCIe resets and MSI-X; and the frames of the management port (R97 to R103). -/

namespace Sys2Proof.Machine

/-! ### Descriptor rings (R371 to R374) -/

/-- The eight words of a descriptor. -/
def descWords (bs : List Byte) : List Nat := (List.range 8).map (fun i => leNat ((bs.drop (4 * i)).take 4))

/-- The descriptor that a ring holds. -/
def State.held (s : State) (r : Nat) : Option (List Nat) := tget (fun _ => none) s.host.held r

/-- Replace it. -/
def State.setHeld (s : State) (r : Nat) (d : Option (List Nat)) : State :=
  { s with host := { s.host with held := tset (fun _ => none) s.host.held r d } }

/-- The ring is read: it is enabled, holds no descriptor, and DMA runs; TX0 only in the fetch phase of a load (R373,
R379). -/
def State.ringReads (s : State) (r : Nat) : Bool :=
  decide (r < 8) && s.bit (ringEn r) && s.bit BME && (s.held r).isNone && (r != 0 || s.f PHASE == 1)

/-- OWN of a descriptor. -/
def descOwn (d : List Nat) : Bool := bitOf (d.getD 2 0) 31

/-- RING_POLL (R373): the descriptor at HEAD is read; one with OWN = 1 is held. -/
def execRingPoll (r : Nat) (desc : List Byte) (s : State) : Out :=
  .next (s.onK (fun s =>
    if s.ringReads r && descOwn (descWords desc) then s.setHeld r (some (descWords desc)) else s))

/-- The descriptor on which a ring acts: the one that it holds, else the one now read at HEAD (R372, R373). -/
def State.takeDesc (s : State) (r : Nat) (desc : List Byte) : Option (List Nat) :=
  if ¬ s.bit BME then none
  else match s.held r with
    | some d => some d
    | none => if s.ringReads r && descOwn (descWords desc) then some (descWords desc) else none

/-- DMA_ERR. -/
def State.dmaErr (s : State) : State := s.raise HST_CAUSE 11

/-- The host address of a descriptor's buffer: words 0 and 1 (Tables NTM-2 and HST-3). -/
def descBuf (d : List Nat) : Nat := d.getD 0 0 + 2 ^ 32 * d.getD 1 0

/-- The host address of the descriptor at HEAD of a ring (R372). -/
def State.ringAt (s : State) (r : Nat) : Nat := s.r64 (ringBase r) + 32 * s.f (ringHead r)

/-- Write back words 2 to 7 of the descriptor d at HEAD: OWN clears with them (R372, R374); `dma` are the bytes that
went to its buffer. -/
def State.writeBack (s : State) (r : Nat) (d ws : List Nat) (dma : List Byte) : State :=
  let n := s.f (ringSize r)
  let base := s.ringAt r
  let s := ((s.setHeld r none).setF (ringHead r) ((s.f (ringHead r) + 1) % n)).inc (ringDone r)
  let s := (s.raise HST_CAUSE r).ev 0xA3 r
  { s with host := { s.host with wbRing := r, wbAt := base + 8, wb := ws, dmaAt := descBuf d, dma := dma, dmaBad := [] } }

/-- Complete a descriptor of Table HST-3: bytes used, STATUS, ARG_H and the bytes written to its buffer. -/
def State.complete (s : State) (r : Nat) (d : List Nat) (len status argH : Nat) (dma : List Byte) : State :=
  let s := s.writeBack r d [len % 2 ^ 24, d.getD 3 0, argH, 0, s.nsField, status * 2 ^ 24] dma
  if status = 0 then s else s.dmaErr

/-- LEN of a descriptor of Table HST-3. -/
def descLen (d : List Nat) : Nat := d.getD 2 0 % 2 ^ 24

/-- The descriptor that TX0 holds completes with STATUS IO, now or when the device may write it back (R375, R379). -/
def State.endImage (s : State) : State :=
  match s.held 0 with
  | some d =>
    if s.bit BME then
      let t := s.complete 0 d 0 1 (d.getD 4 0) []
      { t with host := { t.host with endTx0 := false } }
    else { s with host := { s.host with endTx0 := true } }
  | none => s

/-- RING_CTRL (R372): RING_RESET is judged by EN before the write. A ring that is disabled gives back a receive
descriptor that it only holds; the copy of RX2 is in progress from the moment its descriptor is read. -/
def State.ringCtrl (s : State) (r v : Nat) : State :=
  let was := s.bit (ringEn r)
  let s := s.setF (ringEn r) v
  let s := if bitOf v 0 || decide (r < 4) || r == 6 then s else s.setHeld r none
  if bitOf v 1 && !was then (s.setF (ringHead r) 0).setHeld r none else s

/-- RING_CTRL_WRITE (R372). -/
def execRingCtrlWrite (r : Nat) (v : Word) (s : State) : Out :=
  .next (s.onK (fun s => if r < 8 then s.unlocked (fun s => s.ringCtrl r v.toNat) else s))

/-- RING_RESET (R372). -/
def execRingReset (r : Nat) (v : Word) (s : State) : Out :=
  .next (s.onK (fun s => if r < 8 then s.unlocked (fun s => s.ringCtrl r (forceBits v 2)) else s))

/-! ### Log records and MGMT flits (R376, R377) -/

/-- LOG_RECORD (R376): the oldest queued record is written to an RX0 descriptor. -/
def execLogRecord (desc : List Byte) (s : State) : Out :=
  .next (s.onK (fun s =>
    match s.flt.logQ, s.takeDesc 4 desc with
    | ws :: t, some d =>
      let s := { s with flt := { s.flt with logQ := t } }
      let n := min 32 (descLen d)
      s.complete 4 d n (if descLen d < 32 then 6 else 0) (d.getD 4 0) ((ws.flatMap (leBytes 4)).take n)
    | _, _ => s))

/-- A MGMT flit received by a Krasesta is written to the held RX1 descriptor, or lost (R377). -/
def State.mgmtToHost (s : State) (p : Nat) (pl : List Byte) : State :=
  match s.takeDesc 5 [] with
  | some d =>
    let n := min pl.length (descLen d)
    s.complete 5 d n (if n < pl.length then 6 else 0) (p % 128) (pl.take n)
  | none => (s.inc MGMT_LOST).raise HST_CAUSE 10

/-- A MGMT flit on a port that takes it: a fault notice acts first; a die discards every other one (R377). -/
def State.mgmtRx (s : State) (p : Nat) (pl : List Byte) : State :=
  let notice := bitsOf (noticeRec pl) 120 8 == 0x46
  let s := if notice then s.noticeRx p pl else s
  if s.part.isK then s.mgmtToHost p pl else if notice then s else s.ev 0x2C

/-- A MGMT payload on a port in UP (R199, R377). -/
def State.mgmtIn (s : State) (p : Nat) (payload : List Byte) : State :=
  if s.portUp p then (if s.takesMgmt p payload then s.mgmtRx p payload else s.fenceDrop p) else s

/-- MGMT_RECEIVE (R377). -/
def execMgmtReceive (p : Nat) (payload : List Byte) (s : State) : Out := .next (s.mgmtIn p payload)

/-- FENCE_NOTICE (R319): the flit goes to the host too (R377). -/
def execFenceNotice (p : Nat) (payload : List Byte) (s : State) : Out :=
  .next (if isNotice payload 1 then s.mgmtIn p payload else s)

/-- UP_SWITCH_NOTICE (R321): the flit goes to the host too (R377). -/
def execUpSwitchNotice (p : Nat) (payload : List Byte) (s : State) : Out :=
  .next (if isNotice payload 2 then s.mgmtIn p payload else s)

/-- The STATUS with which a TX1 descriptor ends without sending, if it does. -/
def State.mgmtStatus (s : State) (p len : Nat) (data : List Byte) : Option Nat :=
  if len = 0 ∨ 240 < len ∨ ¬ s.portExists p then some 2
  else if data.length < len then some 1
  else if data.getD 0 0 = 0x46 then some 4
  else if !s.portUp p || s.reduced p then some 3
  else none

/-- MGMT_SEND (R377): the flit waits for the next F slot of the port. -/
def execMgmtSend (desc data : List Byte) (s : State) : Out :=
  .next (s.onK (fun s =>
    match s.takeDesc 1 desc with
    | none => s
    | some d =>
      let p := d.getD 3 0 % 128
      let n := descLen d
      match s.mgmtStatus p n data with
      | some st => s.complete 1 d 0 st (d.getD 4 0) []
      | none =>
        let s := s.modPort (s.chanOf p) (fun x => { x with mgmt := x.mgmt ++ [data.take n] })
        s.complete 1 d n 0 (d.getD 4 0) []))

/-! ### Stack copies and the aperture (R369, R370, R378) -/

/-- The stack address of a TX2 or RX2 descriptor. -/
def copyAddr (d : List Nat) : Nat := d.getD 3 0 + 2 ^ 32 * (d.getD 4 0 % 256)

/-- ARG and LEN of a copy keep R378. -/
def copyOk (d : List Nat) : Bool :=
  descLen d % 32 == 0 && descLen d != 0 && copyAddr d % 32 == 0 && decide (copyAddr d + descLen d ≤ stackBytes)

/-- Host traffic on n bytes of stack space (R370). -/
def State.hostEv (s : State) (a n : Nat) : State := s.stackEv 0x65 a n

/-- STACK_COPY_IN (R378): data that ends early stands for a read error or a poisoned TLP. -/
def execStackCopyIn (desc data : List Byte) (s : State) : Out :=
  .next (s.onK (fun s =>
    match s.takeDesc 2 desc with
    | none => s
    | some d =>
      let n := descLen d
      if ¬ copyOk d then s.complete 2 d 0 2 (d.getD 4 0) []
      else
        let bs := data.take n
        let s := (s.writeSpace 1 (copyAddr d) bs).hostEv (copyAddr d) bs.length
        s.complete 2 d bs.length (if bs.length < n then 1 else 0) (d.getD 4 0) []))

/-- A host read of n bytes with the addresses of the uncorrectable errors of STACK_UNCORRECTABLE that it meets: one of the
stack stays until it is written, one of the controller's path spoils one read. -/
def State.hostRead (s : State) (a n : Nat) : State × List Byte × List Nat :=
  let hit := s.host.bad.filter (fun x => unitMeets x.1 a n)
  let s' := { s with host := { s.host with bad := s.host.bad.filter (fun x => !(x.2 && unitMeets x.1 a n)) } }
  ((s'.stackEv 0x60 a n).hostEv a n, s.readSpace 1 a n, hit.map (·.1))

/-- STACK_COPY_OUT (R378). -/
def execStackCopyOut (desc : List Byte) (s : State) : Out :=
  .next (s.onK (fun s =>
    match s.takeDesc 6 desc with
    | none => s
    | some d =>
      if ¬ copyOk d then s.complete 6 d 0 2 (d.getD 4 0) []
      else
        let a := copyAddr d
        let r := s.hostRead a (descLen d)
        let t := r.1.complete 6 d (descLen d) (if r.2.2.isEmpty then 0 else 5) (d.getD 4 0) r.2.1
        { t with host := { t.host with dmaBad := r.2.2.map (fun x => x / 64 * 64 - a) } }))

/-- The stack address of byte o of BAR2. -/
def State.aperAddr (s : State) (o : Nat) : Nat := s.f APER_BASE * 2 ^ 28 + o

/-- A BAR2 request lies in the 256 MiB of the aperture. -/
def inAper (ofs len : Nat) : Bool := decide (1 ≤ len) && decide (ofs + len ≤ 2 ^ 28)

/-- BAR2_READ (R369): the data returned, poisoned where the stack reported it. -/
def execBar2Read (ofs len : Nat) (s : State) : Out :=
  .next (s.onK (fun s =>
    if inAper ofs len then
      let r := (s.ev 0xA4).hostRead (s.aperAddr ofs) len
      { r.1 with host := { r.1.host with cpl := 0, rd := r.2.1, rdBad := !r.2.2.isEmpty } }
    else s))

/-- The bytes of a write with its byte enables: none where the enable is off. -/
def byteMerge (old : List Byte) (data : List (Option Byte)) : List Byte :=
  List.zipWith (fun o d => d.getD o) old data

/-- BAR2_WRITE (R369): a byte whose enable is off keeps its value. -/
def execBar2Write (ofs : Nat) (data : List (Option Byte)) (poisoned : Bool) (s : State) : Out :=
  .next (s.onK (fun s =>
    if inAper ofs data.length then
      let s := s.ev 0xA4
      let a := s.aperAddr ofs
      if poisoned then s.dmaErr
      else (s.writeSpace 1 a (byteMerge (s.readSpace 1 a data.length) data)).hostEv a data.length
    else s))

/-- APER_TIMEOUT (R370): a read is answered with Completer Abort, a write is dropped; it was a BAR2 request too. -/
def execAperTimeout (wr : Bool) (s : State) : Out :=
  .next (s.onK (fun s =>
    let s := (((s.ev 0xA4).inc APER_TIMEOUTS).raise HST_CAUSE 8).ev 0xA5
    if wr then s else { s with host := { s.host with cpl := 4 } }))

/-- BAR0 takes a request, given by its byte enables: one aligned DW, or at the MSI-X table and its Pending Bit Array an aligned
QW, with every byte enabled (R368, R424). -/
def bar0Takes (a : Nat) (be : List Bool) : Bool :=
  be.all (·) &&
    ((be.length == 4 && a % 4 == 0) ||
      (be.length == 8 && a % 8 == 0 && ((decide (0x8000 ≤ a) && decide (a < 0x8010)) || a == 0x9000)))

/-- BAR0_BAD (R368): a request that BAR0 does not take is completed with Unsupported Request; a write, which is posted, is
dropped. -/
def execBar0Bad (a : Nat) (be : List Bool) (wr : Bool) (s : State) : Out :=
  .next (s.onK (fun s =>
    if bar0Takes a be then s
    else
      let s := s.raise HST_CAUSE 14
      if wr then s else { s with host := { s.host with cpl := 1 } }))

/-! ### Bus Master Enable and MSI-X (R379, R383) -/

/-- The link of the endpoint is up: HST_STATUS shows the width and speed that it trained to, which the link partner decides
(free values up to the lanes and the rate of the endpoint, R366). -/
def State.pcieUp (s : State) : State :=
  if s.bit (bitF HST_STATUS 0) then s
  else
    let s := s.setB (bitF HST_STATUS 0) true
    let s := (s.setF ⟨HST_STATUS, 12, 4⟩ (min endpoint.lanes (2 ^ (s.freeNat % 3)))).took
    (s.setF ⟨HST_STATUS, 8, 4⟩ (1 + s.freeNat % endpoint.rate)).took

/-- The link comes up in a cycle that its partner decides; it is up where the endpoint answers the host. -/
def State.trainPcie (s : State) : State :=
  s.onK (fun s => if Config.pcieTrained s.beat.n then s.pcieUp else s)

/-- BME_OFF (R379). -/
def execBmeOff (s : State) : Out :=
  .next (s.onK (fun s => if s.bit BME then (s.setB BME false).raise HST_CAUSE 12 else s))

/-- BUS_MASTER_ENABLE (R379): what waited for it goes out, an end of TX0's descriptor and the MSI-X messages. -/
def execBusMasterEnable (s : State) : Out :=
  .next (s.onK (fun s =>
    let s := s.pcieUp.setB BME true
    let s := if s.host.endTx0 then s.endImage else s
    let n := s.host.msixWait
    ({ s with host := { s.host with msixWait := 0 } }).each (List.range n) (fun s _ => s.msixEvent)))

/-- INT_REARM (R383). -/
def State.rearm (s : State) (v : Nat) : State := if bitOf v 0 && s.irq then s.msixEvent else s

/-- INT_REARM (R383). -/
def execIntRearm (v : Word) (s : State) : Out := .next (s.inMain (fun s => s.rearm (forceBits v 1)))

/-- MSIX_UNMASK (R383): MSI-X is enabled with neither the function nor the vector masked (log entry 85). -/
def execMsixUnmask (s : State) : Out :=
  .next (s.onK (fun s => ((s.pcieUp.setB MSIX_EN true).setB MSIX_MASKED false).msixAgain))

/-! ### Frames of the management port (R97 to R103) -/

/-- The hall-time reading (2^-16 ns) at a point of the present cycle, `frac` of 2^16 into it, and whether a phase step
falls in the cycle: the stamp then carries the stepped reading (R99, R102). -/
def State.stampRead (s : State) (frac : Nat) : Nat × Bool :=
  let d := signed 48 (s.clk.pstep.getD 0)
  let step := s.clk.pstep.isSome && s.reached s.clk.pstepAt && s.stepAllowed d
  let at_ : Nat := s.time / 2 ^ 24 + frac % 65536
  if step then (((at_ : Int) + d).toNat, true) else (at_, s.bit PSTEP_SEEN)

/-- A reading moved by a signed number of ps, rounded down to 2^-16 ns and not below 0 (R99; DESIGN CHOICE, log entry
122). -/
def stampMove (q : Nat) (ps : Int) : Nat := tsOf ((q : Int) + ps * 65536 / 1000).toNat

/-- Word 7 of an Ethernet descriptor: the state of hall time, and the low flags (Table NTM-2); `step` is PSTEP by
R102. -/
def State.netFlags (s : State) (valid step : Bool) (low : Nat) : Nat :=
  let chorus := s.nst == .chorus || s.nst == .running || s.nst == .stopped
  b2n valid * 2 ^ 31 + b2n chorus * 2 ^ 30 + b2n (s.bit BASK_ANY) * 2 ^ 29 + b2n (s.bit UTC_VALID) * 2 ^ 28 +
    b2n step * 2 ^ 27 + low

/-- The three words of a TIMESTAMP. -/
def stampWords (t : Nat) : List Nat := [t % 2 ^ 32, t / 2 ^ 32 % 2 ^ 32, t / 2 ^ 64 % 2 ^ 32]

/-- Words 2 to 7 of a transmit descriptor as written back (Table NTM-2). The stamp words of a descriptor without a stamp,
and word 3 [31:16], are written 0 (DESIGN CHOICE, log entry 123). -/
def State.ethBack (s : State) (d : List Nat) (stamp : Option Nat) (step : Bool) (low : Nat) : State :=
  let w2 := d.getD 2 0
  s.writeBack 3 d ([w2 % 2 ^ 31 - w2 % 2 ^ 30 + w2 % 2 ^ 14, d.getD 3 0 % 2 ^ 16] ++ stampWords (stamp.getD 0) ++
    [s.netFlags stamp.isSome step low]) []

/-- A frame as it leaves the management port: the first n bytes of the buffer and the FCS (R98). Bytes that the buffer
read does not return are sent as 0 (DESIGN CHOICE, log entry 124). -/
def ethFrame (n : Nat) (data : List Byte) : List Byte :=
  let body := (data ++ List.replicate n 0).take n
  body ++ frameFcs body

/-- ETH_TRANSMIT_DESCRIPTOR (R98 to R103): `x` is what host memory answers, `frac` the place in the present
cycle, in 2^-16 of it, at which the timestamp point crosses the 25GMII. -/
def execEthTransmitDescriptor (x : TxFetch) (frac : Nat) (s : State) : Out :=
  .next (s.onK (fun s =>
    match s.takeDesc 3 x.desc with
    | none => s
    | some d =>
      let w2 := d.getD 2 0
      let len := w2 % 2 ^ 14
      let r := s.stampRead frac
      if ¬ s.bit NET_LINK_UP then s.ethBack d none r.2 1
      else if len < 60 ∨ 9212 < len then s.ethBack d none r.2 2
      else
        let s := (s.inc 0x400030).ev 0xA0
        let s := { s with outs := { s.outs with frame := ethFrame len x.data } }
        s.ethBack d (if bitOf w2 30 then some (stampMove r.1 (signed 32 (s.rn 0x400018))) else none) r.2 0))

/-- MAC_ADDR as octets. -/
def State.macOctets (s : State) : List Byte := leBytes 2 (s.rn (MAC_ADDR + 4)) ++ leBytes 4 (s.rn MAC_ADDR)

/-- The group addresses that the port accepts: broadcast, the two PTP addresses of IEEE 802.3, and those of the IPv4 and
IPv6 PTP multicast addresses of R100. -/
def netGroups : List (List Byte) := [List.replicate 6 0xFF, [0x01, 0x1B, 0x19, 0, 0, 0], [0x01, 0x80, 0xC2, 0, 0, 0x0E],
  [0x01, 0x00, 0x5E, 0x00, 0x01, 0x81], [0x01, 0x00, 0x5E, 0x00, 0x00, 0x6B],
  [0x33, 0x33, 0x00, 0x00, 0x01, 0x81], [0x33, 0x33, 0x00, 0x00, 0x00, 0x6B]]

/-- The port accepts a frame (R97). -/
def State.netAccepts (s : State) (frame : List Byte) : Bool :=
  s.bit PROMISC || frame.take 6 == s.macOctets || netGroups.contains (frame.take 6)

/-- n big-endian bytes of a frame. -/
def frameBe (frame : List Byte) (o n : Nat) : Nat := beNat ((frame.drop o).take n)

/-- ENCAP of Table NTM-1 and the offset of the PTP header, after one optional 802.1Q tag. -/
def ptpEncap (frame : List Byte) : Nat × Nat :=
  let o := if frameBe frame 12 2 = 0x8100 then 18 else 14
  let t := frameBe frame (o - 2) 2
  if t = 0x88F7 then (1, o)
  else if t = 0x0800 ∧ frameBe frame o 1 = 0x45 ∧ frameBe frame (o + 9) 1 = 17 ∧ frameBe frame (o + 22) 2 = 319 then (2, o + 28)
  else if t = 0x86DD ∧ frameBe frame (o + 6) 1 = 17 ∧ frameBe frame (o + 42) 2 = 319 then (3, o + 48)
  else (0, o)

/-- Word 3 of a receive descriptor (R100, Table NTM-2); all 0 where ENCAP is 0 (DESIGN CHOICE for VERSION, MSG_TYPE and
SEQ_ID, log entry 125). -/
def ptpWord (frame : List Byte) : Nat :=
  let e := ptpEncap frame
  if e.1 = 0 then 0
  else
    let m := frameBe frame e.2 1 % 16
    b2n (decide (m ≤ 3)) * 2 ^ 31 + e.1 * 2 ^ 28 + m * 2 ^ 24 + frameBe frame (e.2 + 1) 1 % 16 * 2 ^ 20 + frameBe frame (e.2 + 30) 2

/-- A received frame is dropped and counted (R97). -/
def State.netDrop (s : State) (count : Nat) : State := ((s.inc count).raise NET_CAUSE 5).ev 0xA2

/-- FRAME_RECEIVE (R97 to R103): `frame` is the frame without its FCS, `frac` as for ETH_TRANSMIT_DESCRIPTOR. -/
def execFrameReceive (frame : List Byte) (fcsOk : Bool) (frac : Nat) (s : State) : Out :=
  .next (s.onK (fun s =>
    if s.bit NET_LINK_UP && s.netAccepts frame then
      if ¬ fcsOk then s.netDrop 0x400038
      else if frame.length < 60 ∨ 9212 < frame.length then s.netDrop 0x40003C
      else match s.takeDesc 7 [] with
        | none => s.netDrop 0x400040
        | some d =>
          let cut := d.getD 2 0 % 2 ^ 14
          let r := s.stampRead frac
          let t := stampMove r.1 (-(signed 32 (s.rn 0x40001C)))
          let s := (s.inc 0x400034).ev 0xA1
          s.writeBack 7 d ([frame.length, ptpWord frame] ++ stampWords t ++
            [s.netFlags true r.2 (b2n (decide (cut < frame.length)) * 4)]) (frame.take cut)
    else s))

end Sys2Proof.Machine
end

