-- ==== Sys2Proof/Machine/LinkRx.lean ====
section
/-! DEFINITION. What a port does with a received flit (R179 to R181, R190 to R194, R197, R199, R325). -/

namespace Sys2Proof.Machine

/-- a - b modulo 4,096. -/
def seqDiff (a b : Nat) : Nat := (a + 4096 - b % 4096) % 4096

/-- SEQ b is a or lies before it. -/
def seqCovers (a b : Nat) : Bool := decide (seqDiff a b < 2048)

/-! ### Sequence numbers (R190, R191, R193) -/

/-- Move CACK over the flits accepted beyond it. -/
def ackRun : Nat → Nat → List Nat → Nat × List Nat
  | 0, c, g => (c, g)
  | n + 1, c, g => if g.contains ((c + 1) % 4096) then ackRun n ((c + 1) % 4096) (g.filter (· != (c + 1) % 4096)) else (c, g)

/-- A SEQ is accepted; it is missing no longer. -/
def Port.accept (x : Port) (q : Nat) : Port :=
  let x := { x with miss := x.miss.filter (fun m => m.sq != q), reqs := x.reqs.filter (· != q) }
  match x.cack with
  | none => { x with cack := some q }
  | some c =>
    let r := ackRun (x.got.length + 1) c (q :: x.got)
    { x with cack := some r.1, got := r.2 }

/-- A SEQ has been accepted before. -/
def Port.hasGot (x : Port) (q : Nat) : Bool :=
  x.got.contains q || (match x.cack with | some c => seqCovers c q && !x.miss.any (fun m => m.sq == q) | none => false)

/-- The SEQs from the one expected up to a good flit are missing: each is requested (R191). -/
def Port.gap (x : Port) (q now : Nat) : Port :=
  match x.rxNext with
  | none => { x with rxNext := some ((q + 1) % 4096), failed := 0 }
  | some e =>
    if seqDiff q e < 2048 then
      let l := (List.range (seqDiff q e)).map (fun i => (e + i) % 4096)
      { x with
        rxNext := some ((q + 1) % 4096), failed := 0, reqs := x.reqs ++ l
        miss := x.miss ++ l.map (fun q => { sq := q, fails := 1, at_ := now, seen := now }) }
    else x

/-- What the header and trailer of a good flit tell the sender side: a CACK and a replay request (R190, R192). -/
def Port.heed (x : Port) (f : Flit) (now : Nat) : Port :=
  let x := if f.cackV then { x with
    replay := x.replay.filter (fun y => !seqCovers f.cack y.1)
    idles := x.idles.filter (fun y => !seqCovers f.cack y.1) } else x
  if f.akind = 1 ∧ ¬ x.replayDue.any (fun y => y.1 == f.asq) then { x with replayDue := x.replayDue ++ [(f.asq, now)] } else x

/-! ### Control messages (R186, R193, R199) -/

/-- A port accepts a control message (Table LNK-10). -/
def State.acceptsCtl (s : State) (p : Nat) (m : Msg) : Bool :=
  if ¬ s.reduced p then true
  else if mType m = 1 ∨ mType m = 4 then true
  else if s.fencePort p || s.upStandby.contains p then false
  else (mType m == 2 && (mKind m == kREADY || mKind m == kCACK || mKind m == kFAIL)) ||
    (mType m == 3 && (mKind m == 0 || mKind m == 1))

/-- A flit or message discarded by R181 or R186. -/
def State.badFlit (s : State) (p : Nat) : State := (s.inc (s.pa p 0x64)).raise (s.pa p 0xC) 3

/-- A message is one of an active eft, which is compared and discarded (R325). -/
def State.eftOnly (s : State) (p : Nat) : Bool := (s.eftOn p).isSome

/-- The port or the state forbids a LEAP message (R113). -/
def State.leapStray (s : State) (p : Nat) (m : Msg) : Bool :=
  let k := mKind m
  let start := k == kSTART_T || k == kSTART_N
  if k = kREADY ∨ k = kCACK ∨ k = kFAIL then s.use p != 1 || !s.armed
  else !(start || k == kGO || k == kSKIP || k == kHALT || k == kSTOP) || !s.fromAbove p || (!start && !s.armed)

/-- A barrier message is one that R163 discards with a count. -/
def State.barStray (s : State) (p : Nat) (m : Msg) : Bool :=
  let h := bSlot m
  let off := !s.armed || !s.bit (barEn (16 + h))
  if mKind m = 1 then off || !(s.childPorts h).contains p
  else if mKind m = 2 then off || (!s.bit (barScope (16 + h)) && !s.selPort.contains p)
  else true

/-- A message that Table LNK-10 does not let in: FENCE_DROP counts it, and what else its own chapter notes of its discard
(R113, R163, R199). -/
def State.discardCtl (s : State) (p : Nat) (m : Msg) : State :=
  let s := s.fenceDrop p
  if mType m = 2 then (if s.leapStray p m then s.seqErr else s)
  else if mType m = 3 ∧ mKind m ≠ 0 then (if s.barStray p m then s.strayBar else s)
  else s

/-- One control message of a good flit. -/
def State.ctlRx (s : State) (p slot : Nat) (mark : Stamp) (rep : Bool) (m : Msg) : State :=
  if mType m = 0 then s
  else if 4 < mType m then s.badFlit p
  else if ¬ s.acceptsCtl p m then s.discardCtl p m
  else if mType m = 1 then s.timeRx p m mark rep
  else if mType m = 4 then s.croakRx p m
  else
    let s := s.eftMsg p slot m
    if s.eftOnly p then s
    else if mType m = 2 then s.leapRx p m
    else if s.spare p then (if mKind m = 0 then s else s.strayBar)
    else s.syncCtlRx p m

/-- The messages of a control flit, in order of position; START_T and START_N go together (R112). -/
def State.ctlList (s : State) (p slot : Nat) (mark : Stamp) (rep : Bool) : List Msg → State
  | a :: b :: t =>
    if isLeap a kSTART_T && isLeap b kSTART_N then
      let s := if ¬ s.acceptsCtl p a then (s.discardCtl p a).discardCtl p b
        else
          let s := (s.eftMsg p slot a).eftMsg p slot b
          if s.eftOnly p then s else s.startRx p (some a) (some b)
      s.ctlList p slot mark rep t
    else (s.ctlRx p slot mark rep a).ctlList p slot mark rep (b :: t)
  | [a] => s.ctlRx p slot mark rep a
  | [] => s

/-- A control message that comes by itself acts where Table LNK-10 lets it in (R199). -/
def State.ctlMsg (s : State) (p : Nat) (m : Msg) (act : State → State) : State :=
  if ¬ s.acceptsCtl p m then s.discardCtl p m else act s

/-- GO (R116). -/
def execGo (p : Nat) (m : Msg) (s : State) : Out :=
  .next (if isLeap m kGO then s.ctlMsg p m (fun s => s.downLeap p m (fun s => (s.goRx m).setF SKIP_RUN 0)) else s)

/-- SKIP (R116). -/
def execSkip (p : Nat) (m : Msg) (s : State) : Out :=
  .next (if isLeap m kSKIP then s.ctlMsg p m (fun s => s.downLeap p m (fun s => s.skipRx m)) else s)

/-- HALT (R124). -/
def execHalt (p : Nat) (m : Msg) (s : State) : Out :=
  .next (if isLeap m kHALT then s.ctlMsg p m (fun s => s.downLeap p m (fun s => s.enterHalt (mArg m))) else s)

/-- STOP (R125). -/
def execStop (p : Nat) (m : Msg) (s : State) : Out :=
  .next (if isLeap m kSTOP then s.ctlMsg p m (fun s => s.downLeap p m (fun s => s.enterStop)) else s)

/-- RELEASE (R164). -/
def execRelease (p : Nat) (m : Msg) (s : State) : Out :=
  .next (if isSync m 2 && decide (p < s.part.numPorts) then s.ctlMsg p m (fun s => s.releaseRx p m) else s)

/-- START_T and START_N of a pair, or one alone. -/
def State.startMsg (s : State) (p : Nat) (mt mn : Option Msg) : State :=
  match mt, mn with
  | some a, some b =>
    if ¬ s.acceptsCtl p a then (s.discardCtl p a).discardCtl p b else s.startRx p (some a) (some b)
  | some a, none => s.ctlMsg p a (fun s => s.startRx p (some a) none)
  | none, some b => s.ctlMsg p b (fun s => s.startRx p none (some b))
  | none, none => s

/-- START_T_START_N (R112). -/
def execStartTStartN (p : Nat) (mt mn : Option Msg) (s : State) : Out :=
  let keep := fun (k : Nat) (m : Option Msg) => m.filter (fun m => mType m == 2 && mKind m == k)
  .next (s.startMsg p (keep kSTART_T mt) (keep kSTART_N mn))

/-- An upward control message that comes by itself: Table LNK-10 lets it in, an eft entry compares it, as one that arrives
now (R326), and it acts. -/
def State.upMsg (s : State) (p : Nat) (m : Msg) (act : State → State) : State :=
  s.ctlMsg p m (fun s => act (s.eftMsgAt p s.now m))

/-- READY (R120). -/
def execReady (p : Nat) (m : Msg) (s : State) : Out :=
  .next (if isLeap m kREADY then s.upMsg p m (fun s => s.readyRx p m) else s)

/-- FAIL (R120). -/
def execFail (p : Nat) (m : Msg) (s : State) : Out :=
  .next (if isLeap m kFAIL then s.upMsg p m (fun s => s.failRx p m) else s)

/-- CACK (R122). -/
def execCack (p : Nat) (m : Msg) (s : State) : Out :=
  .next (if isLeap m kCACK then s.upMsg p m (fun s => s.cackRx p m) else s)

/-- CADD (R136); an eft's is compared alone (R325). -/
def execCadd (p : Nat) (m : Msg) (s : State) : Out :=
  .next (if isSync m 0 && decide (p < s.part.numPorts) then
      s.upMsg p m (fun s => if s.spare p then s else s.caddRx m)
    else s)

/-- COMBINED_ARRIVAL (R163). -/
def execCombinedArrival (p : Nat) (m : Msg) (s : State) : Out :=
  .next (if isSync m 1 && decide (p < s.part.numPorts) then s.upMsg p m (fun s => s.arriveRx p m) else s)

/-! ### DATA, EGG and MGMT flits -/

/-- A DATA or EGG flit in order, whose slot began at `began` (R193, R199, R325). While leaps are not armed an eft's EGG flits
are spawn traffic of their own, which is not compared (log entry 143). -/
def State.payloadRx (s : State) (p typ began : Nat) (f : Flit) : State :=
  let spawn := typ == 6 && !s.armed
  let s := if spawn then s else s.eftFlit p began { f with typ := typ }
  if s.eftOnly p && !spawn then s
  else if typ = 6 then s.eggGate p f.payload (fun s p => s.eggRx p f.payload f.plen)
  else if s.reduced p then s.fenceDrop p
  else s.dataIn p f.queue f.sq began f.plen f.payload

/-- The type of a flit, or of the flit that a REPLAY repeats. -/
def Flit.kind (f : Flit) : Nat := if f.typ = 8 then f.otyp else f.typ

/-- A missing flit comes before this SEQ, so a flit of a queue waits (R193). -/
def Port.waits (x : Port) (q : Nat) : Bool := x.miss.any (fun m => m.sq != q && seqCovers q m.sq)

/-- The held flits that no missing flit precedes are passed on to the channel, in order of SEQ (R178, R193). -/
def State.flushHeld (s : State) (p : Nat) : State :=
  let x := s.port p
  let out := x.held.filter (fun h => !x.waits h.1)
  let base := x.cack.getD 0
  let key := fun (h : Nat × List Byte × Nat) => seqDiff (h.1 + 2048) base
  let l := sortBy (fun (a b : Nat × List Byte × Nat) => decide (key a < key b)) out
  let s := s.modPort p (fun x => { x with held := x.held.filter (fun h => x.waits h.1) })
  s.each l (fun s h => let f := readFlit h.2.1; s.payloadRx (s.chanOf p) f.kind h.2.2 f)

/-- A good flit accepted: its content by type, which belongs to the channel of the port (R178). -/
def State.contentRx (s : State) (p : Nat) (f : Flit) (bs : List Byte) (mark : Stamp) : State :=
  let rep := f.typ == 8
  let k := f.kind
  let c := s.chanOf p
  let began := s.slotBegan c f.slot
  if k = 0 then s
  else if k ≤ 4 then s.ctlList c f.slot mark rep (flitMsgs f.payload)
  else if k = 7 then
    let pl := f.payload.take f.plen
    if s.takesMgmt c pl then s.mgmtRx c pl else s.fenceDrop c
  else if (s.port p).waits f.sq then s.modPort p (fun x => { x with held := x.held ++ [(f.sq, bs, began)] })
  else s.payloadRx c k began f

/-! ### Identity records in UP (R197, R314) -/

/-- The identity record of a flit. -/
def Flit.rec_ (f : Flit) : Nat := beNat (f.payload.take 16)

/-- An identity record shows a far end in TADPOLE, which UNFENCE waits for (R320). -/
def State.noteTadpole (s : State) (p rec_ : Nat) : State :=
  if bitsOf rec_ 108 20 = 0xFFFFF then s.modPort p (fun x => { x with tadSeen := true }) else s

/-- An identity record in UP: PEER_ID follows it, and one of another node is the end of the peer (R314). -/
def State.upId (s : State) (p rec_ : Nat) : State :=
  let s := (s.setR64 (s.pa p 0x20) rec_).setR64 (s.pa p 0x28) (rec_ / 2 ^ 64)
  if bitsOf rec_ 108 20 = s.expectedId (s.chanOf p) then s else s.declareDead (s.chanOf p) 3

/-! ### A received flit -/

/-- Times and counts of a good flit, and what its header and trailer say. -/
def State.goodFlit (s : State) (p : Nat) (f : Flit) : State :=
  ((s.inc (s.pa p 0x44)).ev 0x21 p).modPort p (fun x => ({ x with lastGood := s.now }).heed f s.now)

/-- A reserved TYPE, or a REPLAY of one (R181). -/
def Flit.reserved (f : Flit) : Bool := decide (9 ≤ f.typ) || (f.typ == 8 && decide (8 ≤ f.otyp))

/-- The REPLAY of a flit comes more than one REV_PERIOD after its slot began, which was before the gap was found: counted
once (R194). -/
def State.replayLate (s : State) (p : Nat) (f : Flit) : State :=
  match (s.port p).miss.find? (fun m => m.sq == f.sq) with
  | some m =>
    let end_ := s.slotBefore p f.slot m.seen + revPeriod (s.width (s.chanOf p)) * 65536
    if m.fails = 1 ∧ ¬ f.pad ∧ end_ < s.now then s.lateFlit p else s
  | none => s

/-- An identity record: in UP by R314, in FLIT by R197. -/
def State.idRx (s : State) (p rec_ : Nat) : State :=
  let s := s.noteTadpole p rec_
  if s.portUp p then s.upId p rec_ else s.flitId p rec_

/-- A good flit of a port in FLIT or UP (R181, R193). -/
def State.takeFlit (s : State) (p : Nat) (f : Flit) (bs : List Byte) (mark : Stamp) : State :=
  let dup := (s.port p).hasGot f.sq
  let s := if f.typ = 8 then s.replayLate p f else if dup then s else s.modPort p (fun x => x.gap f.sq s.now)
  if dup then (s.inc (s.pa p 0x60)).raise (s.pa p 0xC) 1
  else
    let s := s.modPort p (fun x => x.accept f.sq)
    let s := if f.reserved then s.badFlit p
      else if f.typ = 0 then s.idRx p f.rec_
      else s.contentRx p f bs mark
    s.flushHeld p

/-- A failed flit: the next good one shows which (R191). -/
def State.failFlit (s : State) (p : Nat) (crcBad : Bool) : State :=
  let s := if crcBad then (s.inc (s.pa p 0x48)).ev 0x22 p else s
  s.modPort p (fun x => { x with failed := x.failed + 1 })

/-- The lane of a port on which a lane of the far end arrives, as training found it (Table LNK-17). -/
def State.laneFrom (s : State) (p j : Nat) : Nat :=
  let ls := s.laneList p
  (ls.findIdx? (fun l => s.f ⟨s.laneReg p l, 27, 3⟩ % ls.length == j)).getD j

/-- The place in the first of its received words at which codeword i begins on lane k of a port: lanes are deskewed by it
(R394). A Krasesta has no such words. -/
def State.lanePos (s : State) (p : Nat) (pos : List Nat) (i k : Nat) : Nat :=
  if s.part.isK then 0 else (pos.getD k 0 + i * (5440 / (s.laneList p).length)) % 256

/-- Codeword i as received: `bits` are, by lane, the bits on the line from the word in which the codeword begins, the first
bit lowest. The lanes come in the order of the far end, upright (R179, R394). -/
def State.laneWord_ (s : State) (p : Nat) (pos bits : List Nat) (i : Nat) : List Nat :=
  let ls := s.laneList p
  let n := ls.length
  let ks := (List.range n).map (fun j =>
    let k := s.laneFrom p j
    (bits.getD k 0 / 2 ^ s.lanePos p pos i k, s.bit (bitF (s.laneReg p (ls.getD k 0)) 30)))
  (List.range 544).map (fun q =>
    let x := ks.getD (q % n) (0, false)
    let v := x.1 / 2 ^ (10 * (q / n)) % 1024
    if x.2 then 1023 - v else v)

/-- The received codewords in which a flit that begins at bit `at_` of the first lies. -/
def State.rxWords (s : State) (p at_ : Nat) (cws : List (List Nat)) (pos : List Nat) : List (List Nat) :=
  (List.range (if at_ + 2048 ≤ 5140 then 1 else 2)).map (fun i => s.laneWord_ p pos (cws.getD i []) i)

/-- A received codeword with its verdict, corrected where the decoder can (R179). -/
def rsDecode (w : List Nat) : List Nat × Option (List (Nat × Nat)) :=
  match rsErrors w with
  | some es => (rsFix w es, some es)
  | none => (w, none)

/-- The 256 bytes from bit `at_` of the message parts of codewords. -/
def flitOf (ws : List (List Nat)) (at_ : Nat) : List Byte :=
  leBytes 256 (ws.foldr (fun w v => symbolBits (w.take 514) + 2 ^ 5140 * v) 0 / 2 ^ at_ % 2 ^ 2048)

/-- The verdicts of the decoder on the codewords that a flit brings: the uncorrectable ones, and the symbols corrected by
lane (R179, R198, Table LNK-16). -/
def State.fecCount (s : State) (p : Nat) (ws : List (Option (List (Nat × Nat)))) : State :=
  let bad := (ws.filter (·.isNone)).length
  let at_ := ws.flatMap (fun w => (w.getD []).map (·.1))
  let n := (s.laneList p).length
  let s := if bad = 0 then s else (s.addN (s.pa p 0x50) bad).evN 0x23 p bad
  let s := if at_.isEmpty then s else s.addN (s.pa p 0x4C) at_.length
  s.modPort p (fun x => { x with
    laneCorr := at_.foldl (fun t i =>
      let k := s.laneFrom p (i % n)
      tset (fun _ => 0) t k (tget (fun _ => 0) t k + 1)) x.laneCorr })

/-- A flit that the decoder gives: failed by its CRC or by an uncorrectable codeword, or good. -/
def State.flitIn (s : State) (p : Nat) (flit : List Byte) (fecOk : Bool) (mark : Stamp) : State :=
  if ¬ crcOk flit then s.failFlit p true
  else if ¬ fecOk then s.failFlit p false
  else
    let f := readFlit flit
    (s.goodFlit p f).takeFlit p f flit mark

/-- The time mark of a received flit at the PHY interface: a CTSU adds, to the stamp of the edge that presents the word, the
symbol times before the codeword's first bit on lane 0 (R72, R396). -/
def State.wordMark (s : State) (p : Nat) (pos : List Nat) (mark : Stamp) : Stamp :=
  if s.part.isK then mark
  else BitVec.ofNat 96 (tsOf (tsScalar mark.toNat + symTime (s.lanePos p pos 0 (s.laneFrom p 0))))

/-- FLIT_RECEIVE (R193): the next flit of a port, in one or two received codewords. `ofs` is the place at which flit framing
finds the first flit; a later one follows the flit before it. `cws` holds, for each codeword, the bits received on each lane,
`pos` the place of the codeword in them, and `mark` is the stamp of the word on lane 0, or the mark itself in a Krasesta. -/
def execFlitReceive (p : Nat) (ofs : Nat) (cws : List (List Nat)) (pos : List Nat) (mark : Stamp) (s : State) : Out :=
  .next (if s.portExists p && (s.tstate p == 3 || s.tstate p == 4) then
      let at_ := (s.port p).rxAt.getD (ofs % 5140)
      let ws := (s.rxWords p at_ cws pos).map rsDecode
      let seen := (s.port p).rxAt.isSome && at_ != 0
      let s := s.fecCount p ((if seen then ws.drop 1 else ws).map (·.2))
      let s := s.modPort p (fun x => { x with rxAt := some ((at_ + 2048) % 5140) })
      s.flitIn p (flitOf (ws.map (·.1)) at_) (ws.all (·.2.isSome)) (s.wordMark p pos mark)
    else s)

end Sys2Proof.Machine
end

