-- ==== Sys2Proof/Machine/Ecdsa.lean ====
section
/-! DEFINITION. The verification of an ECDSA signature on curve P-384 (R344), as functions of bytes. -/

namespace Sys2Proof.Machine

/-! ### Curve P-384 -/

/-- The field prime, the coefficient b (a is −3), the order and the base point. -/
def ecP : Nat := 2 ^ 384 - 2 ^ 128 - 2 ^ 96 + 2 ^ 32 - 1
def ecB : Nat := 0xb3312fa7e23ee7e4988e056be3f82d19181d9c6efe8141120314088f5013875ac656398d8a2ed19d2a85c8edd3ec2aef
def ecN : Nat := 0xffffffffffffffffffffffffffffffffffffffffffffffffc7634d81f4372ddf581a0db248b0a77aecec196accc52973
def ecG : Option (Nat × Nat) := some
  (0xaa87ca22be8b05378eb1c71ef320ad746e1d3b628ba79b9859f741e082542a385502f25dbf55296c3a545e3872760ab7,
    0x3617de4a96262c6f5d9e98bf9292dc29f8f41dbd289a147ce9da3113b5f0b8c00a60b1ce1d7e819d7a431d7c90ea0e5f)

/-- x to the power of the lowest n bits of k, modulo m. -/
def powMod (m : Nat) : Nat → Nat → Nat → Nat
  | 0, _, _ => 1 % m
  | n + 1, x, k => let y := powMod m n (x * x % m) (k / 2); if k % 2 = 1 then x * y % m else y

/-- The inverse modulo a prime of at most 384 bits. -/
def invMod (m x : Nat) : Nat := powMod m 384 (x % m) (m - 2)

/-- The point of a slope through two points. -/
def ecChord (l x1 y1 x2 : Nat) : Option (Nat × Nat) :=
  let x := (l * l + 2 * ecP - x1 - x2) % ecP
  some (x, (l * (x1 + ecP - x) + ecP - y1) % ecP)

/-- The sum of two points; none is the point at infinity. -/
def ecAdd (a b : Option (Nat × Nat)) : Option (Nat × Nat) :=
  match a, b with
  | none, q => q
  | q, none => q
  | some (x1, y1), some (x2, y2) =>
    if x1 = x2 then
      if (y1 + y2) % ecP = 0 then none
      else ecChord ((3 * x1 * x1 + ecP - 3) * invMod ecP (2 * y1) % ecP) x1 y1 x2
    else ecChord ((y2 + ecP - y1) * invMod ecP (x2 + ecP - x1) % ecP) x1 y1 x2

/-- The multiple of a point by the lowest n bits of k. -/
def ecMul : Nat → Nat → Option (Nat × Nat) → Option (Nat × Nat)
  | 0, _, _ => none
  | n + 1, k, q => let r := ecMul n (k / 2) (ecAdd q q); if k % 2 = 1 then ecAdd q r else r

/-- A point of the curve with coordinates in the field. -/
def ecOn (x y : Nat) : Bool :=
  decide (x < ecP) && decide (y < ecP) && (x * x * x + (ecP - 3) * x + ecB) % ecP == y * y % ecP

/-- ECDSA on P-384 with SHA-384: an uncompressed SEC1 point, a signature r then s, and the signed bytes (R344). -/
def ecdsaOk (key sig msg : List Byte) : Bool :=
  let x := beNat ((key.drop 1).take 48)
  let y := beNat ((key.drop 49).take 48)
  let r := beNat (sig.take 48)
  let v := beNat ((sig.drop 48).take 48)
  let w := invMod ecN v
  let e := beNat (sha384 msg)
  key.getD 0 0 == 4 && ecOn x y && decide (1 ≤ r ∧ r < ecN) && decide (1 ≤ v ∧ v < ecN) &&
    match ecAdd (ecMul 384 (e * w % ecN) ecG) (ecMul 384 (r * w % ecN) (some (x, y))) with
    | none => false
    | some (x1, _) => x1 % ecN == r

end Sys2Proof.Machine
end

