-- ==== Sys2Proof/Machine/Image.lean ====
section
/-! DEFINITION. Images (R342 to R347): the container, its records, what each kind of image may set, and the register and
memory state that applying a whole image produces. -/

namespace Sys2Proof.Machine

/-! ### The header (Table IMG-1) -/

/-- The word at a byte offset. -/
def imgW (bs : List Byte) (o : Nat) : Nat := leNat ((bs.drop o).take 4)
/-- The 16-bit field at a byte offset. -/
def imgH (bs : List Byte) (o : Nat) : Nat := leNat ((bs.drop o).take 2)
/-- The byte at an offset. -/
def imgB (bs : List Byte) (o : Nat) : Nat := (bs.getD o 0).toNat

/-- LENGTH, RECORDS, SIGNED and IMAGE_ID. -/
def imgLength (bs : List Byte) : Nat := imgW bs 8
def imgRecords (bs : List Byte) : Nat := imgW bs 12
def imgSigned (bs : List Byte) : Bool := bitOf (imgW bs 16) 0
def imgId (bs : List Byte) : Nat := imgW bs 20

/-- CRC_OFS (R343). -/
def crcOfs (bs : List Byte) : Nat := imgLength bs - (if imgSigned bs then 204 else 4)

/-- The part code of this part (Table IMG-1). -/
def partCode (p : Part) : Nat := if p.isK then 0x00B1 else 0x0002

/-- The most bytes that an image may have. -/
def State.imgLimit (s : State) (plan : Bool) : Nat :=
  if ¬ plan then 4 * 2 ^ 20 else if s.part.isK then s.rn 0x60000C % 512 * 2 ^ 20 else 256 * 2 ^ 10

/-- Cause 2, FORMAT, judged on the header: the offset of the field that breaks Table IMG-1 (R438). -/
def State.hdrBad (s : State) (plan : Bool) (bs : List Byte) : Option Nat :=
  let zero := fun (o n : Nat) => ((bs.drop o).take n).all (· == 0)
  if imgW bs 0 ≠ 0x55737631 then some 0
  else if imgH bs 6 ≠ 1 ∨ imgH bs 4 ≠ (if plan then 2 else 1) then some 4
  else if imgLength bs % 4 ≠ 0 ∨ imgLength bs < (if imgSigned bs then 268 else 68) ∨ s.imgLimit plan < imgLength bs then some 8
  else if 2 ≤ imgW bs 16 then some 16
  else if ¬ zero 44 20 then some 44
  else if plan then (if imgH bs 24 ≠ 0 then some 24 else none)
  else if ¬ zero 26 2 then some 24
  else if ¬ zero 28 16 then some 28
  else none

/-! ### Records (Tables IMG-3, IMG-4) -/

/-- A record: the offset of its header, its header words, its payload words; `whole` is false where it runs beyond
CRC_OFS. -/
structure ImgRec where
  off : Nat
  rt : Nat
  cnt : Nat
  tl : Nat
  th : Nat
  w3 : Nat
  words : List Nat
  whole : Bool
  deriving DecidableEq, Repr

/-- The little-endian words of a list of bytes. -/
def leWords : List Byte → List Nat
  | a :: b :: c :: d :: t => leNat [a, b, c, d] :: leWords t
  | _ => []

/-- The records in the words before CRC_OFS; reading stops after a record that runs beyond it. -/
def parseRecs : Nat → Nat → List Nat → List ImgRec
  | 0, _, _ => []
  | _, _, [] => []
  | n + 1, off, w0 :: tl :: th :: w3 :: t =>
    let c := w0 % 2 ^ 24
    let r : ImgRec := { off := off, rt := w0 / 2 ^ 24, cnt := c, tl := tl, th := th, w3 := w3, words := t.take c
                        whole := decide (c ≤ t.length) }
    if c ≤ t.length then r :: parseRecs n (off + 16 + 4 * c) (t.drop c) else [r]
  | _ + 1, off, _ :: _ =>
    [{ off := off, rt := 0, cnt := 0, tl := 0, th := 0, w3 := 0, words := [], whole := false }]

/-- The records of an image. -/
def imgRecs (bs : List Byte) : List ImgRec := parseRecs bs.length 64 (leWords ((bs.take (crcOfs bs)).drop 64))

/-- Byte address of a MEM record, and its space: 0 bonded logical, 1 stack. -/
def ImgRec.memAddr (r : ImgRec) : Nat := r.th % 256 * 2 ^ 32 + r.tl
def ImgRec.memSpace (r : ImgRec) : Nat := r.th / 2 ^ 30

/-- Two ranges, of a start and a length, overlap; an empty one overlaps nothing. -/
def rangesMeet (a n b m : Nat) : Bool := decide (max a b < min (a + n) (b + m))

/-- The staging area: its start and its length in bytes. -/
def State.stageBase (s : State) : Nat := s.rn 0x600008 % 2 ^ 20 * 2 ^ 20
def State.stageSize (s : State) : Nat := s.rn 0x60000C % 512 * 2 ^ 20

/-- The tests of a RELOC payload (Table IMG-5), each with the index of the word that sets its value: the offset in a segment
takes two words, of which the second counts. An entry of KIND 2 names no LOCSEG (DEDUCED, log entry 151). -/
def relocTests (w : List Nat) : List (Nat × Bool) :=
  let size := fun (k : Nat) => w.getD (2 * k) 0
  (List.range 16).map (fun k =>
    (2 * k + 1, decide (8 ≤ w.getD (2 * k + 1) 0) && decide (w.getD (2 * k + 1) 0 ≤ 51))) ++
  (List.range ((w.length - 32) / 4)).flatMap (fun e =>
    let w0 := w.getD (32 + 4 * e) 0
    let kind := bitsOf w0 28 4
    let loc := bitsOf w0 20 4
    let ofs := w.getD (33 + 4 * e) 0 + w.getD (34 + 4 * e) 0 * 2 ^ 32
    [(32 + 4 * e, (kind == 1 || kind == 2) && size (bitsOf w0 24 4) != 0 && bitsOf w0 4 16 == 0 && (kind != 1 || size loc != 0)),
      (34 + 4 * e, if kind = 1 then ofs % 8 == 0 && decide (ofs + 8 ≤ size loc * 256) else kind != 2 || ofs == 0),
      (35 + 4 * e, w.getD (35 + 4 * e) 0 == 0)])

/-- Cause 8 for one record: the tests of Tables IMG-3 to IMG-6, each with the offset of the word that sets its value, or of
the record header where no one word does (R351). -/
def State.recTests (s : State) (plan : Bool) (r : ImgRec) : List (Nat × Bool) :=
  let o := r.off
  let typed := match r.rt with
    | 1 => [(o + 8, r.th == 0)]
    | 2 =>
      [(o, plan && s.part.isK), (o + 4, r.tl % 4 == 0), (o + 8, bitsOf r.th 8 22 == 0 && decide (r.memSpace ≤ 1)),
        (o, decide (r.memAddr + 4 * r.cnt ≤ (if r.memSpace = 0 then 64 * tileBytes else stackBytes)) &&
          (r.memSpace == 0 || r.cnt == 0 || !rangesMeet r.memAddr (4 * r.cnt) s.stageBase s.stageSize))]
    | 3 =>
      [(o, plan && r.cnt == 32), (o + 4, if s.part.isK then s.portExists r.tl && s.use r.tl != 0 else r.tl == 0)]
    | 4 =>
      (o, plan && !s.part.isK && decide (32 ≤ r.cnt) && r.cnt % 4 == 0) :: (o + 4, r.tl == 0) :: (o + 8, r.th == 0) ::
        (relocTests r.words).map (fun x => (o + 16 + 4 * x.1, x.2))
    | 5 => []
    | _ => [(o, false)]
  (o, r.whole) :: (o + 12, r.w3 == 0) :: typed

/-- The offset that a record refused by cause 8 gives; none where it keeps its type. -/
def State.recFault (s : State) (plan : Bool) (r : ImgRec) : Option Nat :=
  ((s.recTests plan r).find? (fun x => !x.2)).map (·.1)

/-! ### What an image may set (R345) -/

/-- A field takes part in image writes. -/
def Acc.loads : Acc → Bool
  | .rw .. | .rwi .. | .rwS _ | .img .. => true
  | _ => false

/-- A value lies in the stated range of a field of w bits. -/
def Acc.inRange (w : Nat) (v : Nat) : Acc → Bool
  | .rw mn mx | .rwi mn mx | .img mn mx => decide (mn ≤ v) && decide (v ≤ mx)
  | .rwS lim => decide (-(lim : Int) ≤ signed w v) && decide (signed w v ≤ (lim : Int))
  | _ => true

/-- The row that a REG record of an image may write at an address. -/
def loadRow (part : Part) (plan : Bool) (a : Nat) : Option RRow :=
  (regRow part a).filter (fun r => (r.lock == .plan || r.lock == .manifest) == plan && r.fds.any (fun f => f.acc.loads))

/-- The address at which the model holds a register that a REG record names: a window offset in a die, a BAR0 offset in
a Krasesta (Table IMG-4). -/
def recAddr (part : Part) (a : Nat) : Nat := if part.isK then a else if a < 0x100000 then a + 0x100000 else 2 ^ 32

/-- Where a word of a REG record goes: a plan image's words for TILE[l] go to the physical tile that TILE_MAP gives logical
tile l (R266, R329), and TILE[64] to TILE[71] name no logical tile. -/
def State.recPlace (s : State) (plan : Bool) (a0 : Nat) : Nat :=
  let a := recAddr s.part a0
  if plan ∧ s.part.isK ∧ 0x2000000 ≤ a ∧ a < 0x2900000 then
    let l := (a - 0x2000000) / 0x20000
    if l < 64 then 0x2000000 + 0x20000 * s.physOf l + a % 0x20000 else 2 ^ 32
  else a

/-- The bits of a word that are not reserved. -/
def namedBits (fds : List Fd) : Nat := fds.foldl (fun m f => m ||| (2 ^ f.w - 1) * 2 ^ f.lo) 0

/-- A word with the loadable fields of another. -/
def mergeLoad (fds : List Fd) (old new : Nat) : Nat :=
  fds.foldl (fun m f => if f.acc.loads then insBits m f.lo f.w (bitsOf new f.lo f.w) else m) old

/-- The port and the word of a WHEEL register (Table LNK-12). -/
def State.wheelReg (s : State) (a : Nat) : Option (Nat × Nat) :=
  (s.allPorts.find? (fun p =>
    let b := s.pa p 0x1000
    decide (b ≤ a) && decide (a < b + 0x1000) && a % 4 == 0)).map (fun p => (p, (a - s.pa p 0x1000) / 4))

/-- The same, and none where the port has no wheel of its own. -/
def State.wheelPlace (s : State) (a : Nat) : Option (Nat × Nat) :=
  (s.wheelReg a).filter (fun x => s.portExists x.1 && !s.gangedUpper x.1)

/-- CLASS of a wheel entry: 0 S, 1 T, 2 P, 3 F. -/
def entClass (b : Byte) : Nat := b.toNat / 64

/-- An entry names a queue only for S (Table LNK-16). -/
def entOk (b : Byte) : Bool := entClass b == 0 || b.toNat % 64 == 0

/-- What applying an image has made so far: the state, the words staged by R419, the offset of the last word that set
each address, the payloads of MEM records (start, end, offset; the stacks from 2^41), and what fails by causes 9 and 10:
cause, record, offset. -/
structure Shadow where
  st : State
  stg : Tbl Nat := []
  ofs : List (Nat × Nat) := []
  mem : List (Nat × Nat × Nat) := []
  bad : List (Nat × Nat × Nat) := []

/-- The loader writes one word of a register. -/
def State.putLoad (s : State) (plan : Bool) (b w : Nat) : State :=
  match loadRow s.part plan b with
  | some q => s.setN b (mergeLoad q.fds (s.rn b) w)
  | none => s

/-- One word of a REG record. -/
def Shadow.word (plan : Bool) (x : Shadow) (i wo a0 v : Nat) : Shadow :=
  let s := x.st
  let a := s.recPlace plan a0
  let fail := fun (c : Nat) => { x with bad := x.bad ++ [(c, i, wo)] }
  match s.wheelReg a with
  | some (p, k) =>
    let bs := leBytes 4 v
    if bs.all entOk then
      { x with
        st := s.modPort p (fun y => { y with wheel := tsetMany wheelDefault y.wheel (4 * k) bs }), ofs := (a, wo) :: x.ofs }
    else fail 10
  | none =>
    match loadRow s.part plan a with
    | none => fail 9
    | some r =>
      let inR := r.fds.all (fun f => f.acc.inRange f.w (bitsOf v f.lo f.w))
      let sel := !(a / 0x10000 == 0x1C || a / 0x100000 == 8) || (s.perfSelAt a).all (fun y => selOk y.1 v)
      if !inR || !sel || v != (v &&& namedBits r.fds) then fail 10
      else if r.wi + 1 < r.wn then { x with stg := tset (fun _ => 2 ^ 32) x.stg a v, ofs := (a, wo) :: x.ofs }
      else
        let lows := (List.range r.wi).map (fun j => a - 4 * (r.wi - j))
        let low := fun (b : Nat) => let w := tget (fun _ => 2 ^ 32) x.stg b; if w < 2 ^ 32 then w else s.rn b
        let per := low LEAP_PERIOD + 2 ^ 32 * v
        if a = LEAP_PERIOD + 4 ∧ (per < 10000 ∨ 10000000000 < per) then fail 10
        else
          let s := s.each lows (fun s b => s.putLoad plan b (low b))
          { x with
            st := s.putLoad plan a v, ofs := (a, wo) :: x.ofs, stg := x.stg.filter (fun y => !lows.contains y.1) }

/-- A REG record. -/
def Shadow.regRec (plan : Bool) (x : Shadow) (i : Nat) (r : ImgRec) : Shadow :=
  r.words.zipIdx.foldl (fun x w => x.word plan i (r.off + 16 + 4 * w.2) (r.tl + 4 * w.2) w.1) x

/-- A MEM record. -/
def Shadow.memRec (x : Shadow) (r : ImgRec) : Shadow :=
  let bs := r.words.flatMap (leBytes 4)
  let a := r.memAddr
  if r.memSpace = 0 then { x with st := x.st.writeSpace 0 a bs, mem := (a, a + bs.length, r.off + 16) :: x.mem }
  else
    { x with
      st := x.st.writeSpace 1 a bs
      mem := (2 ^ 41 + a, 2 ^ 41 + a + bs.length, r.off + 16) :: x.mem }

/-- The records, in image order; only REG and MEM records write. -/
def Shadow.recs (plan : Bool) (x : Shadow) (l : List ImgRec) : Shadow :=
  l.zipIdx.foldl (fun x r => if r.1.rt = 1 then x.regRec plan r.2 r.1 else if r.1.rt = 2 then x.memRec r.1 else x) x

/-- Every register that an image of a kind may write takes its Reset value, except the registers of the GECKO block
(R353, R354) and RWS registers (Table SCP-6). The wheels take the default wheel, or the one of the structure image. -/
def State.loadReset (s : State) (plan : Bool) : State :=
  let keep := fun (a : Nat) =>
    match loadRow s.part plan a with
    | none => true
    | some r => r.lock == .rws || (decide (0x101000 ≤ a) && decide (a < 0x102000))
  let s := { s with regs := s.regs.filter (fun x => keep x.1) }
  s.each s.allPorts (fun s p => s.modPort p (fun y => { y with wheel := if plan then y.wheel0 else [] }))

/-- The state before the records are applied: a plan load writes CLASS of the header first (R346, R354). -/
def State.loadBase (s : State) (plan : Bool) (bs : List Byte) : State :=
  if plan then (s.loadReset true).setF CLASS (imgB bs 26)
  else
    let s := if s.part.isK then s.each (tileRegions.filter (fun r => s.bit (rgPinned r))) State.unpin else s
    s.loadReset false

/-- What applying a whole image produces. -/
def State.applied (s : State) (plan : Bool) (bs : List Byte) : Shadow :=
  ({ st := s.loadBase plan bs } : Shadow).recs plan (imgRecs bs)

end Sys2Proof.Machine
end

