-- ==== Sys2Proof/Machine/Check.lean ====
section
/-! DEFINITION. The check phase (R351, Table IMG-6): causes 3 to 25, each as the list of its failures. -/

namespace Sys2Proof.Machine

/-! ### Where a failing value was set -/

/-- The offset of the last word that set an address; 0 where no word did. -/
def Shadow.at_ (x : Shadow) (a : Nat) : Nat := ((x.ofs.find? (fun y => y.1 == a)).map (·.2)).getD 0

/-- The offset of the last word that set one of some addresses (R351). -/
def Shadow.last (x : Shadow) (l : List Nat) : Nat := l.foldl (fun m a => max m (x.at_ a)) 0

/-- The offset of the last word that set a byte range of the bonded space. -/
def Shadow.lastMem (x : Shadow) (a n : Nat) : Nat :=
  ((x.mem.find? (fun m => rangesMeet a n m.1 (m.2.1 - m.1))).map
    (fun m => m.2.2 + (min (a + n - 4) (m.2.1 - 4) - m.1) / 4 * 4)).getD 0

/-! ### Causes 11 to 17: the structure image -/

/-- Cause 11, IDENTITY. -/
def Shadow.identity (x : Shadow) : List Nat :=
  let id := x.st.f NODE_ID
  if idOk id && (idLevel id == 0) == !x.st.part.isK then [] else [x.at_ NODE_CFG]

/-- The channels of a part: ports that exist, the second port of a ganged channel left out. -/
def State.chans_ (s : State) : List Nat := s.allPorts.filter (fun p => s.portExists p && !s.gangedUpper p)

/-- WIDTH that the mode of the port's group gives (Tables LNK-1, LNK-9). -/
def State.modeWidth (s : State) (p : Nat) : Nat :=
  if ¬ s.part.isK then 2
  else match s.rn (grpBase p) % 4 with
    | 0 => if bitOf (s.rn (grpBase p)) 2 then 3 else 2
    | 1 => 1
    | _ => 0

/-- One port with a USE keeps Table IMG-7, R177 and R178 beside the counts. -/
def State.portOk (s : State) (p : Nat) : Bool :=
  let id := s.f NODE_ID
  let peer := s.peerExp p
  let u := s.use p
  let w := s.width p
  let tray := s.level == 1
  let far := idOk peer
  let wide := w != 2
  s.portExists p && w == s.modeWidth p && (far || peer == 0xFFFFF) &&
  if ¬ s.part.isK then u == 2 && w == 2 && far
  else match u with
    | 1 =>
      if tray then w == 2 && (peer == 0xFFFFF || (far && idLevel peer == 0))
      else if s.level = 2 then
        wide && far && idLevel peer == 1 && (!bitOf id 17 || bitsOf peer 10 6 == bitsOf id 10 6)
      else wide && far && idLevel peer == 2 && !bitOf peer 17
    | 4 => wide && far && decide (2 ≤ s.level) && peer == id ^^^ 2 ^ 17
    | _ => wide && far && idLevel peer != 0

/-- The counts of uses that a role may have (Table IMG-7). -/
def State.usesOk (s : State) : Bool :=
  let id := s.f NODE_ID
  let cs := s.chans_
  let n := fun (u : Nat) => (cs.filter (fun p => s.use p == u)).length
  let kids := (cs.filter (fun p => s.use p == 1 && s.peerExp p != 0xFFFFF)).length
  if ¬ s.part.isK then n 2 == 1
  else if s.level = 1 then n 2 == 1 && decide (n 3 ≤ 1) && n 4 == 0 && decide (kids ≤ 16)
  else if bitOf id 17 then n 2 == 0 && n 3 == 0 && n 4 == 1 && decide (kids ≤ 64)
  else if s.level = 2 then n 2 == 1 && decide (n 3 ≤ 1) && decide (n 4 ≤ 1) && decide (kids ≤ 64)
  else n 2 == 0 && n 3 == 0 && decide (n 4 ≤ 1) && decide (kids ≤ 64)

/-- A group is ganged only as one of a pair in MODE 0 (R178). -/
def State.gangOk (s : State) (g : Nat) : Bool :=
  let c := fun (k : Nat) => s.rn (0x1000000 + 0x40000 * k) % 8
  let o := if g % 2 = 0 then g + 1 else g - 1
  c g < 4 || (c g == 4 && c o == 4)

/-- Cause 12, PORTS. -/
def Shadow.ports (x : Shadow) : List Nat :=
  let s := x.st
  let used := s.allPorts.filter (fun p => s.use p != 0 && !s.gangedUpper p)
  (used.filter (fun p => !s.portOk p)).map (fun p => x.last [s.pa p 0, grpBase p]) ++
    (if s.part.isK then
      ((List.range 18).filter (fun g => !s.gangOk g)).map (fun g => x.last [0x1000000 + 0x40000 * g])
    else []) ++
    (if s.usesOk then [] else [x.last (used.map (fun p => s.pa p 0))])

/-- An entry of the wheel as written. -/
def State.wheelEnt (s : State) (p i : Nat) : Byte := tget wheelDefault (s.port p).wheel (i % 4096)

/-- T or P. -/
def entCtrl (b : Byte) : Bool := entClass b == 1 || entClass b == 2

/-- The slots of a wheel. -/
def slots : List Nat := List.range 4096

/-- A port has an F slot (R318). -/
def State.hasF (s : State) (p : Nat) : Bool := slots.any (fun i => entClass (s.wheelEnt p i) == 3)

/-- The WHEEL register of a slot. -/
def State.wheelA (s : State) (p i : Nat) : Nat := s.pa p (0x1000 + i % 4096 / 4 * 4)

/-- The last word that set any entry of a wheel. -/
def Shadow.lastWheel (x : Shadow) (p : Nat) : Nat :=
  (x.ofs.filter (fun y => decide (x.st.pa p 0x1000 ≤ y.1) && decide (y.1 < x.st.pa p 0x2000))).foldl (fun m y => max m y.2) 0

/-- Cause 13, WHEEL, of a structure image: a run of more than 15 slots without T or P (R185), or no F slot. -/
def Shadow.wheelStruct (x : Shadow) : List Nat :=
  let s := x.st
  s.chans_.flatMap (fun p =>
    (slots.filter (fun i => (List.range 16).all (fun j => !entCtrl (s.wheelEnt p (i + j))))).map (fun i =>
      x.last ((List.range 16).map (fun j => s.wheelA p (i + j)))) ++
    (if s.hasF p then [] else [x.lastWheel p]))

/-- Cause 13 of a plan image: a T or P entry of the structure image changed, P placed, or no F slot (R27, R185, R318). -/
def Shadow.wheelPlan (x : Shadow) : List Nat :=
  let s := x.st
  s.chans_.flatMap (fun p =>
    let y := s.port p
    if y.wheel = y.wheel0 then []
    else
      (slots.filter (fun i =>
        let b := s.wheelEnt p i
        let b0 := tget wheelDefault y.wheel0 i
        b != b0 && (entCtrl b0 || entClass b == 2))).map (fun i => x.at_ (s.wheelA p i)) ++
      (if s.hasF p then [] else [x.lastWheel p]))

/-- BASE and DEPTH of a receive queue in RXQ_CFG. -/
def State.rxPart (s : State) (p q : Nat) : Nat × Nat := (s.rn (s.qa p q 0) % 2 ^ 15, s.rxDepth p q)

/-- Cause 14, BUFFER (R201). -/
def Shadow.buffer (x : Shadow) : List Nat :=
  let s := x.st
  s.chans_.flatMap (fun p =>
    let size := if s.modeWidth p = 3 then 32768 else 16384
    let qs := (List.range 64).filter (fun q => s.rxDepth p q != 0)
    (qs.filter (fun q => let b := s.rxPart p q; decide (size < b.1 + b.2))).map (fun q => x.at_ (s.qa p q 0)) ++
    qs.flatMap (fun q => (qs.filter (fun k => decide (k < q) &&
      rangesMeet (s.rxPart p q).1 (s.rxPart p q).2 (s.rxPart p k).1 (s.rxPart p k).2)).map
      (fun k => x.last [s.qa p q 0, s.qa p k 0])))

/-- Cause 15, MAP: a unit named twice (R227, R328). -/
def Shadow.maps (x : Shadow) : List Nat :=
  let s := x.st
  let n := if s.part.isK then 64 else s.part.numCores
  let at_ := fun (l : Nat) => if s.part.isK then 0x2F00000 + 4 * l else 0x1A1000 + 4 * l
  let v := fun (l : Nat) => if s.part.isK then s.physOf l else s.f (coreMap l)
  (List.range n).flatMap (fun l => ((List.range l).filter (fun k => v k == v l)).map (fun k => x.last [at_ k, at_ l]))

/-- Cause 16, PROFILE (R293): a die holds no START, CEIL or PCAP, and only that profile 0 must be defined is checked. -/
def Shadow.profile (x : Shadow) : List Nat :=
  let s := x.st
  let lim := s.f PWR_LIMIT
  let okF := fun (n : Nat) => decide (1500 ≤ n) && decide (n ≤ 2000) && n % 25 == 0
  if ¬ s.part.isK then (if bitOf (s.f PROF_DEFINED) 0 then [] else [x.at_ 0x130000])
  else
    (if bitOf (s.f PROF_DEFINED) 0 then [] else [x.at_ 0x130000]) ++
    (if 300 ≤ lim ∧ lim ≤ 1800 then [] else [x.at_ 0x380000C]) ++
    (if 70 ≤ s.f T_LIMIT ∧ s.f T_LIMIT ≤ 105 then [] else [x.at_ 0x3800010]) ++
    ((List.range 16).filter (fun p => bitOf (s.f PROF_DEFINED) p)).flatMap (fun p =>
      (tileRegions.filter (fun r =>
        !(okF (s.f (profStart p r)) && okF (s.f (profCeil p r)) && decide (s.f (profStart p r) ≤ s.f (profCeil p r))))).map
        (fun r => x.last [(profStart p r).addr, 0x130000]) ++
      (if 300 ≤ s.f (profPcap p) ∧ s.f (profPcap p) ≤ lim then [] else [x.last [(profPcap p).addr, 0x130000, 0x380000C]]))

/-- The areas of stack space that the structure image gives, in MiB: start, length, registers. -/
def State.areas (s : State) : List (Nat × Nat × Nat × Nat) :=
  [(s.rn 0x600008 % 2 ^ 20, s.rn 0x60000C % 512, 0x600008, 0x60000C),
    (s.f SPAWN_CACHE, s.f SPAWN_CACHE_SIZE, 0x198000, 0x198004)] ++
  (List.range 16).map (fun d => (s.f (spillBase d), s.f (spillSize d), (spillBase d).addr, (spillSize d).addr))

/-- Cause 17, AREAS. -/
def Shadow.areas (x : Shadow) : List Nat :=
  let s := x.st
  if ¬ s.part.isK then []
  else
    let l := s.areas
    let stage := s.rn 0x60000C % 512
    (if 16 ≤ stage ∧ stage ≤ 256 then [] else [x.at_ 0x60000C]) ++
    (l.filter (fun a => a.2.1 != 0 && decide (576 * 2 ^ 10 < a.1 + a.2.1))).map (fun a => x.last [a.2.2.1, a.2.2.2]) ++
    l.zipIdx.flatMap (fun a => ((l.take a.2).filter (fun b => rangesMeet a.1.1 a.1.2.1 b.1 b.2.1)).map
      (fun b => x.last [a.1.2.2.1, a.1.2.2.2, b.2.2.1, b.2.2.2])) ++
    (if s.level = 1 then []
      else (l.drop 2).filterMap (fun a => if a.2.1 = 0 then none else some (x.last [a.2.2.1, a.2.2.2])))

/-! ### Causes 18 to 25: the plan image -/

/-- Cause 18, CLASS (R31, R346). -/
def Shadow.class_ (x : Shadow) (bs : List Byte) : List Nat :=
  let c := imgB bs 26
  if 16 ≤ c ∨ ¬ bitOf (x.st.rn 0x120014) c then [24] else if x.st.f CLASS = c then [] else [x.at_ CLASS.addr]

/-- A counter reference names a counter of a core present (R27). -/
def State.selOk (s : State) (sel : Nat) : Bool := decide (bitsOf sel 8 8 < s.part.numCores) && decide (sel % 64 < 48)

/-- A queue is used (R346): an S slot, a KIND, a SRC. -/
def State.sSlots (s : State) (p : Nat) : List (Nat × Nat) :=
  (s.port p).wheel.filterMap (fun y => if entClass y.2 = 0 then some (y.2.toNat % 64, y.1) else none)

/-- The counter references of a plan, enabled or not (log entry 45): where each lies, and its value. -/
def State.selRefs (s : State) : List (Nat × Nat) :=
  [(READY_SEL, s.rn READY_SEL), (COMMIT_SEL, s.rn COMMIT_SEL)] ++
  (List.range 256).flatMap (fun i =>
    let w := s.rn (pairCfg i)
    [(pairCfg i, bitsOf w 20 8 * 256 + bitsOf w 14 6), (pairCfg i, bitsOf w 6 8 * 256 + w % 64)]) ++
  s.chans_.flatMap (fun p => (List.range 64).flatMap (fun q => [0x10, 0x20, 0x24].map (fun o =>
    (s.qa p q o, s.rn (s.qa p q o)))))

/-- Cause 19, COUNTER. -/
def Shadow.counter (x : Shadow) : List Nat :=
  (x.st.selRefs.filter (fun y => !x.st.selOk y.2)).map (fun y => x.at_ y.1)

/-- Cause 20, DEPTH (R27, R346). -/
def Shadow.depth (x : Shadow) (l : List ImgRec) : List Nat :=
  let s := x.st
  let decls := l.filter (fun r => r.rt == 3)
  decls.flatMap (fun r =>
    let p := s.chanOf r.tl
    ((List.range 64).filter (fun q => bitsOf (r.words.getD (q / 2) 0) (q % 2 * 16) 16 != s.rxDepth p q)).map
      (fun q => r.off + 16 + 4 * (q / 2))) ++
  (s.chans_.filter (fun p => !decls.any (fun r => s.chanOf r.tl == p))).flatMap (fun p =>
    (s.sSlots p).map (fun y => x.at_ (s.wheelA p y.2)) ++
    (List.range 64).flatMap (fun q =>
      (if s.rxKind p q = 0 then [] else [x.at_ (s.qa p q 4)]) ++ (if s.txSrc p q = 0 then [] else [x.at_ (s.qa p q 0x14)])))

/-- Cause 21, LEAP (R23). -/
def Shadow.leap (x : Shadow) : List Nat :=
  let s := x.st
  let lead := s.f LEAP_LEAD
  let guard := s.f READY_GUARD
  let per := s.r64 LEAP_PERIOD
  (if lead < s.dDown + leapMinLead then [x.at_ LEAP_LEAD.addr] else []) ++
  (if guard < lead + s.dDown then [x.last [READY_GUARD.addr, LEAP_LEAD.addr]] else []) ++
  (if per ≤ guard then [x.last [READY_GUARD.addr, LEAP_PERIOD, LEAP_PERIOD + 4]] else []) ++
  (if per < 10000 ∨ 10000000000 < per then [x.last [LEAP_PERIOD, LEAP_PERIOD + 4]] else [])

/-- The loops of a program: the index of the LOOP descriptor and the first index of its body. -/
def loopsOf (ds : List Nat) : List (Nat × Nat) :=
  ds.zipIdx.filterMap (fun d => if dOp d.1 = opLOOP then some (d.2, d.2 - loopBody d.1) else none)

/-- Two loop bodies nest or are apart (R259). -/
def loopPairOk (a b : Nat × Nat) : Bool :=
  decide (a.1 < b.2) || decide (b.1 < a.2) || (decide (a.2 ≤ b.2) && decide (b.1 ≤ a.1)) || (decide (b.2 ≤ a.2) && decide (a.1 ≤ b.1))

/-- A LOOP descriptor lies in nested loops no deeper than 4, itself counted, and overlaps none without nesting. -/
def loopOk (ls : List (Nat × Nat)) (a : Nat × Nat) : Bool :=
  ls.all (fun b => loopPairOk a b) && decide ((ls.filter (fun b => decide (b.2 ≤ a.2) && decide (a.1 ≤ b.1))).length ≤ 4)

/-- The queue of a SEND or RECV is enabled (R261). -/
def State.queueOn (s : State) (d : Nat) : Bool :=
  let p := fd d 212 206
  let q := fd d 205 200
  s.portExists p && s.use p != 0 &&
    (if dOp d = opSEND then s.txSrc p q == 1 else s.rxDepth p q != 0 && s.rxKind p q == 1)

/-- The least and the greatest offsets that the loops around descriptor i add to its address fields (R259). -/
def loopSpan (ds : List Nat) (i : Nat) : List (Int × Int) :=
  (ds.zipIdx.filter (fun x => dOp x.1 == opLOOP && decide (i < x.2) && decide (x.2 ≤ i + loopBody x.1))).foldl
    (fun o x => (o.zip (loopStrides x.1)).map (fun y =>
      let v := ((loopCount x.1 : Int) - 1) * y.2
      (y.1.1 + min 0 v, y.1.2 + max 0 v))) [(0, 0), (0, 0), (0, 0)]

/-- The strides that a loop around descriptor i gives its first address field. -/
def loopSteps (ds : List Nat) (i : Nat) : List Int :=
  (ds.zipIdx.filter (fun x => dOp x.1 == opLOOP && decide (2 ≤ loopCount x.1) && decide (i < x.2) &&
    decide (x.2 ≤ i + loopBody x.1))).map (fun x => (loopStrides x.1).headD 0)

/-- A descriptor with loop offsets stays in range at every iteration (R261): its address fields do not wrap, its ranges
stay in their memory, and a LOAD with CLEAN stays in whole blocks (R262). -/
def loopedOk (ds : List Nat) (i d : Nat) : Bool :=
  if dLidx d then
    let sp := loopSpan ds i
    (((addrFields (dOp d)).zip (usedFields d)).zip sp).all (fun x =>
      let v : Int := bitsOf d x.1.1.1 x.1.1.2
      !x.1.2 || (decide (0 ≤ v + x.2.1) && decide (v + x.2.2 < 2 ^ x.1.1.2))) &&
    descOk (addOffsets d (sp.map (·.1))) && descOk (addOffsets d (sp.map (·.2))) &&
    (!(dOp d == 1 && bitOf d 143) || (loopSteps ds i).all (fun v => v % 65536 == 0))
  else true

/-- The identifiers and counters that a descriptor names are within the node, or identifiers that R7 accepts (R27, R261). -/
def State.namesOk (s : State) (l d : Nat) : Bool :=
  match dOp d with
  | 9 | 10 => s.hasShare l d && bitOf (s.ringRef d) 31 && bitsOf (s.ringRef d) 8 8 == l && s.queueOn d
  | 11 => if bitOf d 239 then decide (fd d 218 211 < s.part.numCores) else idOk (fd d 238 219)
  | 1 | 2 => s.hasShare l d
  | _ => true

/-- Descriptor i of a program of logical tile l keeps R261 and R262. -/
def State.planDesc (s : State) (l : Nat) (ds : List Nat) (ls : List (Nat × Nat)) (d : Nat) (i : Nat) : Bool :=
  descOk d && decide (dDoneK d ≤ 47) && s.namesOk l d && loopedOk ds i d &&
    (if dOp d = opLOOP then decide (loopBody d ≤ i) && loopOk ls (i, i - loopBody d) else true)

/-- Cause 22, TILE. -/
def Shadow.tile (x : Shadow) : List Nat :=
  let s := x.st
  if ¬ s.part.isK then []
  else (List.range 64).flatMap (fun l =>
    let t := s.physOf l
    let base := s.rn (0x200000C + 0x20000 * t)
    let len := s.rn (0x2000010 + 0x20000 * t)
    if tileBytes < (base + len) * 32 then [x.last [0x200000C + 0x20000 * t, 0x2000010 + 0x20000 * t]]
    else
      let ds := (List.range len).map (fun i => leNat (s.tRead t ((base + i) * 32) 32))
      let ls := loopsOf ds
      (ds.zipIdx.filter (fun d => !s.planDesc l ds ls d.1 d.2)).map (fun d =>
        x.lastMem (l * tileBytes + (base + d.2) * 32) 32))

/-- Cause 23, SHARE (R232, R286). -/
def Shadow.share (x : Shadow) : List Nat :=
  let s := x.st
  let rs := (List.range 66).map (fun r => 0x3401000 + 4 * r)
  if ¬ s.part.isK then []
  else
    (if 1024 < (rs.map (fun a => s.rn a)).sum then [x.last rs] else []) ++
    (if s.bit MIG_EN && s.share 65 == 0 then [x.last [MIG_EN.addr, 0x3401000 + 4 * 65]] else [])

/-- A ring of a queue: its space, its start and its length in bytes, and its registers. -/
def State.rxRing (s : State) (p q : Nat) : Nat × Nat × Nat :=
  (s.rxSel p q, s.rn (s.qa p q 8) * 256, s.rn (s.qa p q 0xC) % 2 ^ 21 * 256)
def State.txRing (s : State) (p q : Nat) : Nat × Nat × Nat :=
  (s.txSel p q, s.rn (s.qa p q 0x18) * 256, s.rn (s.qa p q 0x1C) % 2 ^ 21 * 256)

/-- The rings of a plan in a Krasesta: port, queue, ring, and the registers that give it. -/
def State.rings (s : State) : List (Nat × (Nat × Nat × Nat) × List Nat) :=
  s.chans_.flatMap (fun p => (List.range 64).flatMap (fun q =>
    (if s.rxKind p q = 1 then [(p, s.rxRing p q, [s.qa p q 4, s.qa p q 8, s.qa p q 0xC])] else []) ++
    (if s.txSrc p q = 1 then [(p, s.txRing p q, [s.qa p q 0x14, s.qa p q 0x18, s.qa p q 0x1C])] else [])))

/-- A range of the bonded space meets the top 32 MB of a service tile. -/
def State.inStaging (s : State) (a n : Nat) : Bool :=
  s.svcTiles.any (fun l => rangesMeet a n (l * tileBytes + 96 * 2 ^ 20) (32 * 2 ^ 20))

/-- Queue QQ or IQ of a die port keeps R274. -/
def State.inQueueOk (s : State) (p q : Nat) : Bool :=
  s.rxKind p q == 1 && s.rxSel p q == 0 && bitOf (s.rn (s.qa p q 0x10)) 31

/-- Queue RQ of a die port keeps R276. -/
def State.outQueueOk (s : State) (p q : Nat) : Bool :=
  s.txSrc p q == 1 && s.txSel p q == 0 && bitOf (s.rn (s.qa p q 0x20)) 31

/-- The queues of one pass (R289): the registers of those that break R274 or R276. -/
def State.passQueueBad (s : State) (j : Nat) : List (List Nat) :=
  (s.passDies j).flatMap (fun k =>
    match s.diePort k with
    | none => [[passR j 8]]
    | some p =>
      let inBad := fun (q : Nat) =>
        if s.inQueueOk p q then [] else [[s.qa p q 4, s.qa p q 0x10, PFX_QQ.addr]]
      inBad (s.f PFX_QQ) ++ inBad (s.f PFX_IQ) ++
        (if s.outQueueOk p (s.f PFX_RQ) then []
          else [[s.qa p (s.f PFX_RQ) 0x14, s.qa p (s.f PFX_RQ) 0x20, PFX_QQ.addr]]))

/-- Cause 24, PREFIX (R276, R289). -/
def Shadow.prefix_ (x : Shadow) : List Nat :=
  let s := x.st
  if ¬ s.part.isK then []
  else
    let svc := s.svcTiles
    let svcA := [SVC_TILES, SVC_TILES + 4]
    let sh := s.share (svc.headD 0)
    let en := (List.range 1024).filter (fun j => s.passEn j)
    (svc.filter (fun l => s.rn (0x2000010 + 0x20000 * s.physOf l) != 0)).map (fun l =>
      x.last ((0x2000010 + 0x20000 * s.physOf l) :: svcA)) ++
    (s.rings.filter (fun y => y.2.1.1 == 0 && s.inStaging y.2.1.2.1 y.2.1.2.2)).map (fun y => x.last (y.2.2 ++ svcA)) ++
    (if s.inStaging (s.f CACHE_BASE * 65536) (s.f CACHE_BLOCKS * 65536) then
      [x.last ([CACHE_BASE.addr, CACHE_BLOCKS.addr] ++ svcA)] else []) ++
    (svc.filter (fun l => s.share l == 0 || s.share l != sh)).map (fun l => x.last ((0x3401000 + 4 * l) :: svcA)) ++
    (en.filter (fun j => bitsOf (s.rn (passR j 0)) 26 2 == 3 || bitsOf (s.rn (passR j 0)) 24 2 == 3 || s.rowCap j == 0)).map
      (fun j => x.last [passR j 0, passR j 8]) ++
    (en.filter (fun j => decide (4095 < s.passM j) || decide (16 * 2 ^ 20 < s.passM j * s.passN j * 4))).map
      (fun j => x.last [passR j 0, passR j 8]) ++
    (en.filter (fun j => decide (svc.length < s.passG j))).map (fun j => x.last (passR j 0 :: svcA)) ++
    (en.zip (en.drop 1)).filterMap (fun y =>
      let a := s.rn (passR y.1 4)
      let b := s.rn (passR y.2 4)
      if b ≤ a ∨ b < a + s.passI y.1 then some (x.last [passR y.1 4, passR y.2 4, passR y.1 0, passR y.1 8]) else none) ++
    (en.filter (fun j => decide (s.r64 LEAP_PERIOD ≤ s.rn (passR j 4) + s.passL j))).map
      (fun j => x.last [passR j 4, passR j 0, passR j 8, LEAP_PERIOD, LEAP_PERIOD + 4]) ++
    en.flatMap (fun j => (s.passQueueBad j).map x.last)

/-- Cause 25, SPILL (R211). -/
def Shadow.spill (x : Shadow) : List Nat :=
  let s := x.st
  if ¬ s.part.isK then []
  else
    let out := fun (r : Nat × Nat × Nat) => decide ((if r.1 = 0 then 64 * tileBytes else stackBytes) < r.2.1 + r.2.2) ||
      decide (2 ≤ r.1)
    let offWindow := fun (p : Nat) (r : Nat × Nat × Nat) =>
      r.1 == 1 && s.level == 1 && s.use p == 1 && decide (s.peerExp p < 2 ^ 18) &&
        (let d := s.peerExp p % 16
         let lo := s.f (spillBase d) * 2 ^ 20
         !(decide (lo ≤ r.2.1) && decide (r.2.1 + r.2.2 ≤ lo + s.f (spillSize d) * 2 ^ 20)))
    (s.rings.filter (fun y => out y.2.1 || offWindow y.1 y.2.1)).map (fun y => x.last y.2.2) ++
    s.chans_.flatMap (fun p => ((List.range 64).filter (fun q => s.rxKind p q == 2 &&
      (!decide (s.fwdPort p q < 72) || s.txSrc (s.fwdPort p q) (s.fwdQueue p q) != 2))).map (fun q =>
        x.last [s.qa p q 4, s.qa (s.fwdPort p q) (s.fwdQueue p q) 0x14]))

/-! ### Cause 10 of the barrier entries (R156) -/

/-- EXPECT of an enabled barrier entry is in its range. -/
def expectOk (part : Part) (k n : Nat) : Bool :=
  decide (1 ≤ n) && decide (n ≤ if part.isK ∧ 16 ≤ k then 136 else part.numCores)

/-- Enabled entries that an image leaves with EXPECT outside its range. -/
def Shadow.expects (x : Shadow) : List Nat :=
  ((List.range 80).filter (fun k => x.st.bit (barEn k) && !expectOk x.st.part k (x.st.f (barExpect k)))).map
    (fun k => x.last [barCfg k])

/-! ### The verdict -/

/-- A refusal: cause, record and offset. -/
structure Refused where
  cause : Nat
  record : Nat
  ofs : Nat
  deriving DecidableEq, Repr

/-- No record is involved. -/
def noRecord : Nat := 0xFFFFFF

/-- The record that contains an offset. -/
def recAt (l : List ImgRec) (o : Nat) : Nat :=
  if o < 64 then noRecord else ((l.zipIdx.filter (fun r => decide (r.1.off ≤ o))).getLast?.map (·.2)).getD noRecord

/-- The least of a list. -/
def leastOf : List Nat → Option Nat
  | [] => none
  | a :: t => some (t.foldl min a)

/-- Causes 3 to 7: part, CRC and signature (R343, R344). -/
def State.checkHead (s : State) (plan : Bool) (bs : List Byte) : Option Refused :=
  let c := crcOfs bs
  let np := imgB bs 27
  let parts := (List.range np).map (fun i => imgH bs (28 + 2 * i))
  let at_ := fun (k o : Nat) => some ({ cause := k, record := noRecord, ofs := o } : Refused)
  let key := (bs.drop (c + 8)).take 97
  let hash := (List.range 12).flatMap (fun i => leBytes 4 (s.rn (0x600010 + 4 * i)))
  if ¬ plan ∧ imgH bs 24 ≠ partCode s.part then at_ 3 24
  else if plan ∧ (np < 1 ∨ 8 < np) then at_ 3 24
  else if plan ∧ ¬ parts.contains (partCode s.part) then at_ 3 28
  else if (crc32c (bs.take c)).toNat ≠ imgW bs c then at_ 4 c
  else if imgSigned bs ∧ (plan ∨ ¬ s.part.isK) then at_ 5 16
  else if ¬ imgSigned bs ∧ ¬ plan ∧ s.part.isK ∧ bitOf (s.rn 0x600004) 0 then at_ 5 16
  else if ¬ imgSigned bs then none
  else if imgW bs (c + 4) ≠ 1 ∨ imgB bs (c + 105) ≠ 0 ∨ imgH bs (c + 106) ≠ 0 then at_ 5 (c + 4)
  else if ¬ bitOf (s.rn 0x600004) 1 then at_ 6 0
  else if sha384 key ≠ hash then at_ 6 (c + 8)
  else if ecdsaOk key ((bs.drop (c + 108)).take 96) (bs.take (c + 4)) then none
  else at_ 7 (c + 108)

/-- Cause 8: the first record that breaks its type, by the first of its tests, or a wrong number of records. -/
def State.checkRecs (s : State) (plan : Bool) (bs : List Byte) : Option Refused :=
  let l := imgRecs bs
  match l.zipIdx.findSome? (fun r => (s.recFault plan r.1).map (fun o => (r.2, o))) with
  | some x => some { cause := 8, record := x.1, ofs := x.2 }
  | none => if l.length = imgRecords bs then none else some { cause := 8, record := noRecord, ofs := 12 }

/-- Causes 11 to 17, or 18 to 25, with the failures of each. -/
def Shadow.causes (x : Shadow) (plan : Bool) (bs : List Byte) : List (Nat × List Nat) :=
  if plan then
    [(13, x.wheelPlan), (18, x.class_ bs), (19, x.counter), (20, x.depth (imgRecs bs)), (21, x.leap), (22, x.tile),
      (23, x.share), (24, x.prefix_), (25, x.spill)]
  else
    [(11, x.identity), (12, x.ports), (13, x.wheelStruct), (14, x.buffer), (15, x.maps), (16, x.profile), (17, x.areas)]

/-- The check phase: the first failure, in ascending order of cause (R351). -/
def State.checkImage (s : State) (plan : Bool) (bs : List Byte) : Option Refused :=
  match s.hdrBad plan bs with
  | some o => some { cause := 2, record := noRecord, ofs := o }
  | none =>
    (s.checkHead plan bs).or ((s.checkRecs plan bs).or (
      let x := s.applied plan bs
      let first := fun (c : Nat) => x.bad.find? (fun b => b.1 == c)
      let range := (x.bad.filter (fun b => b.1 == 10)).map (·.2.2) ++ (if plan then x.expects else [])
      match first 9, leastOf range with
      | some b, _ => some { cause := 9, record := b.2.1, ofs := b.2.2 }
      | none, some o => some { cause := 10, record := recAt (imgRecs bs) o, ofs := o }
      | none, none =>
        (x.causes plan bs).findSome? (fun c =>
          (leastOf c.2).map (fun o => ({ cause := c.1, record := recAt (imgRecs bs) o, ofs := o } : Refused)))))

end Sys2Proof.Machine
end

