-- ==== Sys2Proof/Machine/Regions.lean ====
section
/-! DEFINITION. Clock regions (R296 to R306, R309, R403, R404): loop decisions, caps, the thermal trip, droop, pins and
the monitor inputs of a die. -/

namespace Sys2Proof.Machine

/-- VSET of a region for the frequency it runs at or rises to: regions 9 to 11 apply only the trim (R296). -/
def State.vloop (s : State) (r : Nat) : Nat := if r < 9 then s.vfor r (s.fTarget r) else s.vneed r (s.f (rgFreq r))

/-- The trim of a loop decision (R296), around the present or the awaited frequency. -/
def State.retrim (s : State) (r : Nat) (margin : Int) : State :=
  let t := s.trim r
  let t' := if margin < Config.marginLo then min (t + 5) 50 else if Config.marginHi < margin then max (t - 5) (-50) else t
  if t' = t then s
  else
    let s := s.setF (rgTrim r) (unsignedOf 8 t')
    (s.setVset r (s.vloop r)).settleRise r

/-- The frequency move of a loop decision (R296). -/
def State.freqMove (s : State) (r : Nat) (margin : Int) : State :=
  let f := s.f (rgFreq r)
  let fp := s.fperm r
  if fp < f then
    let s := (s.setRegion r { s.region r with rising := false }).setFreq r (f - 25)
    s.setVset r (s.vfor r (f - 25))
  else if f < fp ∧ Config.marginLo ≤ margin ∧ ¬ (s.region r).rising then
    let s := s.setVset r (s.vfor r (f + 25))
    (s.setRegion r { s.region r with rising := true }).settleRise r
  else s

/-- LOOP_DECISION (R296, Table REG-2) of a region with its replica margin. -/
def execLoopDecision (r : Nat) (err : Int) (s : State) : Out :=
  .next (s.onK (fun s =>
    if r < 9 then
      if s.unpinned r && !(s.r96 LAST_SWITCH == s.stamp && s.time ≥ 2 ^ 40) then
        (((s.noteRegion r).freqMove r err).retrim r err).markCaps r
      else s
    else if r < 12 then s.retrim r err
    else s))

/-- VOLTAGE_REACHED (R296). -/
def execVoltageReached (r : Nat) (s : State) : Out :=
  .next (s.onK (fun s => if r < 12 && (s.region r).volt.isSome then (s.voltReached r).markCaps r else s))

/-- FLOOR_HOLD of a region follows its two conditions (R299); no cap acts on a pinned region (R306). -/
def State.floorHold (s : State) (r : Nat) (hold : Bool) : State :=
  let x := s.region r
  let s := s.setB (rgFloorHold r) (x.floorT || x.floorP)
  if hold then (s.raise RGX_CAUSE 2).ev 0xB2 else s

/-- The thermal cap of a tile region moves (R297); at its lowest it holds an unpinned region at the floor (R299, R306). -/
def State.thermCap (s : State) (r : Nat) (t : Int) : State :=
  let x := s.region r
  let lim : Int := 16 * (s.f T_LIMIT : Int)
  if lim < t ∧ x.therm ≤ 1500 then
    let hold := s.unpinned r
    (s.setRegion r { x with floorT := hold }).floorHold r hold
  else
    let c := if lim < t then x.therm - 25 else if t < lim - 48 then min 2000 (x.therm + 25) else x.therm
    let s := (s.setRegion r { x with therm := c, floorT := false }).floorHold r false
    let s := if lim < t then (s.raise RGX_CAUSE 1).ev 0xB1 else s
    s.markCaps r

/-- MON_T of a region is about to change: the old value and the new one belong to the running step (TEMP_MAX of Table
FLT-14). -/
def State.noteTemp (s : State) (r : Nat) (t : Int) : State :=
  let t := max t (signed 16 (s.rn (monT r)))
  s.setRpt (fun x => { x with tempMax := some (max t (x.tempMax.getD t)) })

/-- THERMAL_CAP_UPDATE (R297, R299) with the hottest sensor of a region, 1/16 degree; after a trip no cap moves
(Table REG-2). -/
def execThermalCapUpdate (r : Nat) (t : Int) (s : State) : Out :=
  .next (s.onK (fun s =>
    if r < 12 then
      let s := (s.noteTemp r t).setF ⟨monT r, 0, 16⟩ (unsignedOf 16 t)
      if r < 9 ∧ ¬ s.bit TRIPPED then (s.noteRegion r).thermCap r t else s
    else s))

/-- The power cap moves (R298); at its lowest it holds the unpinned tile regions at the floor (R299, R306). -/
def State.powerCap (s : State) (pwr : Nat) : State :=
  let eff := if s.bit STRUCT_VALID then min (s.f PWR_LIMIT) (s.f (profPcap (s.f PROFILE))) else s.f PWR_LIMIT
  let cap := s.f CAP_MHZ
  let above := decide (10 * eff < pwr)
  let atFloor := above && decide (cap ≤ 1500)
  let s := if above then ((s.setF CAP_MHZ (max 1500 (cap - 25))).raise RGX_CAUSE 0).ev 0xB0
    else if 100 * pwr < 980 * eff then s.setF CAP_MHZ (min 2000 (cap + 25)) else s
  let s := s.each tileRegions (fun s r =>
    let s := s.setRegion r { s.region r with floorP := atFloor && s.unpinned r }
    (s.floorHold r false).markCaps r)
  if atFloor && tileRegions.any (fun r => s.unpinned r) then (s.raise RGX_CAUSE 2).ev 0xB2 else s

/-- POWER_CAP_UPDATE (R298, R299) with PWR_IN, 0.1 W units; after a trip the cap does not move (Table REG-2). -/
def execPowerCapUpdate (pwr : Nat) (s : State) : Out :=
  .next (s.onK (fun s =>
    let p := min pwr 0xFFFF
    let s := s.setF PWR_IN p
    let s : State := { s.setN PWR_PEAK (max p (s.rn PWR_PEAK)) with beat := { s.beat with peak := max p s.beat.peak } }
    if s.bit TRIPPED then s else (s.each tileRegions State.noteRegion).powerCap pwr))

/-- THERMAL_TRIP (R300) at the sensor of a physical tile. -/
def execThermalTrip (t : Nat) (s : State) : Out :=
  .next (s.onK (fun s =>
    if t < 72 then
      let s := (s.geckoHalt 2 true).dropCaps
      let s := s.each tileRegions (fun s r =>
        let s := s.dropMoves r
        let s := s.setRegion r { s.region r with pin := none, rising := false }
        let s := ((s.setB (rgPinned r) false).setB (bitF (rgPin r) 31) false).setFreq r 1500
        (s.setVset r (s.vneed r 1500)).markCaps r)
      (s.setB TRIPPED true).raise RGX_CAUSE 3
    else s))

/-- DROOP (R301): one period of a region is lengthened, by at most one extra period; how long the droop lasts is free. -/
def execDroop (r : Nat) (s : State) : Out :=
  .next (s.onK (fun s =>
    if r < 12 then
      let c := s.regClk r
      ((s.setRegClk r { c with debt := c.debt + (s.freeNat % 1000 + 1) }).took).addStretch r 1
    else s))

/-- RG_PIN of a region of a Krasesta takes a value (R305, R306, R312). -/
def State.pinSet (s : State) (r : Nat) (v : Word) : State :=
  let f := v.toNat % 2 ^ 16
  let mv := s.f ⟨rgPinv r, 0, 16⟩
  let on := bitOf v.toNat 31
  if s.bit TRIPPED ∧ r < 9 then s
  else if 9 ≤ r ∨ (on ∧ (f < 1000 ∨ 2000 < f ∨ f % 25 ≠ 0 ∨ (f < 1500 ∧ s.armed) ∨ mv < 600 ∨ 950 < mv)) then
    s.raise RGX_CAUSE 4
  else
    let was := s.bit (rgPinned r) || (s.region r).pin.isSome
    let s := s.setN (rgPin r) (b2n on * 2 ^ 31 + f)
    if on then
      let s := s.dropMoves r
      let s := s.setRegion r { s.region r with pin := some (f, mv), rising := false }
      (if s.f (rgVset r) < mv then s.setVset r mv else s.setFreq r f).markCaps r
    else if was then (s.unpin r).markCaps r
    else s

/-- A write of RG_PIN (R305, R306, R312). -/
def State.rgPinWrite (s : State) (r : Nat) (v : Word) : State := s.onK (fun s => if r < 12 then s.unlocked (fun s => s.pinSet r v) else s)

/-- RG_PIN_WRITE (R305, R306, R312). -/
def execRgPinWrite (r : Nat) (v : Word) (s : State) : Out := .next (s.rgPinWrite r v)

/-- PIN_DONE (R305). -/
def execPinDone (r : Nat) (s : State) : Out :=
  .next (s.onK (fun s =>
    if r < 9 then
      match (s.region r).pin with
      | none => s
      | some (f, mv) =>
        let s := (s.setFreq r f).setVset r mv
        let s := s.setRegion r { s.region r with pin := none, volt := none }
        ((s.setB (rgPinned r) true).markCaps r).raise RGX_CAUSE 5
    else s))

/-- The number that an 8-bit Gray code shows. -/
def grayDecode (g : Nat) : Nat :=
  let g := g % 256
  let g := g ^^^ (g / 16)
  let g := g ^^^ (g / 4)
  g ^^^ (g / 2)

/-- STRETCH_CNT_STEP (R403) of a die: the Gray-coded count of a region as sampled. -/
def execStretchCntStep (r : Nat) (cnt : Nat) (s : State) : Out :=
  .next (s.onDie (fun s => s.inMain (fun s =>
    if r < s.part.numRegions then
      let x := s.region r
      let c := grayDecode cnt
      (s.setRegion r { x with cntLast := c }).addStretch r ((c + 256 - x.cntLast) % 256)
    else s)))

/-- MON_TGL (R404) of a die: a new monitor set of a region. -/
def execMonTgl (r : Nat) (vf t : Word) (s : State) : Out :=
  .next (s.onDie (fun s => s.inMain (fun s =>
    if r < s.part.numRegions then
      ((s.noteTemp r (signed 16 t.toNat)).setR (monVf r) vf).setN (monT r) (t.toNat % 2 ^ 16)
    else s)))

end Sys2Proof.Machine
end

