-- ==== Sys2Proof/Machine/Resets.lean ====
section
/-! DEFINITION. Supplies and resets: sub-block resets (R336, R340), restart (R359), supply faults and power-up (R37,
R429), the block resets of a die (R409 to R412) and resets of the PCIe endpoint (R367). -/

namespace Sys2Proof.Machine

/-! ### Registers taking their Reset values -/

/-- An address range. -/
def inRange (lo hi a : Nat) : Bool := decide (lo ≤ a) && decide (a < hi)

/-- The RW registers whose Reset column names the structure image: CORE_MAP (Table FLT-14), TILE_MAP (Table TIL-11). -/
def imgMap (a : Nat) : Bool := inRange 0x1A1000 0x1A1400 a || inRange 0x2F00000 0x2F00100 a

/-- The fields of the structure image in a word: their Reset column is the image (Table SCP-6). -/
def keepImg (fds : List Fd) (old new : Nat) : Nat :=
  fds.foldl (fun m f => match f.acc with | .img .. => insBits m f.lo f.w (bitsOf old f.lo f.w) | _ => m) new

/-- The word of a register after a reset of its sub-block: the Reset column, which, while the structure image stands, it
sets where that column names it; RWS words are kept. -/
def State.resetWord (s : State) (img : Bool) (a : Nat) (v : Word) : Word :=
  match regRow s.part a with
  | none => regReset s.part a
  | some r =>
    if r.lock == .rws then v
    else if img && imgMap a then tget (regReset s.part) s.imgRegs a
    else if img then BitVec.ofNat 32 (keepImg r.fds v.toNat (regReset s.part a).toNat)
    else regReset s.part a

/-- The registers that a test names take their Reset values; latches and staged words go with them (R417, R419). -/
def State.resetRegs (s : State) (img : Bool) (g : Nat → Bool) : State :=
  let s' := { s with latch := s.latch.filter (fun x => !g x.1), staged := s.staged.filter (fun x => !g x.1) }
  ((s.regs ++ s.imgRegs).filter (fun x => g x.1)).foldl (fun t x => t.setR x.1 (s.resetWord img x.1 (s.r x.1))) s'

/-- Bulk transfers of some uses are abandoned: requests that wait go, and data of outstanding reads is discarded. -/
def State.bulkDrop (s : State) (g : BulkUse → Bool) : State :=
  { s with
    bulk := { rdWait := s.bulk.rdWait.filter (fun r => !g r.use), wrWait := s.bulk.wrWait.filter (fun r => !g r.use)
              rdOut := s.bulk.rdOut.map (fun x => if g x.2.use then (x.1, { x.2 with use := .dropped }) else x)
              wrOut := s.bulk.wrOut.map (fun x => if g x.2.use then (x.1, { x.2 with use := .dropped }) else x) } }

/-- A transfer of the queues or of spawn. -/
def BulkUse.ofQueue : BulkUse → Bool
  | .image _ => false
  | _ => true

/-- The PREFIX block is reset: its clutch table becomes FREE, and GEN of each used entry advances (R270, R359). -/
def State.pfxReset (s : State) : State :=
  let used := s.clUsed
  let gens := ((s.listed 0x3010000 0x3050000).filter (fun x => x.1 % 0x40 == 0)).map (fun x =>
    let i := (x.1 - 0x3010000) / 0x40
    (i, if used.contains i then s.f (clGen i) + 1 else s.f (clGen i)))
  let s := s.resetRegs true (inRange 0x3000000 0x3400000)
  s.each gens (fun s x => s.setF (clGen x.1) x.2) |> fun s => { s with pfx := {} }

/-- Leaps end with the LEAP block: a node still RUNNING, which is an armed root, stops, with the report of its step (R330).
Only a restart clears ORPHAN (Table LEP-9). -/
def State.leapReset (s : State) : State :=
  let l : Leap := { relay := s.leap.relay, planSinceStop := s.leap.planSinceStop }
  let orphan := s.bit ORPHAN
  let s := if s.nst == .running then s.stepReport false else s
  let s := { s.resetRegs true (inRange 0x120000 0x130000) with leap := l }.setB ORPHAN orphan
  if s.nst == .running then s.enter .stopped else s

/-- The regions as a reset that does not reach the integrator's stretch counters leaves them: the count last sampled of each
stands, so that the next sample adds what has come since (R403). -/
def State.stretchKept (s : State) : Tbl Region :=
  s.regions.foldl (fun t x => tset (fun _ => {}) t x.1 { cntLast := x.2.cntLast }) []

/-- The tile regions run at 1,500 MHz, unpinned (R294); a trip stands until the main supply returns (R300). -/
def State.regionReset (s : State) : State :=
  let trip := s.bit TRIPPED
  let s := { s.resetRegs true (fun a => inRange 0x130000 0x140000 a || inRange 0x3800000 0x4000000 a) with regions := s.stretchKept }
  s.setB TRIPPED (s.part.isK && trip)

/-- The runtime of a port after its reset: the wheel of the structure image. -/
def Port.cleared (x : Port) : Port := { wheel := x.wheel0, wheelUse := x.wheel0, wheel0 := x.wheel0 }

/-- A port is reset; its link drops (R336). -/
def State.portReset (s : State) (p : Nat) : State :=
  let b := s.pa p 0
  (s.resetRegs true (inRange b (b + 0x8000))).modPort p Port.cleared

/-- The fields of TIME_STATUS that the structure image and the clock root set at the root: ROOT (R94), BASK_ANY (R84) and
UTC_VALID (R107). -/
def State.rootTime (s : State) (root : Bool) : State :=
  if root then ((s.setB ROOT true).setB BASK_ANY (s.bit BASK)).setB UTC_VALID (s.bit HT_UTC_VALID) else s

/-- One sub-block of SUBRESET (Table FLT-11). TIME keeps hall time, which only the four causes of R71 move backward
(DEDUCED, log entry 120). -/
def State.subReset (s : State) (b : Nat) : State :=
  match b with
  | 0 =>
    let k := s.part.isK
    let root := s.isRoot
    let s := s.resetRegs true (fun a => inRange 0x110000 0x120000 a && (k || !inRange 0x118000 0x118500 a))
    let s := ({ s with servo := {} }).rootTime root
    s.each s.allPorts (fun s p => s.modPort p (fun x => { x with exch := {} }))
  | 1 => { s.resetRegs true (inRange s.tdcBase (s.tdcBase + 0x500)) with chans := [], edges := [] }
  | 2 => s.leapReset
  | 3 => s.regionReset
  | 4 => { s.resetRegs true (inRange 0x140000 0x160000) with cnt := {}, unit := none }
  | 5 => { s.resetRegs true (inRange 0x160000 0x170000) with bar := { dlSince := s.now }, unit := none }
  | 6 => if s.part.isK then s else s.portReset 0
  | 7 => ({ s.resetRegs true (inRange 0x190000 0x1A0000) with spawn := {} }.bulkDrop BulkUse.ofQueue)
  | 9 =>
    { s.resetRegs true (fun a => inRange 0x1C0000 0x1D0000 a || inRange 0x800000 0x900000 a) with
      perf := { s.perf with cnt := [], last := [], early := [] } }
  | 10 =>
    (s.resetRegs true (fun a => inRange 0x1A0000 0x1B0000 a && a != DET_STATUS && a != FENCE_INFO)).setRpt (fun _ => {})
  | _ => s

/-- One sub-block of SUBRESET_X (Table FLT-15). -/
def State.subResetX (s : State) (b : Nat) : State :=
  if b < 18 then
    let g := 0x1000000 + 0x40000 * b
    let s := s.resetRegs true (inRange g (g + 0x40000))
    s.each [4 * b, 4 * b + 1, 4 * b + 2, 4 * b + 3] (fun s p => s.modPort p Port.cleared)
  else if b = 18 then
    let s : State := { s.resetRegs true (inRange 0x2000000 0x2900000) with tiles := [] }
    (s.each (List.range 72) (fun s t => s.setTile t { s.tile t with cyc0 := s.regEdges (t / 8) })).markTiles
  else if b = 19 then s.pfxReset
  else if b = 20 then (s.resetRegs true (inRange 0x400000 0x500000)).rootTime s.isRoot
  else { s.resetRegs true (inRange 0x3400000 0x3460000) with stackHot := [], stackAt := s.regEdges 10 }

/-- The bits of a word below n that are set. -/
def bitList (n v : Nat) : List Nat := (List.range n).filter (fun i => bitOf v i)

/-- A sub-block reset that the node's leaps do not outlast: a gecko HALT comes first (R336). -/
def State.subHalt (s : State) (must : Bool) : State := if s.armed && must then s.geckoHalt 1 true else s

/-- A write of SUBRESET (R336). -/
def State.subresetWrite (s : State) (v : Word) : State :=
  let bs := bitList 11 v.toNat
  if bs.isEmpty then s
    else
      let s := s.subHalt (bs.any (fun b => b != 1 && b != 8 && b != 9))
      let s := (s.each bs (fun s b => s.subReset b)).log 12 v.toNat
      s.setN SUBRESET_BUSY (s.rn SUBRESET_BUSY ||| v.toNat % 2 ^ 11)

/-- SUBRESET (R336). -/
def execSubreset (v : Word) (s : State) : Out := .next (s.subresetWrite v)

/-- A write of SUBRESET_X (R340). -/
def State.subresetXWrite (s : State) (v : Word) : State :=
  let bs := bitList 22 v.toNat
  s.onK (fun s =>
    if bs.isEmpty then s
    else
      let s := s.subHalt true
      let s := (s.each bs (fun s b => s.subResetX b)).log 12 v.toNat
      s.setN SUBRESET_X_BUSY (s.rn SUBRESET_X_BUSY ||| v.toNat % 2 ^ 22))

/-- SUBRESET_X (R340). -/
def execSubresetX (v : Word) (s : State) : Out := .next (s.subresetXWrite v)

/-- SUBRESET_DONE (R336): the busy bit of SUBRESET, or from 32 on that of SUBRESET_X; the reset that a write of the register
began is complete when the register's last busy bit clears. -/
def execSubresetDone (b : Nat) (s : State) : Out :=
  let A := if b < 32 then SUBRESET_BUSY else SUBRESET_X_BUSY
  .next (if decide (b < 64) && s.bit (bitF A (b % 32)) then
    let s := s.setB (bitF A (b % 32)) false
    if s.rn A = 0 then s.raise GK_CAUSE 6 else s
  else s)

/-! ### Restart (R359) -/

/-- The records of efts that stand until their entry is next enabled: EFT_CLEAN, EFT_RUN, EFT_STATUS and EFT_LOG (R327). -/
def eftKept (a : Nat) : Bool :=
  inRange 0x700800 0x700A00 a || (inRange 0x700400 0x700480 a && [4, 8, 0x10].contains (a % 0x40))

/-- The registers that a restart keeps: the gecko island's, those of the PCIe endpoint, which no restart resets (R367),
the tuning of the oven, the status of the clock root, which `restart` sets, and the records of efts (DEDUCED, log entry
33). -/
def restartKeeps (a : Nat) : Bool :=
  inRange 0 0x102000 a || a == HST_STATUS || a == CLK_STATUS || a == OVEN_TUNE || a == HOLD_TUNE || a == SUBRESET_X_BUSY ||
    eftKept a

/-- What the main part loses in a restart, beside its registers. -/
def State.restartParts (s : State) : State :=
  { s with
    servo := {}, chans := [], edges := [], leap := { relay := s.leap.relay }, ports := [], regions := s.stretchKept, regClks := []
    stackHot := [], stackAt := 0, rxLock := s.rxLock.map (fun x => (x.1, s.beat.n))
    cnt := {}, bar := { dlSince := s.now }, unit := none, spawn := {}, tiles := [], pfx := {}, perf := {}, load := {}
    flt := { s.flt with rpt := {}, efts := [], logQ := [] }
    host := { s.host with held := [] }
    imgRegs := []
    clk := { s.clk with pstep := none, secArm := none, claimSel := 7, selReq := none, tunes := [], deadCand := [] }
    pulse := { gen := s.pulse.gen, ppsNext := s.pulse.gen / q16PerSec + 1 }
    outs :=
      { s.outs with
        fireStb := false, regionStb := false, regionProf := 0, loop := false, lpbk := false
        txHeld := !s.part.isK && s.bit (bitF 0x100008 2) } }

/-- The node returns to TADPOLE (R357 to R359); the efts of a tray end (R327). -/
def State.restart (s : State) : State :=
  let s := if s.part.isK then s.pfxReset else s
  let efts := eftEntries.filter (fun e => s.bit (eftEn e) && !s.bit (bitF (eftStatus e) 4))
  let gens := (s.listed 0x3010000 0x3050000)
  let trip := s.part.isK && s.bit TRIPPED
  let bask := s.bit BASK
  let pll := s.bit ROOTPLL_LOCK
  let s := s.resetRegs false (fun a => !restartKeeps a)
  let s := { s with regs := gens.foldl (fun t (x : Nat × Word) => tset (regReset s.part) t x.1 x.2) s.regs }
  let s := if s.part.isK then
      (((s.setB TRIPPED trip).setN CLK_STATUS 0x388).setB BASK bask).setB ROOTPLL_LOCK pll |>.markTiles
    else s
  let s := s.each efts (fun s e => s.eftLost e)
  let s := (((s.setB FENCED_SELF false).setB TAKEN false).bulkDrop (fun _ => true)).restartParts
  (s.raise CFG_CAUSE 3).enter .tadpole

/-! ### Supplies (R37, R429) -/

/-- A Krasesta as its gecko island powers up, with nothing kept (R37). -/
def State.poweredUp (s : State) : State :=
  { part := s.part, pending := s.pending, fresh := s.fresh, layout := s.layout, beat := s.beat
    power := { main := s.power.main, converters := s.power.main } }

/-- STANDBY_POWER_UP (R37). -/
def execStandbyPowerUp (s : State) : Out :=
  .next (s.onK (fun s => if s.power.standby then s else s.poweredUp))

/-- STANDBY_SUPPLY_FAULT (R429). -/
def execStandbySupplyFault (s : State) : Out :=
  .next (s.onK (fun s =>
    if s.power.standby then
      { s.poweredUp with power := { standby := false, main := s.power.main, heating := false, converters := false } }
    else s))

/-- The main part has lost its power (R429): its links are down, what it was doing is gone, and a root sends no HALT
(DESIGN CHOICE, log entry 149). Its registers do not answer until it starts afresh. -/
def State.mainLost (s : State) : State :=
  let s := s.each s.allPorts (fun s p => s.setF ⟨s.pa p 8, 0, 3⟩ 0)
  let s := (s.dropLaunch.setF PHASE 0).disarm
  let s := if s.nst == .running then s.enter .stopped else s
  { s with
    servo := {}, chans := [], edges := [], leap := { relay := s.leap.relay }, ports := [], regions := []
    cnt := {}, bar := {}, unit := none, spawn := {}, tiles := [], pfx := {}, perf := {}, load := {}, bulk := {}
    host := { s.host with held := [] } }

/-- MAIN_SUPPLY_FAULT (R429). -/
def execMainSupplyFault (s : State) : Out :=
  .next (s.onK (fun s =>
    if s.power.main then
      let s := { s with power := { s.power with main := false, mainFault := true, converters := false } }
      if s.power.standby then (s.geckoHalt 5 true).pulsesLow.mainLost else s
    else s))

/-- MAIN_SUPPLY_RETURN (R429): the main part starts afresh. -/
def execMainSupplyReturn (s : State) : Out :=
  .next (s.onK (fun s =>
    if s.power.main then s
    else
      let s := { s with power := { s.power with main := true, mainFault := false, converters := s.power.standby } }
      if s.power.standby then
        let s := (s.setB TRIPPED false).resetRegs false (fun a => inRange 0x10 0x100000 a || a == HST_STATUS || eftKept a)
        let s := { s with time := 0, bonded := [], stack := [], host := {} }
        (s.setB ROOTPLL_LOCK false).restart
      else s))

/-! ### Block resets of a die (R409 to R412) -/

/-- The four resets. -/
def allResets : List Nat := [0, 1, 2, 3]

/-- RESET_ASSERT (R410, R411): the first one resets the block, and its outputs go to 0. -/
def execResetAssert (r : Nat) (s : State) : Out :=
  .next (s.onDie (fun s =>
    if 4 ≤ r ∨ s.power.rstOn.contains r then s
    else
      let on := insNat r s.power.rstOn
      let s := if s.power.held then s
        else
          let s := { s.restart with bulk := {}, regions := [] }
          { s with outs := { s.outs with cmapSeq := 0, cmapPhys := 0, firePhase := 0, fireStep := 0 } }
      { s.setF (bitF 0x100008 1) 0 with power := { s.power with rstOn := on, held := true } }))

/-- RESET_RELEASE (R410): the last one releases the block. -/
def execResetRelease (r : Nat) (cycle : Nat) (s : State) : Out :=
  .next (s.onDie (fun s =>
    if !s.power.rstOn.contains r then s
    else
      let s := if s.power.rstRel.isEmpty && s.power.rstOn != allResets then s.hit (bitF 0x100008 3) else s
      let on := s.power.rstOn.filter (· != r)
      let rel := cycle :: s.power.rstRel
      if on.isEmpty then
        let s := if 16 < rel.foldl max 0 - rel.foldl min cycle then s.hit (bitF 0x100008 4) else s
        let s := { s with
          power := { s.power with rstOn := [], rstRel := [], held := false, released := true }
          rxLock := s.rxLock.map (fun (x : Nat × Nat) => (x.1, s.beat.n)) }
        (s.setB (bitF 0x100008 1) true)
      else { s with power := { s.power with rstOn := on, rstRel := rel } }))

/-- The registers of a die that its gecko part holds: the ID and GECKO blocks, LAST_COMMIT, DET_STATUS and FENCE_INFO. -/
def geckoHeld (a : Nat) : Bool :=
  inRange 0x100000 0x102000 a || a == LAST_COMMIT || a == LAST_COMMIT + 4 || a == DET_STATUS || a == FENCE_INFO

/-- AON_POR (R412): every gecko register, RWS fields included, at its Reset value. It is an entry into TADPOLE (R358); the
four resets, which it comes with, have reset the main part, or do now. -/
def execAonPor (s : State) : Out :=
  .next (s.onDie (fun s =>
    let up := s.bit (bitF 0x100008 1)
    let s := if s.power.held then s.raise CFG_CAUSE 3 else s.restart
    let s := { s with
      regs := s.regs.filter (fun x => !geckoHeld x.1), latch := s.latch.filter (fun x => !geckoHeld x.1)
      staged := s.staged.filter (fun x => !geckoHeld x.1), flt := { s.flt with cseq := 0, shadowAge := 0 }
      leap := { s.leap with relay := false }, outs := { s.outs with txHeld := false } }
    s.setB (bitF 0x100008 1) up))

/-! ### The PCIe endpoint (R367) -/

/-- PCIE_RESET (R367): the endpoint and HOSTIF are reset, and PCIE_RESET is set when the reset ends. A load in its
fetch phase loses its source. -/
def State.pcieReset (s : State) : State :=
  let s := s.resetRegs false (fun a => inRange 0x500000 0x600000 a || inRange 0x8000 0x10000 a)
  let s := { s with host := { bad := s.host.bad, sum := s.host.sum }, outs := { s.outs with msixPend := false } }
  s.raise HST_CAUSE 13

end Sys2Proof.Machine
end

