-- ==== Sys2Proof/Machine/Loader.lean ====
section
/-! DEFINITION. Loads (R348 to R355, R438): the commands of CFG_CTRL, the fetch, check and apply phases, the image
descriptors of a Krasesta (R375) and the bulk port's answers in a die (R401). -/

namespace Sys2Proof.Machine

/-! ### Ends of a load -/

/-- Record a refusal (R351). -/
def State.recordRefusal (s : State) (plan : Bool) (x : Refused) : State :=
  let s := s.setN CHECK_INFO (2 ^ 31 + b2n plan * 2 ^ 30 + x.cause % 64 * 2 ^ 24 + x.record % 2 ^ 24)
  (s.setN CHECK_OFS x.ofs).raise CFG_CAUSE 2

/-- A use of the bulk port for an image. -/
def BulkUse.ofImage : BulkUse → Bool
  | .image _ => true
  | _ => false

/-- No load is in progress; the end of an apply phase discards every word still staged (R419). -/
def State.loadEnd (s : State) : State :=
  let s := if s.f PHASE == 3 then { s with staged := [] } else s
  { ((s.setB LOAD_BUSY false).setF PHASE 0).bulkDrop BulkUse.ofImage with load := {} }

/-- End the load in progress with a refusal. In its fetch phase, the descriptor in progress completes with STATUS IO
(R375), which waits while Bus Master Enable is 0 (R379). -/
def State.loadRefuse (s : State) (x : Refused) : State :=
  let s := if s.part.isK && s.f PHASE == 1 then s.endImage else s
  (s.recordRefusal s.load.plan x).loadEnd

/-- A refusal with cause IO (R350). -/
def ioRefusal : Refused := { cause := 27, record := noRecord, ofs := 0 }

/-! ### Fetch -/

/-- Bytes that the fetch takes: the header, then LENGTH in all if the header keeps cause 2 (R438). -/
def State.loadNeed (s : State) : Nat :=
  let l := s.load
  if l.bytes.length < 64 then 64
  else if (s.hdrBad l.plan (l.bytes.take 64)).isSome then 64 else imgLength l.bytes

/-- IMG_ADDR of a die. -/
def State.imgAddr (s : State) : Nat := s.r64 IMG_ADDR

/-- A load begins: a die reads the header over the bulk port. -/
def State.loadStart (s : State) (plan : Bool) : State :=
  let s := { (s.setB LOAD_BUSY true).setF PHASE 1 with load := { plan := plan } }
  if s.part.isK then s.setN 0x600000 0 else s.bulkRead (fun o => .image o) s.imgAddr 64

/-- The LOAD bits of a write of CFG_CTRL (R348). -/
def State.loadCommand (s : State) (b : Nat) : State :=
  if b = 0 then s
  else
    let plan := b != 1
    let ok := !s.bit LOAD_BUSY && (if b = 1 then s.inTadpole else b == 2 && (s.nst == .chorus || s.nst == .stopped))
    if ok then s.loadStart plan else s.recordRefusal plan { cause := 1, record := noRecord, ofs := 0 }

/-- ABORT (R350). -/
def State.loadAbort (s : State) : State :=
  if s.bit LOAD_BUSY && s.f PHASE != 3 then s.loadRefuse ioRefusal else s

/-- A write of CFG_CTRL: RESTART stands alone (R359), ABORT acts first (R348). -/
def State.cfgCtrlWrite (s : State) (v : Nat) : State :=
  if bitOf v 3 then s.restart
  else
    let s := if bitOf v 2 then s.loadAbort else s
    s.loadCommand (v % 4)

/-- LOAD_STRUCT (R348). -/
def execLoadStruct (v : Word) (s : State) : Out := .next (s.inMain (fun s => s.cfgCtrlWrite (forceBits v 1)))

/-- LOAD_PLAN (R348). -/
def execLoadPlan (v : Word) (s : State) : Out := .next (s.inMain (fun s => s.cfgCtrlWrite (forceBits v 2)))

/-- ABORT (R350). -/
def execLoadAbort (v : Word) (s : State) : Out := .next (s.inMain (fun s => s.cfgCtrlWrite (forceBits v 4)))

/-- RESTART (R359). -/
def execRestart (v : Word) (s : State) : Out := .next (s.inMain (fun s => s.cfgCtrlWrite (forceBits v 8)))

/-- The fetch of a Krasesta still takes bytes. -/
def State.fetching (s : State) : Bool := s.f PHASE == 1 && decide (s.load.bytes.length < s.loadNeed)

/-- Bytes of an image arrive at a Krasesta: those the image needs are taken, and counted in IMG_BYTES; answers how many
(R375, R438). -/
def State.takeBytes (s : State) (bs : List Byte) : State × Nat :=
  let old := s.load.bytes
  let hdr := old ++ bs.take (64 - old.length)
  let s' := { s with load := { s.load with bytes := hdr } }
  let all := hdr ++ (bs.drop (64 - old.length)).take (s'.loadNeed - hdr.length)
  let n := all.length - old.length
  ({ s with load := { s.load with bytes := all } }.addN 0x600000 n, n)

/-- IMAGE_DESCRIPTOR (R375): the buffer of a TX0 descriptor. Data that ends early stands for a read error. A buffer whose
header ends the fetch by R438 before its bytes are taken completes with STATUS IO; one of 0 bytes with STATUS RANGE
(Table HST-3). -/
def execImageDescriptor (desc data : List Byte) (s : State) : Out :=
  .next (s.onK (fun s =>
    if s.fetching then
      match s.takeDesc 0 desc with
      | none => s
      | some d =>
        let n := descLen d
        if n = 0 then s.complete 0 d 0 2 (d.getD 4 0) []
        else if data.length < n then (s.setHeld 0 (some d)).loadRefuse ioRefusal
        else
          let r := s.takeBytes (data.take n)
          let bad := (r.1.hdrBad r.1.load.plan (r.1.load.bytes.take 64)).isSome && decide (64 ≤ r.1.load.bytes.length)
          r.1.complete 0 d r.2 (if bad && decide (r.2 < n) then 1 else 0) (d.getD 4 0) []
    else s))

/-- The fetch of a load has taken all that it takes. -/
def State.fetchedAll (s : State) : Bool :=
  s.f PHASE == 1 && decide (s.loadNeed ≤ (if s.part.isK then s.load.bytes.length else s.load.got))

/-- LOAD_FETCH_DONE (R438): FORMAT, or on to the check phase; a Krasesta stages a plan image in its stacks. -/
def execLoadFetchDone (s : State) : Out :=
  .next (if s.fetchedAll then
    match s.hdrBad s.load.plan (s.load.bytes.take 64) with
    | some o => s.loadRefuse { cause := 2, record := noRecord, ofs := o }
    | none =>
      let s := if s.part.isK && s.load.plan then s.writeSpace 1 s.stageBase s.load.bytes else s
      s.setF PHASE 2
  else s)

/-! ### Check and apply -/

/-- The image that is checked and applied: the staged copy of a plan image in a Krasesta. -/
def State.image (s : State) : List Byte :=
  if s.part.isK && s.load.plan then s.readSpace 1 s.stageBase s.load.bytes.length else s.load.bytes

/-- An error lies in the staged copy of a Krasesta (R350): in the staging area of its stacks, or, found or not as is left
open, in the buffer of region 11. -/
def State.stageBad (s : State) : Bool :=
  s.part.isK && (if s.load.plan then s.host.bad.any (fun x => inRange s.stageBase (s.stageBase + s.load.bytes.length) x.1)
    else Config.bufferBad s.beat.n)

/-- LOAD_CHECK_DONE (R351): the verdict; a die then begins its second reading (R349). -/
def execLoadCheckDone (s : State) : Out :=
  .next (if s.f PHASE = 2 then
    if s.stageBad then s.loadRefuse ioRefusal
    else match s.checkImage s.load.plan s.image with
      | some x => s.loadRefuse x
      | none =>
        let s := s.setF PHASE 3
        if s.part.isK then s
        else
          { s with load := { s.load with got := 0, again := [] } }.bulkRead (fun o => .image o) s.imgAddr
            (imgLength s.load.bytes)
  else s)

/-- The image is in force: its trailer and IMAGE_ID are shown, and CHECK_INFO.VALID clears (Table IMG-11). -/
def State.loadDone (s : State) (crcA : Nat) (bit : Nat) (bs : List Byte) : State :=
  let s := ((s.setN crcA (imgW bs (crcOfs bs))).setN (crcA + 4) (imgId bs)).setB (bitF CHECK_INFO 31) false
  (s.raise CFG_CAUSE bit).loadEnd

/-- REF_CFG.EN of a candidate resets to 1 where the candidate is permitted (Table CLK-13), unless the image has written
the register. -/
def State.refEnable (s : State) (ofs : List (Nat × Nat)) : State :=
  if s.part.isK then
    s.each ([0, 1, 2, 3, 4].filter (fun c => s.permitted c && !ofs.any (fun x => x.1 == refCfg c)))
      (fun s c => s.setB (refEn c) true)
  else s

/-- RG_PIN and RG_PINV of a structure image act as their writes do (R305, R306, R312). -/
def State.loadPins (s : State) (ofs : List (Nat × Nat)) : State :=
  let took := fun (a : Nat) => ofs.any (fun x => x.1 == a)
  if s.part.isK then
    s.each (List.range 12) (fun s r =>
      let s := if 9 ≤ r ∧ took (rgPinv r) then (s.resetR (rgPinv r)).raise RGX_CAUSE 4 else s
      if took (rgPin r) then (s.resetR (rgPin r)).pinSet r (s.r (rgPin r)) else s)
  else s

/-- The apply phase of a structure image (R353, R294). -/
def State.applyStruct (s : State) (bs : List Byte) : State :=
  let x := s.applied false bs
  let s := x.st
  let s := s.each s.allPorts (fun s p => s.modPort p (fun x => { x with wheel0 := x.wheel }))
  let s := (s.loadPins x.ofs).switchProfile 0
  let s := { s with outs := { s.outs with regionStb := false } }
  let s := ((s.setB STRUCT_VALID true).refEnable x.ofs).loadDone STRUCT_CRC 0 bs
  let s := { s with imgRegs := s.regs.filter (fun x => imgMap x.1) }.rootTime (s.level == 3 && !s.isTwin)
  let s := if s.bit UTC_CLAIM then (s.setB UTC_CLAIM false).utcClaim else s
  let s := if s.part.isK then s.markTiles else s.stepCmap
  (s.enter .armed).advance

/-- The manifest of a spawn (R215). -/
def State.manifest (s : State) : List Nat := (List.range 7).map (fun i => s.rn (0x190010 + 4 * i))

/-- An armed spawn goes on only with the manifest it had before the apply phase (R215). -/
def State.keepSpawn (s : State) (old : List Nat) : State :=
  if s.bit S_ARMED && s.manifest != old then s.spawnDisarm else s

/-- PASS_LAT of every pass (R288). -/
def State.setPassLat (s : State) : State :=
  s.each (List.range 1024) (fun s j => s.setN (passR j 0xC) (if s.passEn j then s.passL j else 0))

/-- The clutch table at a plan load (R273). -/
def State.clPlan (s : State) : State :=
  let s := s.each (s.clUsed.filter (fun i => s.f (clSt i) == 2)) (fun s i => s.setR64 (clSealStep i) (2 ^ 64 - 1))
  s.clEvictAll

/-- The apply phase of a plan image (R354, R215, R273). -/
def State.applyPlan (s : State) (bs : List Byte) : State :=
  let old := s.manifest
  let s := ((s.setB PLAN_VALID false).applied true bs).st
  let s := s.setB COMPLETE false
  let s := s.keepSpawn old
  let s := if s.part.isK then s.clPlan.setPassLat else s
  let s := { s with leap := { s.leap with planSinceStop := true } }
  let s := s.notePosts
  ((s.setB PLAN_VALID true).setB PLAN_EDITED false).loadDone PLAN_CRC 1 bs

/-- The plan is cleared to its Reset values (R350), and with a manifest that changes a spawn is disarmed (R215). -/
def State.clearPlan (s : State) : State :=
  let old := s.manifest
  ((s.setB PLAN_VALID false).loadReset true).keepSpawn old

/-- LOAD_APPLY_DONE (R349, R353, R354). -/
def execLoadApplyDone (s : State) : Out :=
  .next (if s.f PHASE = 3 ∧ (s.part.isK ∨ imgLength s.load.bytes ≤ s.load.got) then
    let bs := if s.part.isK then s.image else s.load.again
    let c := crcOfs s.load.bytes
    if s.stageBad then (if s.load.plan then s.clearPlan else s).loadRefuse ioRefusal
    else if ¬ s.part.isK ∧ crc32c (bs.take c) ≠ crc32c (s.load.bytes.take c) then
      s.loadRefuse { cause := 26, record := noRecord, ofs := 0 }
    else if s.load.plan then s.applyPlan bs else s.applyStruct bs
  else s)

/-- PCIE_RESET (R367). -/
def execPcieReset (s : State) : Out :=
  .next (s.onK (fun s =>
    let s := if s.f PHASE = 1 then (s.recordRefusal s.load.plan ioRefusal).loadEnd else s
    s.pcieReset))

/-! ### Answers at the bulk port of a die (R401) -/

/-- Bytes put into a buffer at an offset. -/
def placeAt (old : List Byte) (o : Nat) (bs : List Byte) : List Byte :=
  let old := old ++ List.replicate (o - old.length) 0
  old.take o ++ bs ++ old.drop (o + bs.length)

/-- Bytes of an image from an offset; the header's end asks for the rest (R438). -/
def State.imageData (s : State) (o : Nat) (bs : List Byte) : State :=
  let l := s.load
  if s.f PHASE = 1 then
    let first := l.got == 0
    let s := { s with load := { l with bytes := placeAt l.bytes o bs, got := l.got + bs.length } }
    if first && decide (64 < s.loadNeed) then s.bulkRead (fun k => .image (64 + k)) (s.imgAddr + 64) (s.loadNeed - 64) else s
  else { s with load := { l with again := placeAt l.again o bs, got := l.got + bs.length } }

/-- A read completes with its bytes, or with a bulk error. -/
def State.bulkServe (s : State) (use : BulkUse) (bs : List Byte) (err : Bool) : State :=
  match use with
  | .image o => if err then s.loadRefuse ioRefusal else s.imageData o bs
  | .txRing q i => s.ringRead 0 q i (if err then none else some bs)
  | .rxRing q sq => s.ringWritten q sq err
  | .eggRead e o =>
    if err then s.spawnFail
    else if s.spawn.srcEgg = some e then
      { s with spawn := { s.spawn with src := tsetMany (fun _ => none) s.spawn.src o (bs.map some) } }
    else s
  | .eggWrite => if err then s.spawnFail else s
  | .dropped => s

/-- BULK_READ_DATA (R399, R401): the beats of a TAG return in address order; the last one completes the read. A beat with
an error ends it at its last beat. -/
def execBulkReadData (tag : Nat) (data : List Byte) (err : Bool) (s : State) : Out :=
  .next (s.onDie (fun s =>
    if s.power.held then s
    else match s.bulk.rdOut.find? (fun x => x.1 == tag) with
    | none => s
    | some (_, r) =>
      let beat := (data ++ List.replicate 128 0).take 128
      let out := s.bulk.rdOut.filter (fun x => x.1 != tag)
      let all := r.data ++ beat
      if err then
        let use := if r.beats ≤ all.length / 128 then none else some ({ r with use := .dropped, data := all } : BulkReq)
        let l := match use with | none => out | some q => out ++ [(tag, q)]
        ({ s with bulk := { s.bulk with rdOut := l } }.bulkServe r.use [] true).bulkPump
      else if all.length / 128 < r.beats then
        { s with bulk := { s.bulk with rdOut := out ++ [(tag, { r with data := all })] } }
      else
        (({ s with bulk := { s.bulk with rdOut := out } }).bulkServe r.use ((all.drop (r.addr % 128)).take r.len) false).bulkPump))

/-- BULK_WRITE_RESPONSE (R401). -/
def execBulkWriteResponse (tag : Nat) (err : Bool) (s : State) : Out :=
  .next (s.onDie (fun s =>
    if s.power.held then s
    else match s.bulk.wrOut.find? (fun x => x.1 == tag) with
    | none => s
    | some (_, r) =>
      (({ s with bulk := { s.bulk with wrOut := s.bulk.wrOut.filter (fun x => x.1 != tag) } }).bulkServe r.use [] err).bulkPump))

end Sys2Proof.Machine
end

