-- ==== Sys2Proof/Machine/RegRead.lean ====
section
/-! DEFINITION. Reading registers: the value that a register shows (Table SCP-6, and the field maps of the registers
that hardware drives), the latches of wide registers (R95, R417, R418), and the RC register PWR_PEAK (R12). -/

namespace Sys2Proof.Machine

/-- The gecko part serves the address (R333, R405, R423, Table MAP-1): it answers whatever the state of the rest. -/
def geckoServed (part : Part) (a : Nat) : Bool :=
  inRange 0x100000 0x102000 a || inRange 0x1A0000 0x1B0000 a ||
    (part.isK && (inRange 0 0x10 a || inRange 0x700000 0x700400 a))

/-- An access to an address reaches its register: the main part of a die is not held in reset (R406), the main supply of
a Krasesta is up (R429). -/
def State.served (s : State) (a : Nat) : Bool := (geckoServed s.part a && s.geckoOn) || s.mainOn

/-- The port whose block contains an address (R200, R225). -/
def State.blockPort (s : State) (a : Nat) : Option Nat :=
  s.allPorts.find? (fun p => inRange (s.pa p 0) (s.pa p 0x8000) a)

/-- Port blocks that the mode leaves unused read 0 and ignore writes (R200). -/
def State.absentPort (s : State) (a : Nat) : Bool :=
  match s.blockPort a with
  | some p => s.part.isK && !s.portExists p
  | none => false

/-- What a core's watch slot holds: a watch or a barrier wait (R141, R161). The counter and target that Table CNT-14 shows
are 0 for a barrier wait (DESIGN CHOICE, log entry 134). -/
def State.watchOf (s : State) (c sl : Nat) : Option Watch :=
  s.cnt.watches.find? (fun w => w.core == c && w.slot == sl)

/-- WATCH_STATE of an active watch (Table CNT-14). -/
def Watch.word (w : Watch) : Nat :=
  2 ^ 31 + b2n w.deadline.isSome * 2 ^ 30 + w.cc % 256 * 2 ^ 22 + w.ck % 64 * 2 ^ 16 + w.tag % 2 ^ 16

/-- CNT_STATUS (Table CNT-11). -/
def State.cntStatus (s : State) : Nat :=
  let sat := (s.listed 0x140000 0x150000).any (fun p => (p.1 % 0x100 == 0xC0 || p.1 % 0x100 == 0xC4) && p.2 != 0)
  let br := (s.listed 0x150060 0x150080).any (fun p => p.2 != 0)
  b2n br * 8 + b2n s.forcedAny * 4 + b2n sat * 2 + b2n s.cnt.dirty

/-- GK_STATE (Table FLT-11). -/
def State.gkState (s : State) : Nat :=
  let kept := s.rn 0x101000 / 2 ^ 8 * 2 ^ 8
  kept + b2n (s.bit ORPHAN) * 2 ^ 7 + b2n (s.bit HALTED) * 2 ^ 6 + b2n s.armed * 2 ^ 5 +
    b2n (s.part.isK && s.bit BASK) * 2 ^ 4 + s.nst.code

/-- A WHEEL register: four entries; 0 until a structure image sets it (17_address_map.md). -/
def State.wheelWord (s : State) (p k : Nat) : Nat :=
  if s.bit STRUCT_VALID then leNat (tgetMany wheelDefault (s.port p).wheel (4 * k) 4) else 0

/-- What a register of the counter unit shows that the unit's runtime holds. -/
def State.viewCnt (s : State) (a : Nat) : Option Nat :=
  if a = 0x150004 then some s.cntStatus
  else if a = 0x150010 then some (min s.cnt.hwm 0xFFFF * 2 ^ 16 + s.cnt.hold.length % 2 ^ 16)
  else if inRange 0x150100 0x150500 a then
    let c := (a - 0x150100) / 4
    some (mapBits (fun sl => (s.watchOf c sl).isSome) 0 8)
  else if inRange 0x152000 0x156000 a then
    let o := a - 0x152000
    match s.watchOf (o / 0x40) (o % 0x40 / 8) with
    | some w => some (if o % 8 = 0 then w.word else w.target)
    | none => some 0
  else none

/-- What a register of PERF or PERFX shows: PERF_CNT and PERF_LAST. -/
def State.viewPerf (s : State) (a : Nat) : Option Nat :=
  match s.perfAll.find? (fun y => inRange (perfSelA y.1 y.2) (perfSelA y.1 y.2 + 0x20) a) with
  | none => none
  | some y =>
    let o := a - perfSelA y.1 y.2
    let cnt := tget (fun _ => 0) s.perf.cnt (perfKey y.1 y.2)
    let last := tget (fun _ => 0) s.perf.last (perfKey y.1 y.2)
    if o = 4 then some (cnt % 2 ^ 32) else if o = 8 then some (cnt / 2 ^ 32)
    else if o = 0xC then some (last % 2 ^ 32) else if o = 0x10 then some (last / 2 ^ 32) else none

/-- REF_STATUS (Table CLK-10). -/
def State.refStatus (s : State) : Nat := insBits (s.rn REF_STATUS) 0 8 (mapBits s.presentNow 0 8)

/-- LANE_STATUS of a Krasesta's lane: the margin of a locked lane is measured (Table LNK-17). -/
def State.laneWord (s : State) (a : Nat) : Nat :=
  let l := (a - 0x1000000) / 0x40000 * 8 + (a - 0x1000000) % 0x40000 / 4 % 8
  insBits (s.rn a) 0 8 (if bitOf (s.rn a) 31 then (Config.laneMargin l s.beat.n).toNat else 0)

/-- TILE_CYCLE of a tile: the tile clock edges since it last restarted (R229). -/
def State.tileCycle (s : State) (t : Nat) : Nat := (s.regEdges (t / 8) - (s.tile t).cyc0) % 2 ^ 32

/-- The interface of a stack is calibrated and the stack serves requests: some time after the main domain starts
(Table TIL-13), or they are reset (R340), told by the generator of the stack controllers, 1,000 MHz (DESIGN CHOICE, log entry 80). -/
def State.stackUp (s : State) (st : Nat) : Bool := decide (s.stackAt + Config.stackCal st < s.regEdges 10)

/-- STACK_STATUS and STACK_TEMP (Table TIL-13); the temperature of a stack is free. -/
def State.stackWord (s : State) (st ofs : Nat) : Nat :=
  if ofs = 0 then 4 * b2n (tget (fun _ => none) s.stackHot st).isSome + 3 * b2n (s.stackUp st)
  else if s.stackUp st then unsignedOf 16 (Config.stackTemp st s.beat.n) else 0

/-- The registers that follow other state; none for a register that `regs` holds whole. -/
def State.live (s : State) (a : Nat) : Option Nat :=
  if inRange TIME_NOW (TIME_NOW + 12) a then some (bitsOf s.stamp (8 * (a - TIME_NOW)) 32)
  else if a = 0x101000 then some s.gkState
  else if a = 0x101004 then some (insBits (s.rn a) 8 1 (b2n s.irq))
  else if a = 0x10102C then some (s.flt.shadowAge / 10 % 2 ^ 32)
  else if a = 0x102000 then some s.intSummary
  else if a = LEAP_STATUS then
    some (insBits (s.rn a) 4 1 (b2n (s.isRoot && s.armed && s.commitHeld s.decisionStep)))
  else if a = SPAWN_STATUS then some (insBits (s.rn a) 2 1 (b2n s.heldAll))
  else if a = CFG_STATUS then some (insBits (s.rn a) 0 4 s.nst.code)
  else if inRange 0x150000 0x160000 a then s.viewCnt a
  else if inRange 0x1C0000 0x1D0000 a || inRange 0x800000 0x900000 a then s.viewPerf a
  else if s.part.isK && a = 0x9000 then some (b2n s.outs.msixPend)
  else if s.part.isK && a = 0x200048 then some (unsignedOf 16 s.clk.oven)
  else if s.part.isK && a = REF_STATUS then some s.refStatus
  else if s.part.isK && inRange 0x2000000 0x2900000 a && a % 0x20000 == 0x18 then
    some (s.tileCycle ((a - 0x2000000) / 0x20000))
  else if s.part.isK && inRange 0x3400000 0x3460000 a && (a % 0x10000 == 0 || a % 0x10000 == 0x20) then
    some (s.stackWord ((a - 0x3400000) / 0x10000) (a % 0x10000))
  else if s.part.isK && inRange 0x1000000 0x1480000 a && inRange 0x100 0x120 (a % 0x40000) then some (s.laneWord a)
  else if s.part.isK && inRange PULSE_ERR (PULSE_ERR + 8) a then
    some (bitsOf (unsignedOf 48 s.pulseErr) (8 * (a - PULSE_ERR)) 32)
  else if s.part.isK && inRange 0x10A000 0x10A00C a then
    some (mapBits (fun p => decide (p < 72) && s.linkSum p) (8 * (a - 0x10A000)) 32)
  else if s.part.isK && inRange 0x10A010 0x10A01C a then
    some (mapBits (fun t => decide (t < 72) && s.tileSum t) (8 * (a - 0x10A010)) 32)
  else if s.part.isK && a = 0x10A020 then some (mapBits (fun t => s.stackSum t) 0 6)
  else if s.part.isK && a = 0x3401200 then
    some ((List.range 66).foldl (fun n r => n + s.rn (0x3401000 + 4 * r) % 2 ^ 11) 0 % 2 ^ 11)
  else
    match s.allPorts.find? (fun p => s.pa p 8 == a) with
    | some p => some (insBits (s.rn a) 11 1 (b2n (s.reduced p)))
    | none => none

/-- The value that a register shows: 0 where no register lies (R420), and WO fields as 0 (Table SCP-6). -/
def State.shows (s : State) (a : Nat) : Word :=
  match s.wheelPlace a with
  | some (p, k) => BitVec.ofNat 32 (s.wheelWord p k)
  | none =>
    if (regRow s.part a).isNone || s.absentPort a then 0
    else BitVec.ofNat 32 ((s.live a).getD (s.rn a))

/-- The words of the wide register whose lowest word lies at an address; none elsewhere. -/
def State.wideWords (s : State) (a : Nat) : List Nat :=
  match regRow s.part a with
  | some r => if r.wi = 0 ∧ 1 < r.wn then (List.range r.wn).map (fun i => a + 4 * i) else []
  | none => []

/-- The latch of a wide register before its first capture: the Reset value (R417). -/
def State.latched (s : State) (a : Nat) : Word := tget (regReset s.part) s.latch a

/-- The value that a read answers: the upper words of a wide register as last latched (R417), and 0 from a part that
cannot be reached (R406). -/
def State.readReg (s : State) (a : Nat) : Word :=
  if ¬ s.served a then 0
  else match regRow s.part a with
    | some r =>
      if r.wi = 0 then (if 1 < r.wn then s.before.shows a else s.shows a)
      else if s.absentPort a then 0 else s.latched a
    | none => s.shows a

/-- REG_ERR with which the register port of a block answers an access: a misaligned one, one that finds no part to serve it,
and FORCE_DATA while the main part is away (R406). -/
def State.regErr (s : State) (a : Nat) (wr : Bool) : Bool :=
  a % 4 != 0 || !s.served a || (wr && a == 0x10101C && !s.mainOn)

/-- The end of an access at the register port of a block: REG_ACK rises with REG_RDATA and REG_ERR (R405). It falls with
REG_REQ in the next cycle. -/
def State.regDone (s : State) (d : Word) (err : Bool) : State :=
  { s with outs := { s.outs with regAck := true, regData := if err then 0 else d, regErr := err } }

/-- The data of a read goes out: at the register port of a block, or in the completion of a BAR0 read. -/
def State.answer (s : State) (d : Word) (err : Bool) : State :=
  if s.part.isK then { s with outs := { s.outs with regData := d } } else s.regDone d err

/-- CMAP_SEQ, a Gray-coded count (R398). -/
def State.cmapGray (s : State) : Nat := s.outs.cmapSeq ^^^ s.outs.cmapSeq / 2

/-- The levels of MOD_TX_DISABLE and VCC_MOD (R435). -/
def State.modTxDisable (s : State) : Bool := s.bit MOD_TX_OFF || !s.power.main
def State.vccMod (s : State) : Bool := s.power.main

/-- The capture of a wide register (R417): its words from before what hardware updates in the same cycle. -/
def State.capture (s : State) (ws : List Nat) : State :=
  { s with latch := ws.foldl (fun t b => tset (regReset s.part) t b (s.before.shows b)) s.latch }

/-- A read of PWR_PEAK (R12, R13): the value from before this cycle's updates goes out, and the register starts anew with
them. -/
def State.peakRead (s : State) : State :=
  let old := s.before.r PWR_PEAK
  let s := { s with outs := { s.outs with peak := old.toNat, regData := old } }
  ((s.setN PWR_PEAK 0).settle PWR_PEAK).setN PWR_PEAK s.beat.peak

/-- WIDE_REGISTER_LOW_READ (R417): a read of the lowest word of a wide register captures the register; any other read answers
by itself (R405, R406, R368). -/
def execWideRegisterLowRead (a : Nat) (s : State) : Out :=
  .next (if s.part.isK && a == PWR_PEAK && s.served a then s.peakRead
    else
      let d := s.readReg a
      let t := if s.served a && !s.absentPort a then s.capture (s.wideWords a) else s
      t.answer d (s.regErr a false))

/-- PWR_PEAK_READ (R12, R13). -/
def execPwrPeakRead (s : State) : Out := .next (s.onK (fun s => if s.served PWR_PEAK then s.peakRead else s))

end Sys2Proof.Machine
end

