-- ==== Sys2Proof/Machine/RegWrite.lean ====
section
/-! DEFINITION. Writes from the register port or BAR0 (Table SCP-6, R12, R130, R224, R340, R345, R348, R355, R419,
R420): the access types, the locks, the staging of wide registers, and the registers whose write is a command. -/

namespace Sys2Proof.Machine

/-! ### Access types -/

/-- A field after a write of a word from the register port (Table SCP-6, R345): outside its stated range it stays; a bit
that hardware has set in the same cycle is not cleared (R13). -/
def Fd.put (fd : Fd) (hard old v : Nat) : Nat :=
  let x := bitsOf v fd.lo fd.w
  match fd.acc with
  | .rw mn mx => if mn ≤ x ∧ x ≤ mx then insBits old fd.lo fd.w x else old
  | .rwi _ _ => insBits old fd.lo fd.w x
  | .rwS lim => if (signed fd.w x).natAbs ≤ lim then insBits old fd.lo fd.w x else old
  | .w1c =>
    let x := x - (x &&& bitsOf hard fd.lo fd.w)
    insBits old fd.lo fd.w (bitsOf old fd.lo fd.w - (bitsOf old fd.lo fd.w &&& x))
  | .ro | .roS _ | .roR _ _ | .img _ _ | .wo | .rc => old

/-- A register after a write of a word from the register port. -/
def putFields (fds : List Fd) (hard old v : Nat) : Nat := fds.foldl (fun w fd => fd.put hard w v) old

/-- Write one word of a register by its access types. -/
def State.putWord (s : State) (a v : Nat) : State :=
  match regRow s.part a with
  | some r => (s.setN a (putFields r.fds (s.hardBits a) (s.rn a) v)).settle a
  | none => s

/-- A field that a port write may change. -/
def Acc.writes : Acc → Bool
  | .rw .. | .rwi .. | .rwS _ | .w1c => true
  | _ => false

/-! ### Registers whose write is a command -/

/-- The port whose LINK_CTRL lies at an address. -/
def State.linkCtrlAt (s : State) (a : Nat) : Option Nat := s.allPorts.find? (fun p => s.pa p 4 == a)

/-- An index of an array of n registers with a stride. -/
def arrIdx (base n stride a : Nat) : Option Nat :=
  if base ≤ a ∧ (a - base) % stride = 0 ∧ (a - base) / stride < n then some ((a - base) / stride) else none

/-- The registers of an array whose write is a command of its own. -/
def State.arrayWrite (s : State) (a : Nat) (v : Word) : Option State :=
  let k := s.part.isK
  match arrIdx (s.ch 0 4) s.numCh 0x100 a with
  | some c => some (s.unlocked (fun s => s.chCtrlWrite c v.toNat))
  | none =>
    match s.linkCtrlAt a with
    | some p => some (if s.portExists p then s.linkCtrlWrite p v.toNat else s)
    | none =>
      match arrIdx 0x1A1000 256 4 a with
      | some l => some (s.coreMapWrite l v)
      | none =>
        if (s.perfSelAt a).isSome then some (s.unlocked (fun s => s.perfSelWrite a v.toNat))
        else if ¬ k then none
        else
          match arrIdx 0x700400 2 0x40 a with
          | some e => some (s.eftCfgWrite e v)
          | none =>
            match arrIdx 0x2F00000 64 4 a with
            | some l => some (s.tileMapWrite l v)
            | none =>
              match arrIdx 0x3800108 12 0x10 a with
              | some r => some (s.rgPinWrite r v)
              | none => match (arrIdx 0x380010C 12 0x10 a).filter (fun r => decide (9 ≤ r)) with
              | some _ => some (s.unlocked (fun s => s.raise RGX_CAUSE 4))
              | none =>
                (arrIdx 0x50010C 8 0x20 a).map (fun r => s.unlocked (fun s => s.ringCtrl r v.toNat))

/-- The registers of a Krasesta only whose write is a command of its own. -/
def State.krasWrite (s : State) (a : Nat) (v : Word) : Option State :=
  let n := v.toNat
  if ¬ s.part.isK then none
  else if a = 0x200004 then some (s.refSelWrite v)
  else if a = 0x200058 then some (s.phaseCtrlWrite n)
  else if a = PULSE_CTRL then some (s.unlocked (fun s => s.pulseCtrlWrite n))
  else if a = NET_CTRL then some (s.unlocked (fun s => s.netCtrlWrite n))
  else if a = 0x700020 then some (s.subresetXWrite v)
  else if a = 0x3000004 then some (s.pfxCtrlWrite n)
  else if a = 0x800000 then some (s.perfCtrl true n)
  else none

/-- The registers of the CTSU window whose write is a command of its own. -/
def State.windowWrite (s : State) (a : Nat) (v : Word) : Option State :=
  let n := v.toNat
  if a = 0x100010 then some (s.testCtrlWrite n)
  else if a = 0x10100C then some (s.gkCtrlWrite n)
  else if a = 0x101010 then some (s.subresetWrite v)
  else if a = 0x10101C then some (s.forceDataWrite v)
  else if a = 0x101030 then some (s.fenceReqWrite v)
  else if a = 0x101034 then some (s.unfenceWrite v)
  else if a = 0x102004 then some (s.rearm n)
  else if a = TIME_INCR + 4 then some (s.timeIncrWrite v)
  else if a = 0x110040 then some (s.timeCtrlWrite n)
  else if a = 0x120004 then some (s.leapCtrlWrite n)
  else if a = 0x1200AC then some (s.unlocked (fun s => s.epochCtrlWrite n))
  else if a = 0x150000 then some (s.cntCtrlWrite n)
  else if a = 0x190008 then some (s.spawnCtrlWrite n)
  else if a = 0x1A000C then some (if bitOf n 0 then s.snapshot 0 0 else s)
  else if a = 0x1B0008 then some (s.cfgCtrlWrite n)
  else if a = 0x1C0000 then some (s.perfCtrl false n)
  else none

/-- The effect of a write of a register whose write is a command of its own; none for any other register. -/
def State.ctrlWrite (s : State) (a : Nat) (v : Word) : Option State :=
  ((s.windowWrite a v).or (s.krasWrite a v)).or (s.arrayWrite a v)

/-! ### Locks -/

/-- A register of the plan image (R345). -/
def RRow.isPlan (r : RRow) : Bool := r.lock == .plan || r.lock == .manifest

/-- The write is ignored and raises CFG_LOCKED: leaps are armed at a plan register (R130), at BULK_BASE, a SENT register
(R212, R340) or LAST_COMMIT (R123), or a spawn is armed at a manifest register (R215). -/
def State.locked (s : State) (r : RRow) (a : Nat) : Bool :=
  match r.lock with
  | .plan | .armed => s.armed
  | .manifest => s.armed || s.bit S_ARMED
  | .rws => s.armed && (a == LAST_COMMIT || a == LAST_COMMIT + 4)
  | .none => false

/-- A load in progress locks what the loader may write, but not the GECKO block (R348). -/
def State.loadLocked (s : State) (r : RRow) (a : Nat) : Bool :=
  s.bit LOAD_BUSY && r.fds.any (fun f => f.acc.loads) && !inRange 0x101000 0x102000 a

/-- The write is ignored without a report: a clutch entry that is not FREE (R290), a descriptor ring that is enabled
(R372), or a barrier entry enabled with EXPECT out of range (R156), or OVEN_TUNE while the
clean-up loop steers (R56). -/
def State.ignored (s : State) (a v : Nat) : Bool :=
  (s.part.isK && a == OVEN_TUNE && s.bit CLEANUP_LOCK) ||
  (s.part.isK && inRange 0x3010000 0x3050000 a && inRange 4 0x10 (a % 0x40) &&
      s.f (clSt ((a - 0x3010000) / 0x40)) != 0) ||
    (s.part.isK && inRange 0x500100 0x500200 a && decide (a % 0x20 < 0xC) && s.bit (ringEn ((a - 0x500100) / 0x20))) ||
    (match (List.range 80).find? (fun k => barCfg k == a) with
      | some k => bitOf v 31 && !expectOk s.part k (v % 2 ^ 12)
      | none => false)

/-! ### The effect of a change -/

/-- What follows a write of REF_CFG[c]: EN = 0 keeps the candidate unqualified, and PPS_OK is 0 with PPS_EN clear (Tables
CLK-10, CLK-13). -/
def State.refCfgSet (s : State) (c : Nat) : State :=
  let s := if c ≤ 1 ∧ ¬ s.bit (refPpsEn c) then (s.setB (ppsOk c) false).utcCheck else s
  if c < 5 ∧ ¬ s.bit (refEn c) ∧ s.bit (qual c) then s.unqualify c else s

/-- What follows a change of a plain register. -/
def State.afterPut (old s : State) (a : Nat) : State :=
  if a = DL_EN.addr then (if s.bit DL_EN && !old.bit DL_EN then s.dlTouch else s)
  else if s.part.isK && a = MSIX_MASKED.addr then s.msixAgain
  else if s.part.isK && inRange 0x200020 0x200034 a then s.refCfgSet ((a - 0x200020) / 4)
  else if a = EGG_COUNT.addr then s.spawnReport
  else if (s.blockPort a).isSome || inRange 0x192000 0x193000 a then s.notePosts
  else s

/-! ### One write -/

/-- A WHEEL register (R185, R200, Table LNK-16): an entry that the structure image sets as T or P stays, and so does one
that a value outside the field map would change. -/
def State.wheelWrite (s : State) (p k : Nat) (v : Word) : State :=
  if s.bit LOAD_BUSY || s.armed then s.cfgLocked
  else
    let s := (List.range 4).foldl (fun s i =>
      let e := 4 * k + i
      let b := BitVec.ofNat 8 (v.toNat / 2 ^ (8 * i))
      let c := entClass (tget wheelDefault (s.port p).wheel0 e)
      if c = 1 ∨ c = 2 ∨ ¬ entOk b then s
      else s.modPort p (fun x => { x with wheel := tset wheelDefault x.wheel e b })) s
    if s.bit PLAN_VALID then s.setB PLAN_EDITED true else s

/-- The words of a wide register below the highest. -/
def RRow.lows (r : RRow) (a : Nat) : List Nat := (List.range r.wi).map (fun i => a - 4 * (r.wi - i))

/-- A write of a register that stands in the map and has no command of its own. -/
def State.plainWrite (s : State) (r : RRow) (a : Nat) (v : Word) : State :=
  let low := r.wi + 1 < r.wn
  let drop := fun (s : State) => if low then s else s.unstage (r.lows a)
  if s.loadLocked r a then (drop s).cfgLocked
  else if ¬ r.fds.any (fun f => f.acc.writes) then s
  else if s.locked r a then (drop s).cfgLocked
  else if s.ignored a v.toNat then drop s
  else if low then { s with staged := tset (fun _ => none) s.staged a (some v) }
  else
    let t := s.each (r.lows a) (fun t b => t.putWord b (s.stagedOr b))
    let t := (t.putWord a v.toNat).unstage (r.lows a)
    let t := if r.isPlan && t.bit PLAN_VALID then t.setB PLAN_EDITED true else t
    State.afterPut s t a

/-- A write of a word from the register port or BAR0. -/
def State.portWrite (s : State) (a : Nat) (v : Word) : State :=
  if ¬ s.served a || s.absentPort a then s
  else
    match s.wheelPlace a with
    | some (p, k) => s.wheelWrite p k v
    | none =>
      match regRow s.part a with
      | none => s
      | some r =>
        match s.ctrlWrite a v with
        | some t => t
        | none => s.plainWrite r a v

/-- A write at the register port of a block, with the end of its handshake (R405), or from BAR0. -/
def State.portAccess (s : State) (a : Nat) (v : Word) : State :=
  (s.portWrite a v).onDie (fun t => t.regDone t.outs.regData (s.regErr a true))

/-- The address is that of a plan register (R130, R224, R225, R290). -/
def State.planAt (s : State) (a : Nat) : Bool :=
  (s.wheelPlace a).isSome || ((regRow s.part a).any (fun r => r.isPlan))

/-- PLAN_REGISTER_WRITE (R355). -/
def execPlanRegisterWrite (a : Nat) (v : Word) (s : State) : Out := .next (if s.planAt a then s.portAccess a v else s)

/-- The address is that of the highest word of a wide register with a field that a write changes. -/
def State.highAt (s : State) (a : Nat) : Bool :=
  (regRow s.part a).any (fun r => decide (1 < r.wn) && decide (r.wi + 1 = r.wn) && r.fds.any (fun f => f.acc.writes))

/-- WIDE_REGISTER_HIGH_WRITE (R419). -/
def execWideRegisterHighWrite (a : Nat) (v : Word) (s : State) : Out :=
  .next (if s.highAt a then s.portAccess a v else s)

/-- REGISTER_WRITE (R12). -/
def execRegisterWrite (a : Nat) (v : Word) (s : State) : Out := .next (s.portAccess a v)

end Sys2Proof.Machine
end

