-- ==== Sys2Proof/Machine/Dispatch.lean ====
section
/-! DEFINITION. The dispatch: one arm per command, each one direct call of its meaning. -/

namespace Sys2Proof.Machine

def exec (i : Instr) (s : State) : Host.Outcome State Fault Refusal :=
  match i with
  | .standbyPowerUp => Sys2Proof.Machine.execStandbyPowerUp s
  | .standbySupplyFault => Sys2Proof.Machine.execStandbySupplyFault s
  | .mainSupplyFault => Sys2Proof.Machine.execMainSupplyFault s
  | .mainSupplyReturn => Sys2Proof.Machine.execMainSupplyReturn s
  | .aonPor => Sys2Proof.Machine.execAonPor s
  | .resetAssert r => Sys2Proof.Machine.execResetAssert r s
  | .resetRelease r cycle => Sys2Proof.Machine.execResetRelease r cycle s
  | .baskClear => Sys2Proof.Machine.execBaskClear s
  | .baskSet => Sys2Proof.Machine.execBaskSet s
  | .rootpllLock => Sys2Proof.Machine.execRootpllLock s
  | .rootpllLoss => Sys2Proof.Machine.execRootpllLoss s
  | .candidateFault x => Sys2Proof.Machine.execCandidateFault x s
  | .candidateQualified c => Sys2Proof.Machine.execCandidateQualified c s
  | .refSelWrite v => Sys2Proof.Machine.execRefSelWrite v s
  | .ppsFault c => Sys2Proof.Machine.execPpsFault c s
  | .slewComplete => Sys2Proof.Machine.execSlewComplete s
  | .phaseStepArm v => Sys2Proof.Machine.execPhaseStepArm v s
  | .phaseStepCancel v => Sys2Proof.Machine.execPhaseStepCancel v s
  | .phaseStepApply => Sys2Proof.Machine.execPhaseStepApply s
  | .align v => Sys2Proof.Machine.execAlign v s
  | .alignBoundary => Sys2Proof.Machine.execAlignBoundary s
  | .ppsOutEdge => Sys2Proof.Machine.execPpsOutEdge s
  | .tickOutEdge => Sys2Proof.Machine.execTickOutEdge s
  | .timeIncrWrite v => Sys2Proof.Machine.execTimeIncrWrite v s
  | .secArm v => Sys2Proof.Machine.execSecArm v s
  | .secLoadApply => Sys2Proof.Machine.execSecLoadApply s
  | .wideRegisterLowRead a => Sys2Proof.Machine.execWideRegisterLowRead a s
  | .wideRegisterHighWrite a v => Sys2Proof.Machine.execWideRegisterHighWrite a v s
  | .syncSend p => Sys2Proof.Machine.execSyncSend p s
  | .sync p m mark rep => Sys2Proof.Machine.execSync p m mark rep s
  | .req p m mark rep => Sys2Proof.Machine.execReq p m mark rep s
  | .resp p m mark rep => Sys2Proof.Machine.execResp p m mark rep s
  | .exchangeTimeout p => Sys2Proof.Machine.execExchangeTimeout p s
  | .settleDone => Sys2Proof.Machine.execSettleDone s
  | .tdcEdge src e => Sys2Proof.Machine.execTdcEdge src e s
  | .chGo ch v => Sys2Proof.Machine.execChGo ch v s
  | .chAbort ch v => Sys2Proof.Machine.execChAbort ch v s
  | .frameReceive frame fcsOk frac => Sys2Proof.Machine.execFrameReceive frame fcsOk frac s
  | .ethTransmitDescriptor x frac => Sys2Proof.Machine.execEthTransmitDescriptor x frac s
  | .linkChange up => Sys2Proof.Machine.execLinkChange up s
  | .modChange st => Sys2Proof.Machine.execModChange st s
  | .utcClaimWrite v => Sys2Proof.Machine.execUtcClaimWrite v s
  | .start v => Sys2Proof.Machine.execStart v s
  | .haltReq v => Sys2Proof.Machine.execHaltReq v s
  | .stopReq v => Sys2Proof.Machine.execStopReq v s
  | .cancelStop v => Sys2Proof.Machine.execCancelStop v s
  | .startTStartN p mt mn => Sys2Proof.Machine.execStartTStartN p mt mn s
  | .decisionInstant => Sys2Proof.Machine.execDecisionInstant s
  | .go p m => Sys2Proof.Machine.execGo p m s
  | .skip p m => Sys2Proof.Machine.execSkip p m s
  | .halt p m => Sys2Proof.Machine.execHalt p m s
  | .stop p m => Sys2Proof.Machine.execStop p m s
  | .orphanLimit => Sys2Proof.Machine.execOrphanLimit s
  | .leapFire => Sys2Proof.Machine.execLeapFire s
  | .ready p m => Sys2Proof.Machine.execReady p m s
  | .fail p m => Sys2Proof.Machine.execFail p m s
  | .cack p m => Sys2Proof.Machine.execCack p m s
  | .lastCommitWrite v => Sys2Proof.Machine.execLastCommitWrite v s
  | .epochArm v => Sys2Proof.Machine.execEpochArm v s
  | .epochCancel v => Sys2Proof.Machine.execEpochCancel v s
  | .softwareEpoch => Sys2Proof.Machine.execSoftwareEpoch s
  | .add c => Sys2Proof.Machine.execAdd c s
  | .read c => Sys2Proof.Machine.execRead c s
  | .watch c => Sys2Proof.Machine.execWatch c s
  | .unwatch c => Sys2Proof.Machine.execUnwatch c s
  | .requestRefusal => Sys2Proof.Machine.execRequestRefusal s
  | .addEffect => Sys2Proof.Machine.execAddEffect s
  | .watchEntry => Sys2Proof.Machine.execWatchEntry s
  | .unwatchEffect => Sys2Proof.Machine.execUnwatchEffect s
  | .readSample => Sys2Proof.Machine.execReadSample s
  | .watchTimeout => Sys2Proof.Machine.execWatchTimeout s
  | .responsePresent port => Sys2Proof.Machine.execResponsePresent port s
  | .cmpStall port => Sys2Proof.Machine.execCmpStall port s
  | .cadd p m => Sys2Proof.Machine.execCadd p m s
  | .caddApply => Sys2Proof.Machine.execCaddApply s
  | .taskSwitch v => Sys2Proof.Machine.execTaskSwitch v s
  | .forceData v => Sys2Proof.Machine.execForceData v s
  | .forceApply => Sys2Proof.Machine.execForceApply s
  | .arriveWait c => Sys2Proof.Machine.execArriveWait c s
  | .arrive c => Sys2Proof.Machine.execArrive c s
  | .wait c => Sys2Proof.Machine.execWait c s
  | .bread c => Sys2Proof.Machine.execBread c s
  | .barrierRequestEffect => Sys2Proof.Machine.execBarrierRequestEffect s
  | .combinedArrival p m => Sys2Proof.Machine.execCombinedArrival p m s
  | .release p m => Sys2Proof.Machine.execRelease p m s
  | .releaseApply => Sys2Proof.Machine.execReleaseApply s
  | .barStall e => Sys2Proof.Machine.execBarStall e s
  | .deadlock => Sys2Proof.Machine.execDeadlock s
  | .slotTransmit p => Sys2Proof.Machine.execSlotTransmit p s
  | .flitReceive p ofs cws pos mark => Sys2Proof.Machine.execFlitReceive p ofs cws pos mark s
  | .replayTimeout p sq => Sys2Proof.Machine.execReplayTimeout p sq s
  | .linkDead p cause => Sys2Proof.Machine.execLinkDead p cause s
  | .trainingStateDone p => Sys2Proof.Machine.execTrainingStateDone p s
  | .trainingTimeout p => Sys2Proof.Machine.execTrainingTimeout p s
  | .retrain p v => Sys2Proof.Machine.execRetrain p v s
  | .berCheck p lane => Sys2Proof.Machine.execBerCheck p lane s
  | .phyRxLock lane lock => Sys2Proof.Machine.execPhyRxLock lane lock s
  | .phyTxffeDone => Sys2Proof.Machine.execPhyTxffeDone s
  | .phyMarginTgl lane mv => Sys2Proof.Machine.execPhyMarginTgl lane mv s
  | .croakSend => Sys2Proof.Machine.execCroakSend s
  | .croak p m => Sys2Proof.Machine.execCroak p m s
  | .detectorCheck p => Sys2Proof.Machine.execDetectorCheck p s
  | .fenceNotice p payload => Sys2Proof.Machine.execFenceNotice p payload s
  | .upSwitchNotice p payload => Sys2Proof.Machine.execUpSwitchNotice p payload s
  | .mgmtReceive p payload => Sys2Proof.Machine.execMgmtReceive p payload s
  | .bulkReadData tag data err => Sys2Proof.Machine.execBulkReadData tag data err s
  | .bulkWriteResponse tag err => Sys2Proof.Machine.execBulkWriteResponse tag err s
  | .dataDue p q => Sys2Proof.Machine.execDataDue p q s
  | .spawnArm v => Sys2Proof.Machine.execSpawnArm v s
  | .spawnDisarm v => Sys2Proof.Machine.execSpawnDisarm v s
  | .eggPart p payload => Sys2Proof.Machine.execEggPart p payload s
  | .eggTrailer p payload => Sys2Proof.Machine.execEggTrailer p payload s
  | .eggCheckDone => Sys2Proof.Machine.execEggCheckDone s
  | .controlRecord p payload => Sys2Proof.Machine.execControlRecord p payload s
  | .controlRecordSend p => Sys2Proof.Machine.execControlRecordSend p s
  | .load t => Sys2Proof.Machine.execLoad t s
  | .store t => Sys2Proof.Machine.execStore t s
  | .matmul t => Sys2Proof.Machine.execMatmul t s
  | .vector t => Sys2Proof.Machine.execVector t s
  | .softmaxPart t => Sys2Proof.Machine.execSoftmaxPart t s
  | .merge t => Sys2Proof.Machine.execMerge t s
  | .reduce t => Sys2Proof.Machine.execReduce t s
  | .topk t => Sys2Proof.Machine.execTopk t s
  | .send t => Sys2Proof.Machine.execSend t s
  | .recv t => Sys2Proof.Machine.execRecv t s
  | .signal t => Sys2Proof.Machine.execSignal t s
  | .watchDescriptor t => Sys2Proof.Machine.execWatchDescriptor t s
  | .loop t => Sys2Proof.Machine.execLoop t s
  | .descriptorComplete t unit => Sys2Proof.Machine.execDescriptorComplete t unit s
  | .parityClean t block => Sys2Proof.Machine.execParityClean t block s
  | .refetchDone t block => Sys2Proof.Machine.execRefetchDone t block s
  | .parityDirty t block => Sys2Proof.Machine.execParityDirty t block s
  | .stackEccCorrected st => Sys2Proof.Machine.execStackEccCorrected st s
  | .stackUncorrectable st a path t => Sys2Proof.Machine.execStackUncorrectable st a path t s
  | .tileMapWrite l v => Sys2Proof.Machine.execTileMapWrite l v s
  | .pfxOpen v => Sys2Proof.Machine.execPfxOpen v s
  | .pfxImport v => Sys2Proof.Machine.execPfxImport v s
  | .importDone e => Sys2Proof.Machine.execImportDone e s
  | .pfxSeal v => Sys2Proof.Machine.execPfxSeal v s
  | .pfxEvict v => Sys2Proof.Machine.execPfxEvict v s
  | .pfxFree v => Sys2Proof.Machine.execPfxFree v s
  | .installPage d => Sys2Proof.Machine.execInstallPage d s
  | .installSeal d => Sys2Proof.Machine.execInstallSeal d s
  | .installEvict d => Sys2Proof.Machine.execInstallEvict d s
  | .pageWriteDone e err => Sys2Proof.Machine.execPageWriteDone e err s
  | .passStart j => Sys2Proof.Machine.execPassStart j s
  | .passReplyPost j => Sys2Proof.Machine.execPassReplyPost j s
  | .migrationSlot => Sys2Proof.Machine.execMigrationSlot s
  | .migrationCopyDone => Sys2Proof.Machine.execMigrationCopyDone s
  | .loopDecision r err => Sys2Proof.Machine.execLoopDecision r err s
  | .voltageReached r => Sys2Proof.Machine.execVoltageReached r s
  | .thermalCapUpdate r t => Sys2Proof.Machine.execThermalCapUpdate r t s
  | .powerCapUpdate pwr => Sys2Proof.Machine.execPowerCapUpdate pwr s
  | .thermalTrip t => Sys2Proof.Machine.execThermalTrip t s
  | .droop r => Sys2Proof.Machine.execDroop r s
  | .rgPinWrite r v => Sys2Proof.Machine.execRgPinWrite r v s
  | .pinDone r => Sys2Proof.Machine.execPinDone r s
  | .stretchCntStep r cnt => Sys2Proof.Machine.execStretchCntStep r cnt s
  | .monTgl r vf t => Sys2Proof.Machine.execMonTgl r vf t s
  | .fenceReq v => Sys2Proof.Machine.execFenceReq v s
  | .unfence v => Sys2Proof.Machine.execUnfence v s
  | .eftCfgWrite e v => Sys2Proof.Machine.execEftCfgWrite e v s
  | .eftStepClose e => Sys2Proof.Machine.execEftStepClose e s
  | .coreMapWrite l v => Sys2Proof.Machine.execCoreMapWrite l v s
  | .sentinelStart t => Sys2Proof.Machine.execSentinelStart t s
  | .sentinelEnd t => Sys2Proof.Machine.execSentinelEnd t s
  | .snapReq v => Sys2Proof.Machine.execSnapReq v s
  | .geckoHalt v => Sys2Proof.Machine.execGeckoHalt v s
  | .logFreeze v => Sys2Proof.Machine.execLogFreeze v s
  | .logUnfreeze v => Sys2Proof.Machine.execLogUnfreeze v s
  | .subreset v => Sys2Proof.Machine.execSubreset v s
  | .subresetX v => Sys2Proof.Machine.execSubresetX v s
  | .subresetDone b => Sys2Proof.Machine.execSubresetDone b s
  | .loadStruct v => Sys2Proof.Machine.execLoadStruct v s
  | .loadPlan v => Sys2Proof.Machine.execLoadPlan v s
  | .loadAbort v => Sys2Proof.Machine.execLoadAbort v s
  | .restart v => Sys2Proof.Machine.execRestart v s
  | .loadFetchDone => Sys2Proof.Machine.execLoadFetchDone s
  | .loadCheckDone => Sys2Proof.Machine.execLoadCheckDone s
  | .loadApplyDone => Sys2Proof.Machine.execLoadApplyDone s
  | .planRegisterWrite a v => Sys2Proof.Machine.execPlanRegisterWrite a v s
  | .pcieReset => Sys2Proof.Machine.execPcieReset s
  | .bar0Bad a be wr => Sys2Proof.Machine.execBar0Bad a be wr s
  | .bar2Read ofs len => Sys2Proof.Machine.execBar2Read ofs len s
  | .bar2Write ofs data poisoned => Sys2Proof.Machine.execBar2Write ofs data poisoned s
  | .aperTimeout wr => Sys2Proof.Machine.execAperTimeout wr s
  | .ringPoll r desc => Sys2Proof.Machine.execRingPoll r desc s
  | .imageDescriptor desc data => Sys2Proof.Machine.execImageDescriptor desc data s
  | .logRecord desc => Sys2Proof.Machine.execLogRecord desc s
  | .mgmtSend desc data => Sys2Proof.Machine.execMgmtSend desc data s
  | .stackCopyIn desc data => Sys2Proof.Machine.execStackCopyIn desc data s
  | .stackCopyOut desc => Sys2Proof.Machine.execStackCopyOut desc s
  | .ringCtrlWrite r v => Sys2Proof.Machine.execRingCtrlWrite r v s
  | .ringReset r v => Sys2Proof.Machine.execRingReset r v s
  | .bmeOff => Sys2Proof.Machine.execBmeOff s
  | .intRearm v => Sys2Proof.Machine.execIntRearm v s
  | .msixUnmask => Sys2Proof.Machine.execMsixUnmask s
  | .perfSelWrite a v => Sys2Proof.Machine.execPerfSelWrite a v s
  | .clearAll x v => Sys2Proof.Machine.execClearAll x v s
  | .freeze x v => Sys2Proof.Machine.execFreeze x v s
  | .lclkWindow edges => Sys2Proof.Machine.execLclkWindow edges s
  | .testCtrlWrite v => Sys2Proof.Machine.execTestCtrlWrite v s
  | .loopReqSend => Sys2Proof.Machine.execLoopReqSend s
  | .registerWrite a v => Sys2Proof.Machine.execRegisterWrite a v s
  | .pwrPeakRead => Sys2Proof.Machine.execPwrPeakRead s
  | .busMasterEnable => Sys2Proof.Machine.execBusMasterEnable s
  | .tempAlarm st => Sys2Proof.Machine.execTempAlarm st s
  | .ovf x k => Sys2Proof.Machine.execOvf x k s

end Sys2Proof.Machine
end

