-- ==== Sys2Proof/Machine/Tick.lean ====
section
/-! DEFINITION. What a step does when no command waits: one cycle of the time counter (R68; DESIGN CHOICE, log entry 4),
with what each cycle brings by itself: the pulse generator (R61, R62), the strobes (Table LEP-6), the age of the time
shadow (R337), PSTEP_SEEN (Table HTM-13), the second marks (Table HTM-8), the event counters (R384) and the MSI-X vector
(R383). -/

namespace Sys2Proof.Machine

/-- Hall time advances by TIME_INCR (R68); a whole second passed on the way is an edge of HALL_SEC (Table HTM-8). -/
def State.countTime (s : State) : State :=
  let sec := q16PerSec * 2 ^ 24
  let n := s.time / sec + 1
  let t := s.addTime (s.r64 TIME_INCR)
  if n * sec ≤ s.time + s.r64 TIME_INCR then t.tdcEdge 0xF (n * 10 ^ 9 * 256000 : Nat) else t

/-- The pulse generator advances by 1 ns (R61), the pulses in progress come nearer to their ends, and STEP_OUT follows
the generator (R62). -/
def State.countPulse (s : State) : State :=
  if s.part.isK then
    let x := s.pulse
    ({ s with pulse := { x with gen := x.gen + 65536, pps := x.pps - 1, step := x.step - 1, tick := x.tick - 1 } }).stepOut
  else s

/-- CMAP_PHYS shows the entry that CMAP_IDX named at the edge before, from before a change in the cycle between (R398). -/
def State.lookCore (s : State) : State :=
  let i := (Config.cmapIdx s.beat.n).toNat
  s.onDie (fun s => { s with outs := { s.outs with
    cmapPhys := if i < s.part.numCores then s.before.f (coreMap i) else 0 } })

/-- The strobes of a block last one cycle of the local clock (Table LEP-6, R307). -/
def State.endStrobes (s : State) : State := { s with outs := { s.outs with fireStb := false, regionStb := false } }

/-- PSTEP_SEEN stays for 10 ms after a phase step was applied or seen (Table HTM-13). -/
def State.agePstep (s : State) : State :=
  match s.servo.pstepAt with
  | some t =>
    if t + 10000000 ≤ s.beat.n then
      { s.setB PSTEP_SEEN false with servo := { s.servo with pstepAt := none } }
    else s
  | none => s

/-- A new register-clock cycle begins (R13, R417). -/
def State.nextBeat (s : State) : State :=
  let b : Beat :=
    { n := s.beat.n + 1, regs := s.regs, time := s.time, cnt := s.perf.cnt, last := s.perf.last, gen := s.pulse.gen,
      age := s.flt.shadowAge }
  { s with unit := none, beat := b }

/-- After a backward move of the reading, croak is formed again from the next multiple of 10,000 ns (R189, R71). -/
def State.croakBack (s : State) : State :=
  if s.nowNs / 10000 + 1 < s.flt.croakK then { s with flt := { s.flt with croakK := s.nowNs / 10000 + 1 } } else s

/-- A round whose count is full since an earlier cycle completes in stage 3 of this one (R158). -/
def State.closeRounds (s : State) : State :=
  if s.enabledEntries.any (fun k => s.roundDue k) then s.counterCycle false else s

/-- The clocks of the node run for a cycle: hall time and the region generators, with the tile cycles they give. -/
def State.runClocks (s : State) : State := s.countTime.runRegions.tileCycles s

/-- A stack that has reported its high-temperature state ceases to when it will, which the spec leaves free
(Table TIL-13). -/
def State.coolStacks (s : State) : State :=
  { s with stackHot := s.stackHot.filter (fun x => Config.stackHot x.1 s.beat.n) }

/-- What a cycle brings while the main part is powered. -/
def State.mainCycle (s : State) : State :=
  s.closeRounds.clockCycle.endStrobes.runClocks.strobes.countPulse.agePstep.monitor.coolStacks.lookCore.trainPcie.perfTick

/-- One cycle of the time counter, which runs while the main part has power, with the root PLL locked or not (DESIGN
CHOICE, log entry 119). -/
def State.tick (s : State) : State :=
  let s := if s.geckoOn then { s.ovenCycle with flt := { s.flt with shadowAge := s.flt.shadowAge + 1 } } else s
  let s := if s.mainOn then s.mainCycle else s
  let s := { s with outs := { s.outs with regAck := false } }.croakBack.nextBeat
  (if s.mainOn then s.switchTask else s).followInt

end Sys2Proof.Machine
end

