-- ==== Sys2Proof/Safety.lean ====
section
/-! DEFINITION. What counts as a sound state, and the words that the statements use: what a command leaves alone. -/

namespace Sys2Proof.Machine

/-- Both memories are in canonical form: addresses strictly rising, and no byte equal to what an unlisted one reads as. -/
abbrev State.memOk (s : State) : Prop := s.bonded.wf = true ∧ s.stack.wf = true

/-- Every register word outside a list of addresses reads as before. -/
def sameRegs (as : List Nat) (s t : State) : Prop := ∀ a, a ∉ as → t.r a = s.r a

/-- Every register bit outside a list of fields reads as before. -/
def sameBits (Fs : List Fld) (s t : State) : Prop :=
  ∀ a i, i < 32 → (∀ F ∈ Fs, ¬ (F.addr = a ∧ F.lo ≤ i ∧ i < F.lo + F.w)) → bitOf (t.rn a) i = bitOf (s.rn a) i

/-- The note of the words that have changed in this cycle (R13) may differ; the cycle is the same. -/
def Beat.noted (b c : Beat) : Beat := { b with regs := c.regs, hard := c.hard }

/-- Nothing but register words, with the note of those that changed in this cycle (R13), has changed. -/
def onlyRegs (s t : State) : Prop := t = { s with regs := t.regs, beat := s.beat.noted t.beat }

/-- Nothing but register words, with that note, and the counts of events has changed. -/
def onlyRegsEv (s t : State) : Prop := t = { s with regs := t.regs, beat := s.beat.noted t.beat, perf := t.perf }

/-- A ring has written back the descriptor at HEAD: it holds none, HEAD and the count of its completed descriptors have
moved on, its cause is raised, and the address written is that of word 2 (R372, R374). -/
def wroteBack (s t : State) (r : Nat) : Prop :=
  t.held r = none ∧ t.host.wbRing = r ∧ t.host.wbAt = s.ringAt r + 8 ∧
    t.f (ringHead r) = (s.f (ringHead r) + 1) % s.f (ringSize r) % 2 ^ (ringHead r).w ∧
    t.rn (ringDone r) = (s.rn (ringDone r) + 1) % 2 ^ 32 ∧ t.bit (bitF HST_CAUSE r) = true

/-- A list of messages for each port of a list. -/
def onPorts (ps : List Nat) (ms : List Msg) (p : Nat) : List Msg := if p ∈ ps then ms else []

/-- The messages made ready to leave each port: on a port in UP those of `g` that it may send wait behind the ones
that wait already (R186, R199); nothing else of any port changes. -/
def sent (g : Nat → List Msg) (s t : State) : Prop :=
  ∀ p, t.port p = { s.port p with
    ctrl := (s.port p).ctrl ++ if s.portUp p then (g p).filter (s.maySend p) else [] }

/-- A node has armed for step n0 with launch time E, as T says (R111, R112): in RUNNING, its launch pending and its vote
cast; a run that does not resume takes the first targets of the plan, and its commits begin at n0 or after it. -/
def armedFor (n0 T : Nat) (resume : Bool) (s t : State) : Prop :=
  t.nst = .running ∧ t.armed = true ∧ t.bit LAUNCH_PEND = true ∧ t.bit GO_HELD = false ∧ t.bit VOTE_OUT = true ∧
    t.bit HALTED = false ∧ t.bit STOP_ENTRY = false ∧ t.bit GECKO_HALT = false ∧ t.bit (bitF LEAP_CAUSE 2) = true ∧
    t.step = stepBefore n0 ∧ t.r96 NEXT_LAUNCH = T ∧ t.r64 SKIPS = 0 ∧ t.f SKIP_RUN = 0 ∧
    t.rn MIN_LEAD = 0xFFFFFFFF ∧ t.time = s.time ∧ t.bonded = s.bonded ∧ t.stack = s.stack ∧
    (resume = true → t.rn READY_TARGET = s.rn READY_TARGET ∧
      (n0 ≤ s.r64 PEND_COMMIT → t.r64 PEND_COMMIT = s.r64 PEND_COMMIT ∧ t.rn COMMIT_TARGET = s.rn COMMIT_TARGET ∧
        t.r64 LAST_COMMIT = s.r64 LAST_COMMIT)) ∧
    (resume = false → t.rn READY_TARGET = s.rn READY_FIRST ∧ t.rn FAIL_INFO = 0 ∧
      (0 < s.f COMMIT_EVERY → t.rn COMMIT_TARGET = s.rn COMMIT_FIRST ∧ n0 ≤ t.r64 PEND_COMMIT ∧
        t.r64 PEND_COMMIT < n0 + s.f COMMIT_EVERY ∧ t.r64 PEND_COMMIT % s.f COMMIT_EVERY = 0))

/-- A port has returned to SIGNAL (R195, R196): its training begins now, nothing is left of what it had sent or received,
no lane counts as locked, and a die awaits a transmit setting on every lane. -/
def backToSignal (p : Nat) (s t : State) : Prop :=
  t.tstate p = 1 ∧ t.bit (bitF (s.pa p 8) 8) = false ∧ t.f ⟨s.pa p 8, 16, 8⟩ = 0 ∧ (t.port p).trainAt = s.now ∧
    (t.port p).replay = [] ∧ (t.port p).replayDue = [] ∧ (t.port p).rxNext = none ∧ (t.port p).cack = none ∧
    (t.port p).got = [] ∧ (t.port p).miss = [] ∧ (t.port p).reqs = [] ∧ (t.port p).held = [] ∧
    (t.port p).txSeq = (s.port p).txSeq ∧ (s.part.isK = false → ∀ l ∈ s.laneList p, t.outs.ffeWait.contains l = true)

/-- The registers that follow the training state of a port: its LINK_STATUS, the LANE_UP of its group, and the status of
its lanes. -/
def State.trainRegs (s : State) (p : Nat) : List Nat := [s.pa p 8, grpBase p + 4] ++ (s.laneList p).map (s.laneReg p)

/-- A port in UP has declared LINK_DEAD for a cause (R195): every port of its channel counts it and is back in SIGNAL,
and, but in loopback, the peer is dead (R314). -/
def linkDied (p cause : Nat) (s t : State) : Prop :=
  (∀ q ∈ s.channel p, t.f ⟨s.pa q 8, 12, 4⟩ = cause ∧ t.rn (s.pa q 0x70) = (s.rn (s.pa q 0x70) + 1) % 2 ^ 32 ∧
    t.bit (bitF (s.pa q 0xC) 6) = true ∧ backToSignal q s t) ∧
    (s.looped = false → t.isDead (s.chanOf p) = true)

/-- A node has fenced itself for a trigger of R319: FENCED, leaps not armed, and FENCE_INFO tells why. -/
def selfFenced (trigger : Nat) (t : State) : Prop :=
  t.nst = .fenced ∧ t.armed = false ∧ t.bit FENCED_SELF = true ∧ t.rn FENCE_INFO = 2 ^ 31 + trigger * 2 ^ 28 ∧
    t.bit (bitF GK_CAUSE 1) = true

/-- A down port is fenced for a cause (R316, R317): its record, the notice to the child, and no spawn report of it. -/
def portFenced (p cause : Nat) (s t : State) : Prop :=
  t.fenced p = true ∧ t.rn (fenceRec p) = 2 ^ 31 + cause * 2 ^ 24 + s.nsField / 64 % 2 ^ 24 ∧
    t.bit (bitF GK_CAUSE 1) = true ∧ t.f (childCum p) = 0xFFFFFF ∧
    (t.port p).notices = (s.port p).notices ++ [faultNotice 1 cause (s.f NODE_ID) (s.expectedId p)]

/-- A tile runs q now (R246): it stands at the place of the program that ran, unless a step program has ended with it; then
RUN is 0 and PROG_DONE raised, but for a stopped one, or the program that was queued starts at its descriptor 0. -/
def progNow (t : Nat) (q : Prog) (s u : State) : Prop :=
  ((s.tile t).prog = none ∨ q.ended = false → u.tile t = (s.tile t).setCur q) ∧
    ((s.tile t).prog ≠ none → q.ended = true → (q.stopped = false → u.bit (bitF (tileReg t 4) 1) = true) ∧
      ((s.tile t).queued = 0 → (u.tile t).prog = none ∧ u.bit (tRun t) = false ∧ (u.tile t).sentReady = true) ∧
      (0 < (s.tile t).queued → (u.tile t).queued = (s.tile t).queued - 1 ∧ (u.tile t).prog =
        if s.rn (tileReg t 0x10) = 0 then none
        else some { l := q.l, base := s.rn (tileReg t 0xC), len := s.rn (tileReg t 0x10) }))

/-- Entry i of the clutch table has become FREE (R270, R273): its next GEN, no eviction pending, its pages resident no
more, EVICTED raised. -/
def freed (i : Nat) (s t : State) : Prop :=
  t.f (clSt i) = 0 ∧ t.f (clGen i) = (s.f (clGen i) + 1) % 4096 ∧ t.bit (clEvictPend i) = false ∧ t.bit (clBad i) = false ∧
    t.r64 (clEvictStep i) = 0x7FFFFFFFFFFFFFFF ∧ t.bit (bitF PFX_CAUSE 7) = true ∧
    ∀ e, e < 65536 → (bitOf (s.rn (residA e)) 31 = true → bitsOf (s.rn (residA e)) 16 12 = i →
        t.rn (residA e) = 0 ∧ t.rn (residB e) = 0) ∧
      ((bitOf (s.rn (residA e)) 31 = false ∨ bitsOf (s.rn (residA e)) 16 12 ≠ i) →
        t.r (residA e) = s.r (residA e) ∧ t.r (residB e) = s.r (residB e))

/-- The notification of an install packet is on its way (R275): an ADD to a counter of this node 36 ns later, a CADD to
another node (which FENCED withholds), or BAD_REQ where there is no such node or counter; without one nothing. -/
def notified (ntf : Option (Nat × Nat × Nat)) (s t : State) : Prop :=
  match ntf with
  | none => t.cnt = s.cnt ∧ t.rn CADD_TX = s.rn CADD_TX
  | some (node, core, k) =>
    if node = s.f NODE_ID then
      (s.hasCounter core k = true → t.cnt.adds = s.cnt.adds ++ [⟨s.now + 36 * 65536, core, k, 1, false, 0⟩]) ∧
        (s.hasCounter core k = false → t.rn BAD_REQ = (s.rn BAD_REQ + 1) % 2 ^ 32)
    else if idOk node = true then t.rn CADD_TX = (s.rn CADD_TX + if s.nst = .fenced then 0 else 1) % 2 ^ 32
    else t.rn BAD_REQ = (s.rn BAD_REQ + 1) % 2 ^ 32

/-- The registers of a sub-block of SUBRESET (Table FLT-11), but for the words that keep a bit through its reset:
TIME_STATUS of the root, LEAP_STATUS with ORPHAN, RGX_STATUS with TRIPPED, DET_STATUS and FENCE_INFO (log entry 147). -/
def State.inSub (s : State) (b a : Nat) : Bool :=
  match b with
  | 0 => inRange 0x110000 0x120000 a && a != TIME_STATUS && (s.part.isK || !inRange 0x118000 0x118500 a)
  | 1 => inRange s.tdcBase (s.tdcBase + 0x500) a
  | 2 => inRange 0x120000 0x130000 a && a != LEAP_STATUS
  | 3 => (inRange 0x130000 0x140000 a || inRange 0x3800000 0x4000000 a) && a != 0x3800000
  | 4 => inRange 0x140000 0x160000 a
  | 5 => inRange 0x160000 0x170000 a
  | 6 => !s.part.isK && inRange (s.pa 0 0) (s.pa 0 0 + 0x8000) a
  | 7 => inRange 0x190000 0x1A0000 a
  | 9 => inRange 0x1C0000 0x1D0000 a || inRange 0x800000 0x900000 a
  | 10 => inRange 0x1A0000 0x1B0000 a && a != DET_STATUS && a != FENCE_INFO
  | _ => false

/-- The registers of a sub-block of SUBRESET_X (Table FLT-15), but for the clutch table and the identities of the tiles. -/
def inSubX (b a : Nat) : Bool :=
  if b < 18 then inRange (0x1000000 + 0x40000 * b) (0x1040000 + 0x40000 * b) a
  else if b = 18 then inRange 0x2000000 0x2900000 a && !(List.range 72).any (fun t => a == tileReg t 0)
  else if b = 19 then inRange 0x3000000 0x3400000 a && !inRange 0x3010000 0x3050000 a
  else if b = 20 then inRange 0x400000 0x500000 a
  else inRange 0x3400000 0x3460000 a

/-- Every byte of memory reads as before. -/
def sameMem (s t : State) : Prop :=
  (∀ a, t.bonded.byte a = s.bonded.byte a) ∧ ∀ a, t.stack.byte a = s.stack.byte a

end Sys2Proof.Machine
end

