-- ==== Sys2Proof/Certificates/Slice0/Obligations.lean ====
section
/-! DEFINITION. The statements about the model for the provers, in the order of OBLIGATIONS.json. Each docstring says in
words what the statement says; a clause that rests on a choice of the model names its log entry. -/

open Sys2Proof Sys2Proof.Machine

/-- For every command c, every rest of a queue and every state, a step of the state with c in front of that rest is exec
of c on the state with the rest as its queue. (95_what_each_step_holds.md) -/
def Obligations.FrontCommandRuns : Prop :=
  ∀ (c : Instr) (rest : List Instr) (s : State),
      step { s with pending := c :: rest } = exec c { s with pending := rest }

/-- For every state with a waiting command: when a step answers a next state, the queue of that state is the old queue
without its front command, and the part and its parameters are as before. No command adds, drops or reorders waiting
commands. With no command waiting a step answers one cycle of the time counter with the queue still empty (the
model's choice, log entry 4: the clock of the block runs where the queue is empty). (00_scope.md, 03_hall_time.md) -/
def Obligations.QueueIsFirstInFirstOut : Prop :=
  (∀ (c : Instr) (rest : List Instr) (s t : State), s.pending = c :: rest → step s = .next t →
    t.pending = rest ∧ t.part = s.part) ∧
  ∀ s : State, s.pending = [] → ∃ t, step s = .next t ∧ t = s.tick ∧ t.pending = []

/-- State.reset lists no byte of bonded memory or of stack space, so both memories are in canonical form, and its queue
is empty. Both are the model's choices: memory that nothing has written reads 0 (log entry 3), and no command waits
at reset (log entry 113). (10_tiles.md) -/
def Obligations.CanonicalMemoryAtReset : Prop :=
  State.reset.memOk ∧ State.reset.pending = [] ∧ State.reset.bonded = [] ∧ State.reset.stack = []

/-- From every state whose bonded memory and stack space are in canonical form (addresses strictly rising, no byte equal
to what an unlisted byte reads as), a step that answers a next state leaves both in canonical form. (10_tiles.md,
15_host_interface.md) -/
def Obligations.StepKeepsMemoriesCanonical : Prop :=
  ∀ s t : State, s.memOk → step s = .next t → t.memOk

/-- No command is refused in any state. A command faults only as STACK_UNCORRECTABLE with an address at or above the 576
GB of stack space, with the fault of that range, and such a command always faults: the fault is the model's choice
for an address that the hardware does not have (log entry 11). (10_tiles.md) -/
def Obligations.NoCommandRefusedAndOneFault : Prop :=
  (∀ (c : Instr) (s : State), (∀ r, exec c s ≠ .refused r) ∧
    ∀ f, exec c s = .fault f → ∃ st a path t, c = .stackUncorrectable st a path t ∧ stackBytes ≤ a ∧ f = .stackRange) ∧
  ∀ (s : State) (st a : Nat) (path : Bool) (t : Option Nat), stackBytes ≤ a →
    exec (.stackUncorrectable st a path t) s = .fault .stackRange

/-- At a Krasesta: with BASK set, and the oven core within its window for 10 s of cycles without a break, BASK_CLEAR
clears it and raises CLK_CAUSE bit 4; at the root it also clears BASK_ANY, elsewhere BASK_ANY stays. With BASK
clear, BASK_SET sets it and raises CLK_CAUSE bit 5; at the root it also sets BASK_ANY, elsewhere BASK_ANY stays.
Without a claim of UTC BASK_SET changes no other register bit and nothing but registers, but that the 10 s of the
window begin anew; with one it also clears UTC_CLAIM and HT_UTC_VALID, and UTC_VALID at the root, and raises
NET_CAUSE bit 1, and no other register bit changes. BASK_CLEAR changes no other register bit and nothing but
registers. A BASK_CLEAR before the 10 s, a command that finds BASK as it would leave it, and each of them at a die,
changes nothing. The temperature itself is any value in each cycle, the model's choice (log entry 141). Also the
model's choice: a command whose trigger does not hold changes nothing (log entry 8). (02_clock_root.md) -/
def Obligations.OvenCoreEvents : Prop :=
  ∀ s : State, let any := fun (b : Bool) => if s.isRoot then b else s.bit BASK_ANY
    (s.part.isK = true → s.bit BASK = true → ovenHold ≤ s.clk.ovenIn → ∃ t, exec .baskClear s = .next t ∧
        t.bit BASK = false ∧
      t.bit (bitF CLK_CAUSE 4) = true ∧ t.bit BASK_ANY = any false ∧ onlyRegs s t ∧
      sameBits [BASK, bitF CLK_CAUSE 4, BASK_ANY] s t) ∧
    (s.part.isK = true → s.bit BASK = false → ∃ t, exec .baskSet s = .next t ∧ t.bit BASK = true ∧
      t.bit (bitF CLK_CAUSE 5) = true ∧ t.bit BASK_ANY = any true ∧
      onlyRegs { s with clk := { s.clk with ovenIn := 0 } } t ∧
      (s.bit UTC_CLAIM = false → sameBits [BASK, bitF CLK_CAUSE 5, BASK_ANY] s t) ∧
      (s.bit UTC_CLAIM = true → t.bit UTC_CLAIM = false ∧ t.bit HT_UTC_VALID = false ∧
        (s.isRoot = true → t.bit UTC_VALID = false) ∧ t.bit (bitF NET_CAUSE 1) = true ∧
        sameBits [BASK, bitF CLK_CAUSE 5, BASK_ANY, UTC_CLAIM, HT_UTC_VALID, UTC_VALID, bitF NET_CAUSE 1] s t)) ∧
    ((s.part.isK && s.bit BASK && decide (ovenHold ≤ s.clk.ovenIn)) = false → exec .baskClear s = .next s) ∧
    ((s.part.isK && !s.bit BASK) = false → exec .baskSet s = .next s)

/-- For every Krasesta without standby power, STANDBY_POWER_UP answers a next state in TADPOLE whose registers all read
as at reset, with BASK reading 1, standby power present, the oven heating, and the queue as it was; with standby
power present it changes nothing. With its main supply, ROOTPLL_LOCK sets ROOTPLL_LOCK; an ARMED root then leaves
ARMED, and a node that is in neither ARMED nor LIVE changes nothing else. With the lock held, ROOTPLL_LOSS clears
it, raises CLK_CAUSE bit 6, sets GECKO_HALT and raises GK_CAUSE bit 2, holds the link transmitters and drives the
three pulse outputs low; with no lock it changes nothing. At a die none of the three changes anything. The model's
choices: standby power comes up in the state of reset, whatever stood before it (log entry 52); a command whose
trigger does not hold changes nothing (log entry 8). (02_clock_root.md) -/
def Obligations.StandbyPowerUpAndRootPll : Prop :=
  (∀ s : State, s.part = .krasesta → s.power.standby = false →
    ∃ t, exec .standbyPowerUp s = .next t ∧ t.nst = .tadpole ∧ (∀ a, t.r a = State.reset.r a) ∧ t.bit BASK = true ∧
      t.power.standby = true ∧ t.power.heating = true ∧ t.pending = s.pending) ∧
  (∀ s : State, s.power.standby = true → exec .standbyPowerUp s = .next s) ∧
  (∀ s : State, s.part.isK = true →
    (s.mainOn = true → ∃ t, exec .rootpllLock s = .next t ∧ t.bit ROOTPLL_LOCK = true ∧
      (s.nst = .armed → s.isRoot = true → t.nst ≠ .armed) ∧
      (s.nst ≠ .armed → s.nst ≠ .live → onlyRegs s t ∧ sameBits [ROOTPLL_LOCK] s t)) ∧
    (s.bit ROOTPLL_LOCK = true → ∃ t, exec .rootpllLoss s = .next t ∧ t.bit ROOTPLL_LOCK = false ∧
      t.bit (bitF CLK_CAUSE 6) = true ∧ t.bit GECKO_HALT = true ∧ t.bit (bitF GK_CAUSE 2) = true ∧
        t.outs.txHeld = true ∧
      t.pulse.pps = 0 ∧ t.pulse.step = 0 ∧ t.pulse.tick = 0) ∧
    (s.bit ROOTPLL_LOCK = false → exec .rootpllLoss s = .next s)) ∧
  ∀ s : State, s.part.isK = false →
    exec .standbyPowerUp s = .next s ∧ exec .rootpllLock s = .next s ∧ exec .rootpllLoss s = .next s

/-- For each candidate c whose monitor runs (a permitted one, not the oven): CANDIDATE_FAULT with a row of Table CLK-3
that shows a fault clears its QUAL bit, so that PRESENT reads 0, notes the cycle and changes nothing else but this:
a write of REF_SEL accepted in the same cycle for c is withdrawn, with REF_SEL as before it and CLK_CAUSE bit 3
raised. A row that shows no fault changes nothing; a drift is none while BASK is set. CANDIDATE_QUALIFIED of an
enabled, unqualified candidate that no dead link stands for, that shows no fault and has been free of faults for its
QUAL_MS sets QUAL, so that PRESENT reads 1, and raises CLK_CAUSE bit 2 exactly where the candidate stands higher in
REF_PRIO than the one in use; nothing else changes. PPS_FAULT of a permitted REFIN with its 1PPS enabled clears
PPS_OK, raises CLK_CAUSE bit 7 and counts the event; without a claim of UTC nothing else changes, and a claim of UTC
by that REFIN is lost. Where the monitor does not run, none of the three changes anything, but that a die that has
come to LIVE or beyond and whose uplink shows a fault fences itself (R315). What a monitor measures is an operand
(log entry 121), and a first qualification above the candidate in use raises REF_RESTORED too (log entry 153): both
are the model's choices. Also the model's choices: PRESENT reads 0 in the cycle of a fault (log entry 29); a command
whose trigger does not hold changes nothing (log entry 8). (02_clock_root.md) -/
def Obligations.ReferenceCandidateEvents : Prop :=
  ∀ (s : State) (c : Nat),
    (s.monitored c = true →
      (∀ kind dev : Nat,
        (s.faultShown c kind dev = false → exec (.candidateFault ⟨c, kind, dev⟩) s = .next s) ∧
        (c ≤ 1 → s.bit BASK = true → s.faultShown c 1 dev = false) ∧
        (s.faultShown c kind dev = true → ∃ t, exec (.candidateFault ⟨c, kind, dev⟩) s = .next t ∧
            t.bit (qual c) = false ∧
          t.presentNow c = false ∧ tget (fun _ => 0) t.clk.faultAt c = s.beat.n ∧
          t = { s with regs := t.regs, beat := s.beat.noted t.beat, clk := t.clk } ∧
          ((s.clk.selReq.map (·.1)) ≠ some c → sameBits [qual c] s t ∧
              t.clk = { s.clk with faultAt := t.clk.faultAt }) ∧
          (∀ old, s.clk.selReq = some (c, old) → t.f REF_SEL = old % 8 ∧ t.bit (bitF CLK_CAUSE 3) = true ∧
            t.clk = { s.clk with faultAt := t.clk.faultAt, selReq := none } ∧
            sameBits [qual c, REF_SEL, bitF CLK_CAUSE 3] s t))) ∧
      (s.bit (refEn c) = true → s.bit (qual c) = false → s.clk.deadCand.contains c = false → s.qualTime c = true →
        s.faultNow c = false → ∃ t, exec (.candidateQualified c) s = .next t ∧ t.bit (qual c) = true ∧
          t.presentNow c = true ∧
          onlyRegs s t ∧ sameBits [qual c, bitF CLK_CAUSE 2] s t ∧
          (s.prioPlace c < s.prioPlace (s.f SEL_ACTIVE) → t.bit (bitF CLK_CAUSE 2) = true) ∧
          (¬ s.prioPlace c < s.prioPlace (s.f SEL_ACTIVE) → t.bit (bitF CLK_CAUSE 2) = s.bit (bitF CLK_CAUSE 2))) ∧
      (s.faultNow c = true → exec (.candidateQualified c) s = .next s) ∧
      (c ≤ 1 → s.bit (refPpsEn c) = true → ∃ t, exec (.ppsFault c) s = .next t ∧
        t.bit (ppsOk c) = false ∧ t.bit (bitF CLK_CAUSE 7) = true ∧ t.perf = (s.ev 0xD1).perf ∧ onlyRegsEv s t ∧
        (s.bit UTC_CLAIM = false → sameBits [ppsOk c, bitF CLK_CAUSE 7] s t) ∧
        (s.bit UTC_CLAIM = true → s.f SEL_ACTIVE = c → t.bit UTC_CLAIM = false ∧ t.bit HT_UTC_VALID = false))) ∧
    (s.monitored c = false → exec (.candidateQualified c) s = .next s ∧ exec (.ppsFault c) s = .next s ∧
        ∀ kind dev : Nat,
      ((s.uplinkJudged c && s.faultShown 2 kind dev) = false → exec (.candidateFault ⟨c, kind, dev⟩) s = .next s) ∧
      (s.uplinkJudged c = true → s.faultShown 2 kind dev = true → s.nst ≠ .fenced →
        ∃ t, exec (.candidateFault ⟨c, kind, dev⟩) s = .next t ∧ selfFenced 3 t))

/-- At a Krasesta whose main part answers: while a load runs, REF_SEL_WRITE only raises LEAP_CAUSE bit 12. With none
running, a write that names a permitted, qualified candidate stores REF_SEL and changes no other register bit; the
selector then takes that candidate at the end of the cycle (SEL_ACTIVE shows it), unless it is in use already. Any
other write raises CLK_CAUSE bit 3 (REF_SEL_REFUSED), leaves REF_SEL, SEL_ACTIVE and every other register bit, and
what the selector takes at the end of the cycle. The move at the end of the cycle is the model's reading of R50 (log
entry 20). With no accepted write in the cycle, the selector keeps a candidate in use that is qualified or the oven,
and moves from one that is not to its fallback by REF_PRIO, with CLK_CAUSE bits 0 and 1. SLEW_COMPLETE clears
SLEWING and changes no other register bit; at a die neither command changes anything. (02_clock_root.md) -/
def Obligations.SelectorCommands : Prop :=
  (∀ s : State, s.part.isK = true →
    (s.mainOn = true → ∀ v : Word, let c := v.toNat % 8
      (s.bit LOAD_BUSY = true → ∃ t, exec (.refSelWrite v) s = .next t ∧ t.bit (bitF LEAP_CAUSE 12) = true ∧
          onlyRegs s t ∧
        sameBits [bitF LEAP_CAUSE 12] s t) ∧
      (s.bit LOAD_BUSY = false → s.permitted c = true → s.bit (qual c) = true → ∃ t, exec (.refSelWrite v) s = .next t ∧
        t.f REF_SEL = c ∧ t.f SEL_ACTIVE = s.f SEL_ACTIVE ∧ sameBits [REF_SEL] s t ∧
        t = { s with regs := t.regs, clk := { s.clk with selReq := t.clk.selReq } } ∧ t.selector.f SEL_ACTIVE = c) ∧
      (s.bit LOAD_BUSY = false → (s.permitted c && s.bit (qual c)) = false → ∃ t, exec (.refSelWrite v) s = .next t ∧
        t.bit (bitF CLK_CAUSE 3) = true ∧ onlyRegs s t ∧ sameBits [bitF CLK_CAUSE 3] s t)) ∧
    (s.clk.selReq = none → (s.f SEL_ACTIVE = 7 ∨ s.bit (qual (s.f SEL_ACTIVE)) = true) → s.selector = s) ∧
    (s.clk.selReq = none → s.f SEL_ACTIVE ≠ 7 → s.bit (qual (s.f SEL_ACTIVE)) = false →
      s.selector.f SEL_ACTIVE = s.fallback (s.f SEL_ACTIVE) ∧ s.selector.bit (bitF CLK_CAUSE 0) = true ∧
      s.selector.bit (bitF CLK_CAUSE 1) = true) ∧
    ∃ t, exec .slewComplete s = .next t ∧ t.bit SLEWING = false ∧ onlyRegs s t ∧ sameBits [SLEWING] s t) ∧
  ∀ s : State, s.part.isK = false → exec .slewComplete s = .next s ∧ ∀ v : Word, exec (.refSelWrite v) s = .next s

/-- At a Krasesta whose main part answers: PHASE_STEP_ARM without CANCEL at the root with no step pending sets
PSTEP_PEND and arms the 48 bits of PHASE_STEP for the next whole millisecond of hall time; elsewhere, or with one
pending, it raises CLK_CAUSE bit 9 and changes no other register bit. PHASE_STEP_CANCEL without ARM clears
PSTEP_PEND and the armed step and changes nothing else. A write of both bits leaves no step armed, with either
command (the model's choice, log entry 5). PHASE_STEP_APPLY with no armed step, or before its boundary, changes
nothing. At the boundary it clears the step and PSTEP_PEND. Where leaps are not armed, or STEP_SLEW_MAX is not 0 and
the step lies between 0 and STEP_SLEW_MAX ns, it adds the step to hall time, which the generator takes too where an
alignment boundary lay in this cycle, raises bit 8, sets PSTEP_SEEN for the 10 ms that begin in this cycle, and
UTC_CLAIM and HT_UTC_VALID read 0 after it; otherwise it leaves hall time, raises bit 9 and changes no other
register bit. Also the model's choice: a command whose trigger does not hold changes nothing (log entry 8).
(02_clock_root.md) -/
def Obligations.PhaseSteps : Prop :=
  ∀ s : State,
    (s.part.isK = true → s.mainOn = true → ∀ v : Word,
      (bitOf v.toNat 1 = false → s.isRoot = true → s.bit PSTEP_PEND = false → ∃ t, exec (.phaseStepArm v) s = .next t ∧
        t.bit PSTEP_PEND = true ∧ sameBits [PSTEP_PEND] s t ∧ t = { s with
          regs := t.regs
          clk := { s.clk with
            pstep := some (s.r64 PHASE_STEP % 2 ^ 48)
            pstepAt := (s.now / (1000000 * 65536) + 1) * (1000000 * 65536) } }) ∧
      (bitOf v.toNat 1 = false → (s.isRoot && !s.bit PSTEP_PEND) = false → ∃ t, exec (.phaseStepArm v) s = .next t ∧
        t.bit (bitF CLK_CAUSE 9) = true ∧ onlyRegs s t ∧ sameBits [bitF CLK_CAUSE 9] s t) ∧
      (bitOf v.toNat 0 = false → ∃ t, exec (.phaseStepCancel v) s = .next t ∧ t.bit PSTEP_PEND = false ∧
        t = { s with regs := t.regs, clk := { s.clk with pstep := none } } ∧ sameBits [PSTEP_PEND] s t) ∧
      (bitOf v.toNat 1 = true → ∃ t, exec (.phaseStepArm v) s = .next t ∧ t.bit PSTEP_PEND = false ∧
          t.clk.pstep = none) ∧
      (bitOf v.toNat 0 = true → ∃ t, exec (.phaseStepCancel v) s = .next t ∧ t.bit PSTEP_PEND = false ∧
          t.clk.pstep = none)) ∧
    ((s.clk.pstep = none ∨ s.reached s.clk.pstepAt = false) → exec .phaseStepApply s = .next s) ∧
    ∀ x, s.clk.pstep = some x → s.reached s.clk.pstepAt = true → let d := signed 48 x
      let ok : Prop := s.armed = false ∨ (s.rn STEP_SLEW_MAX ≠ 0 ∧ 0 ≤ d ∧ d ≤ (s.rn STEP_SLEW_MAX : Int) * 65536)
      ∃ t, exec .phaseStepApply s = .next t ∧ t.clk = { s.clk with pstep := none } ∧ t.bit PSTEP_PEND = false ∧
        (ok → (t.time : Int) = ((s.time : Int) + d * 2 ^ 24) % timeWrap ∧ t.bit (bitF CLK_CAUSE 8) = true ∧
          t.bit PSTEP_SEEN = true ∧ t.servo.pstepAt = some s.beat.n ∧
          (s.pulse.alignedAt = some s.beat.n → t.pulse.gen = t.now) ∧
              (s.pulse.alignedAt ≠ some s.beat.n → t.pulse = s.pulse) ∧ t.bit UTC_CLAIM = false ∧
              t.bit HT_UTC_VALID = false ∧
          sameBits [PSTEP_PEND, bitF CLK_CAUSE 8, PSTEP_SEEN, UTC_CLAIM, HT_UTC_VALID, UTC_VALID,
            bitF NET_CAUSE 1] s t) ∧
        (¬ ok → t.time = s.time ∧ t.bit (bitF CLK_CAUSE 9) = true ∧ sameBits [PSTEP_PEND, bitF CLK_CAUSE 9] s t)

/-- At a Krasesta whose main part answers and is not loading, ALIGN stores the three enables, drives low each output
whose enable is 0, and, with no alignment pending, sets ALIGN_PEND with the first whole second of hall time not less
than 2,000,000 ns after the reading; with one pending that boundary stays. No other register bit changes. At the
boundary (hall time has reached it, or had at the beginning of the cycle, before a phase step of it) the generator
takes hall time, the tick settings take effect with A at the boundary, ALIGN_PEND clears and CLK_CAUSE bit 10 is
raised, and bit 11 exactly where the generator had been 1 ms or more off; hall time and every other register bit
stay. Without a boundary, or before it, ALIGN_BOUNDARY changes nothing. The model's choice: a command whose trigger
does not hold changes nothing (log entry 8). (02_clock_root.md) -/
def Obligations.PulseAlignment : Prop :=
  ∀ s : State,
    (s.part.isK = true → s.mainOn = true → s.bit LOAD_BUSY = false → ∀ v : Word,
      let keep := fun (i w : Nat) => if bitOf v.toNat i then w else 0
      let low : Pulse := { s.pulse with pps := keep 0 s.pulse.pps, step := keep 1 s.pulse.step, tick := keep 2 s.pulse.tick }
      (s.pulse.bound = none → ∃ t b, exec (.align v) s = .next t ∧ t.pulse = { low with bound := some b } ∧
          b % q16PerSec = 0 ∧
        s.now + 2000000 * 65536 ≤ b ∧ b < s.now + 2000000 * 65536 + q16PerSec ∧ t.bit ALIGN_PEND = true ∧
        t.f ⟨PULSE_CTRL, 0, 3⟩ = v.toNat % 8 ∧ sameBits [⟨PULSE_CTRL, 0, 3⟩, ALIGN_PEND] s t) ∧
      (s.pulse.bound ≠ none → ∃ t, exec (.align v) s = .next t ∧ t.pulse = low ∧ t.f ⟨PULSE_CTRL, 0, 3⟩ = v.toNat % 8 ∧
        sameBits [⟨PULSE_CTRL, 0, 3⟩] s t)) ∧
    (∀ b, s.pulse.bound = some b → (s.reached b = true ∨ b * 2 ^ 24 ≤ s.beat.time) →
        ∃ t, exec .alignBoundary s = .next t ∧
      t.pulse = { s.pulse with
        gen := s.now, bound := none, alignedAt := some s.beat.n, base := some b, per := s.rn TICK_PERIOD
        ofs := s.rn TICK_OFFSET % s.rn TICK_PERIOD, k := 0, ppsNext := ceilDiv (s.now - 65535) q16PerSec
        ahead := none, stepDue := s.pulse.stepDue.filter (fun t => decide (b ≤ t)) } ∧
      t.bit ALIGN_PEND = false ∧ t.bit (bitF CLK_CAUSE 10) = true ∧ t.time = s.time ∧
      (1000000 * 65536 ≤ s.pulseErr.natAbs → t.bit (bitF CLK_CAUSE 11) = true) ∧
      (¬ 1000000 * 65536 ≤ s.pulseErr.natAbs → t.bit (bitF CLK_CAUSE 11) = s.bit (bitF CLK_CAUSE 11)) ∧
      sameBits [ALIGN_PEND, bitF CLK_CAUSE 10, bitF CLK_CAUSE 11] s t) ∧
    ((s.pulse.bound.any (fun b => s.reached b || decide (b * 2 ^ 24 ≤ s.beat.time))) = false →
        exec .alignBoundary s = .next s)

/-- At a Krasesta whose generator time has come within half a nanosecond of the next whole second, PPS_OUT_EDGE moves on
to the second after it; where the generator time lies within half a nanosecond of that second, PPS is enabled,
pulses are on and no alignment boundary lies within 1 ms ahead, it also drives PPS_OUT high for its width and stamps
the edge at source 0xC, and otherwise it changes nothing else. TICK_OUT_EDGE does the same with the tick instants A
+ OFFSET + k PERIOD, the enable of TICK_OUT and source 0xE, with a width of at most one less than the period.
Neither changes hall time or the generator. Before the instant neither changes anything. The model's choice: a
command whose trigger does not hold changes nothing (log entry 8). (02_clock_root.md) -/
def Obligations.PulseEdges : Prop :=
  ∀ s : State, let on := fun (i t : Nat) => s.bit (bitF PULSE_CTRL i) && s.pulsesOn && !s.nearBound && s.genAt t
    (s.part.isK = true → let t0 := s.pulse.ppsNext * q16PerSec
      let x : Pulse := { s.pulse with ppsNext := (s.pulse.gen + 32768) / q16PerSec + 1 }
      (¬ t0 ≤ s.pulse.gen + 32768 → exec .ppsOutEdge s = .next s) ∧
      (t0 ≤ s.pulse.gen + 32768 → on 0 t0 = false → exec .ppsOutEdge s = .next { s with pulse := x }) ∧
      (t0 ≤ s.pulse.gen + 32768 → on 0 t0 = true → ∃ t, exec .ppsOutEdge s = .next t ∧
        t = ({ s with pulse := { x with pps := s.f (pulseW 0) } } : State).tdcNow 0xC ∧
        t.pulse = { x with pps := s.f (pulseW 0) } ∧ t.time = s.time)) ∧
    (s.pulse.base = none → exec .tickOutEdge s = .next s) ∧
    ∀ a, s.pulse.base = some a → let t0 := a + (s.pulse.ofs + s.pulse.k * s.pulse.per) * 65536
      let x : Pulse := { s.pulse with k := s.pulse.k + 1 + (s.pulse.gen + 32768 - t0) / (s.pulse.per * 65536) }
      (¬ t0 ≤ s.pulse.gen + 32768 → exec .tickOutEdge s = .next s) ∧
      (t0 ≤ s.pulse.gen + 32768 → on 2 t0 = false → exec .tickOutEdge s = .next { s with pulse := x }) ∧
      (t0 ≤ s.pulse.gen + 32768 → on 2 t0 = true → ∃ t, exec .tickOutEdge s = .next t ∧
        t = ({ s with pulse := { x with tick := min (s.f (pulseW 2)) (s.pulse.per - 1) } } : State).tdcNow 0xE ∧
        t.pulse = { x with tick := min (s.f (pulseW 2)) (s.pulse.per - 1) } ∧ t.time = s.time)

/-- An idle step of a powered main part adds TIME_INCR to hall time, in units of 2^-40 ns, modulo 2^48 seconds (R68),
and TIME_INCR stays; without power hall time stays. That a step with no command waiting is one cycle of the time
counter is the model's choice (log entry 4), as is that the counter runs whenever the main part has power (log entry
119). The timed events of the oven core, the counter unit, the barriers and the deadlock detector are no cycle: they
leave hall time. Where the main part answers: TIME_INCR_WRITE (no load running) takes the staged low word, or the
one in effect where none is staged, with the written high half; at the root and within 100 ppm of nominal it becomes
TIME_INCR and no other register word changes, else TIME_INCR and every other register word keep their values but
TIME_CAUSE bit 5 is raised; the staged word is used up either way. SEC_ARM at the root with leaps not armed and no
load pending arms the seconds load for the next whole second, and changes no register; else it raises TIME_CAUSE bit
8 and nothing else changes. At that second SEC_LOAD_APPLY uses up the load. With leaps not armed and not armed since
SEC_ARM it sets SEC to SEC_LOAD, keeps the part below the second, raises bit 7, and UTC_CLAIM and HT_UTC_VALID read
0 after it; otherwise it leaves hall time and raises bit 8. Before that second, or with no load pending, it changes
nothing. Also the model's choice: a command whose trigger does not hold changes nothing (log entry 8).
(03_hall_time.md) -/
def Obligations.TimeCounterCommands : Prop :=
  ((∀ s : State, s.pending = [] →
    (s.mainOn = true → ∃ t, step s = .next t ∧ t.time = (s.time + s.r64 TIME_INCR) % timeWrap ∧
        t.r64 TIME_INCR = s.r64 TIME_INCR ∧
      t.beat.n = s.beat.n + 1) ∧
    (s.mainOn = false → ∃ t, step s = .next t ∧ t.time = s.time ∧ t.beat.n = s.beat.n + 1)) ∧
  ∀ (s : State) (c : Instr), c ∈ ([.requestRefusal, .addEffect, .watchEntry, .unwatchEffect, .readSample,
      .watchTimeout, .caddApply,
      .barrierRequestEffect, .releaseApply, .forceApply, .deadlock, .baskClear, .baskSet, .slewComplete] : List Instr) →
    ∃ t, exec c s = .next t ∧ t.time = s.time ∧ t.beat.n = s.beat.n) ∧
  ∀ s : State,
    (s.mainOn = true → s.bit LOAD_BUSY = false → ∀ v : Word, let x := s.stagedOr TIME_INCR + 2 ^ 32 * (v.toNat % 2 ^ 16)
      ∃ t, exec (.timeIncrWrite v) s = .next t ∧ tget (fun _ => none) t.staged TIME_INCR = none ∧
        t = { s with regs := t.regs, beat := s.beat.noted t.beat, staged := t.staged } ∧
        ((s.isRoot && decide (0x00FFF9724745 ≤ x) && decide (x ≤ 0x0100068DB8BB)) = true →
          t.r64 TIME_INCR = x ∧ sameRegs [TIME_INCR, TIME_INCR + 4] s t) ∧
        ((s.isRoot && decide (0x00FFF9724745 ≤ x) && decide (x ≤ 0x0100068DB8BB)) = false →
          t.bit (bitF TIME_CAUSE 5) = true ∧ sameBits [bitF TIME_CAUSE 5] s t)) ∧
    (s.mainOn = true → ∀ v : Word,
      ((s.isRoot && !s.armed && s.clk.secArm.isNone) = true → exec (.secArm v) s =
        .next { s with clk := { s.clk with secArm := some ((s.now / q16PerSec + 1) * q16PerSec), secBad := false } }) ∧
      ((s.isRoot && !s.armed && s.clk.secArm.isNone) = false → ∃ t, exec (.secArm v) s = .next t ∧
        t.bit (bitF TIME_CAUSE 8) = true ∧ onlyRegs s t ∧ sameBits [bitF TIME_CAUSE 8] s t)) ∧
    ((s.clk.secArm.any (fun b => s.reached b)) = false → exec .secLoadApply s = .next s) ∧
    ∀ b, s.clk.secArm = some b → s.reached b = true → ∃ t, exec .secLoadApply s = .next t ∧
      t.clk = { s.clk with secArm := none } ∧
      ((s.armed || s.clk.secBad) = true → t.time = s.time ∧ t.bit (bitF TIME_CAUSE 8) = true ∧
        sameBits [bitF TIME_CAUSE 8] s t) ∧
      ((s.armed || s.clk.secBad) = false → t.time / (q16PerSec * 2 ^ 24) = s.r64 SEC_LOAD % 2 ^ 48 ∧
        t.time % (q16PerSec * 2 ^ 24) = s.time % (q16PerSec * 2 ^ 24) ∧ t.bit (bitF TIME_CAUSE 7) = true ∧
        t.bit UTC_CLAIM = false ∧ t.bit HT_UTC_VALID = false ∧
        sameBits [bitF TIME_CAUSE 7, UTC_CLAIM, HT_UTC_VALID, UTC_VALID, bitF NET_CAUSE 1] s t)

/-- SYNC_SEND of a parent port that is UP, one SYNC interval or more after its last SYNC, opens an exchange with the
next SEQ (at most three stay open) and makes a SYNC of it ready where the port may send it; no register and no other
port changes. Not due, or elsewhere, it changes nothing. SYNC, REQ and RESP act on a TIME message of their own kind
only; another message changes nothing. A receive mark, at the die pins, is a measurement edge of source 0x40 + p
unless the message came by replay. SYNC at a child then opens an exchange with its SEQ, t1, the mark as t2 and
PORT_ASYM as it stands, makes a REQ of that SEQ ready, and, at the port that feeds the servo, takes BASK_ANY,
UTC_VALID and PARENT_HOLD from the message, whose PSTEP sets PSTEP_SEEN. REQ at a parent with that SEQ open closes
it there and, unless it came by replay, makes a RESP with the mark ready; with no such SEQ open it is a discard.
RESP at a child with t3 known closes the exchange. It is a discard where a message of the exchange came by replay,
three SYNC intervals have passed since its SYNC, or, after 64 used exchanges, its delay lies outside the window.
Else its delay joins the delays of the port, and at the port that feeds the servo of a node that is not the root
EXCH_USED counts it, SERVO_OFFSET holds its offset, and TIME_INCR stays within the clamp of the node (10 ppm of
nominal, 250 ppm at a die) or, at a die that has fenced itself for its uplink, as it is. A discard counts in
EXCH_DISCARD at the port that feeds the servo and nowhere else. EXCHANGE_TIMEOUT discards exactly the exchanges that
are three SYNC intervals old. The model's choices: a REQ that came by replay gets no RESP (log entry 14), times are
rounded toward minus infinity (log entry 31), and the 64 exchanges are those used since acquisition began (log entry
158). The model's choices: a command whose trigger does not hold changes nothing (log entry 8); a message that
becomes ready leaves in a later slot (log entry 67). (03_hall_time.md) -/
def Obligations.TimeExchange : Prop :=
  ∀ (s : State) (p : Nat), let one := if s.feeds p then 1 else 0
    (let due : Prop := ∀ t, (s.exch p).sentAt = some t → t + s.syncInterval p ≤ s.beat.n;
      (s.parentOf p = true → s.portUp p = true → due → ∃ t, exec (.syncSend p) s = .next t ∧
        t.exch p = { s.exch p with
          seqNext := ((s.exch p).seqNext + 1) % 2 ^ 16
          open_ := ((s.exch p).seqNext :: (s.exch p).open_).take 3
          sentAt := some s.beat.n } ∧
        (s.maySend p (timeMsg 0 0 (s.exch p).seqNext 0) = true →
          (t.port p).ctrl = (s.port p).ctrl ++ [timeMsg 0 0 (s.exch p).seqNext 0]) ∧
        t = { s with ports := t.ports } ∧ ∀ q, q ≠ p → t.port q = s.port q) ∧
      (¬ (s.parentOf p = true ∧ s.portUp p = true ∧ due) → exec (.syncSend p) s = .next s)) ∧
    (∀ (m : Msg) (mark : Stamp) (rep : Bool), let e := s.rxMark p mark
      let u := if rep then s else s.tdcEdge (0x40 + p) (q16ToTdc (tsScalar e.toNat))
      (isTime m 0 = false → exec (.sync p m mark rep) s = .next s) ∧
      (isTime m 1 = false → exec (.req p m mark rep) s = .next s) ∧
      (isTime m 2 = false → exec (.resp p m mark rep) s = .next s) ∧
      (isTime m 0 = true → s.childOf p = false → exec (.sync p m mark rep) s = .next u) ∧
      (isTime m 0 = true → s.childOf p = true → ∃ t, exec (.sync p m mark rep) s = .next t ∧
        (t.exch p).opens = ⟨mLo m, tsScalar (mBody m), tsScalar e.toNat, none, rep, s.beat.n,
            s.asymWord p⟩ :: (s.exch p).opens ∧
        (s.portUp p = true → s.maySend p (timeMsg 1 0 (mLo m) 0) = true →
          (t.port p).ctrl = (s.port p).ctrl ++ [timeMsg 1 0 (mLo m) 0]) ∧
        (s.feeds p = true → t.bit BASK_ANY = bitOf m.toNat 117 ∧ t.bit UTC_VALID = bitOf m.toNat 116 ∧
          t.bit PARENT_HOLD = bitOf m.toNat 115 ∧ (bitOf m.toNat 114 = true → t.bit PSTEP_SEEN = true)) ∧
        (s.feeds p = false → t.r TIME_STATUS = s.r TIME_STATUS) ∧ sameRegs [TIME_STATUS] u t ∧ t.time = s.time) ∧
      (isTime m 1 = true → (s.parentOf p && (s.exch p).open_.contains (mLo m)) = true → ∃ t,
        exec (.req p m mark rep) s = .next t ∧ (t.exch p).open_ = (s.exch p).open_.filter (· != mLo m) ∧
        (rep = true → (t.port p).ctrl = (s.port p).ctrl) ∧
        (rep = false → s.portUp p = true → s.maySend p (timeMsg 2 0 (mLo m) e.toNat) = true →
          (t.port p).ctrl = (s.port p).ctrl ++ [timeMsg 2 0 (mLo m) e.toNat]) ∧ sameRegs [] u t ∧ t.time = s.time) ∧
      (isTime m 1 = true → (s.parentOf p && (s.exch p).open_.contains (mLo m)) = false → ∃ t,
        exec (.req p m mark rep) s = .next t ∧ t.port p = s.port p ∧
        t.rn EXCH_DISCARD = (s.rn EXCH_DISCARD + one) % 2 ^ 32 ∧ sameRegs [EXCH_DISCARD] u t ∧ t.time = s.time) ∧
      (isTime m 2 = true → (s.exch p).opens.find? (fun x => x.sq == mLo m && x.t3.isSome) = none → ∃ t,
        exec (.resp p m mark rep) s = .next t ∧ t.port p = s.port p ∧
        t.rn EXCH_DISCARD = (s.rn EXCH_DISCARD + one) % 2 ^ 32 ∧ sameRegs [EXCH_DISCARD] u t) ∧
      (isTime m 2 = true → p < s.part.numPorts → ∀ x,
        (s.exch p).opens.find? (fun x => x.sq == mLo m && x.t3.isSome) = some x →
        let a : Int := (x.t2 : Int) - x.t1
        let b : Int := (tsScalar (mBody m) : Int) - x.t3.getD 0
        let far := decide (64 ≤ s.servo.acq) && !(s.exch p).delays.isEmpty &&
          farDelay (s.f DELAY_WIN) (s.exch p).delays ((a + b) / 2)
        let bad := rep || x.replayed || decide (x.at_ + 3 * s.syncInterval p ≤ s.beat.n) || far
        ∃ t, exec (.resp p m mark rep) s = .next t ∧
            (t.exch p).opens = (s.exch p).opens.filter (fun y => y.sq != mLo m) ∧
          (bad = true → t.rn EXCH_DISCARD = (s.rn EXCH_DISCARD + one) % 2 ^ 32 ∧ (t.exch p).delays = (s.exch p).delays ∧
            sameRegs [EXCH_DISCARD] u t) ∧
          (bad = false → (t.exch p).delays = ((a + b) / 2 :: (s.exch p).delays).take 64 ∧
            t.rn EXCH_DISCARD = s.rn EXCH_DISCARD ∧
            ((s.feeds p && !s.isRoot) = true → t.rn EXCH_USED = (s.rn EXCH_USED + 1) % 2 ^ 32 ∧
              t.r64 SERVO_OFFSET = unsignedOf 48 ((a - b) / 2 - asymOf x.asym) ∧
              (s.frozenTime = true → t.r64 TIME_INCR = s.r64 TIME_INCR ∧ t.time = s.time) ∧
              (s.frozenTime = false → 2 ^ 40 - s.clampUnits ≤ t.r64 TIME_INCR ∧
                  t.r64 TIME_INCR ≤ 2 ^ 40 + s.clampUnits)) ∧
            ((s.feeds p && !s.isRoot) = false → t.rn EXCH_USED = s.rn EXCH_USED ∧
                t.r64 SERVO_OFFSET = s.r64 SERVO_OFFSET)))) ∧
    let old := fun (x : OpenEx) => decide (x.at_ + 3 * s.syncInterval p ≤ s.beat.n)
    ∃ t, exec (.exchangeTimeout p) s = .next t ∧ (t.exch p).opens = (s.exch p).opens.filter (fun x => !old x) ∧
      t.rn EXCH_DISCARD = (s.rn EXCH_DISCARD + one * ((s.exch p).opens.filter old).length) % 2 ^ 32 ∧
      sameRegs [EXCH_DISCARD] s t ∧ t.time = s.time

/-- SETTLE_DONE with LOCKED set and SETTLED clear sets SETTLED and raises TIME_CAUSE bit 2; else it changes nothing. At
a Krasesta with the main part answering and no load running, UTC_CLAIM_WRITE stores the three plain fields of
NET_CTRL; PORT_EN written 0 takes NET_LINK_UP down with NET_CAUSE bit 3. Where the conditions of a claim hold it
also sets UTC_CLAIM and the two UTC_VALID bits and notes the candidate in use; otherwise it raises NET_CAUSE bit 2
and leaves those three bits. LINK_CHANGE sets NET_LINK_UP to the lock (0 with PORT_EN 0 or in TADPOLE) and raises
NET_CAUSE bit 3 on a change only; MOD_CHANGE stores the three status lines and raises bit 4 on a change only. No
other register bit changes. At a die the last three commands change nothing. The model's choice: a command whose
trigger does not hold changes nothing (log entry 8). (03_hall_time.md, 04_network_time.md) -/
def Obligations.LockAndUtc : Prop :=
  ∀ s : State,
    (s.bit LOCKED = true → s.bit SETTLED = false → ∃ t, exec .settleDone s = .next t ∧ t.bit SETTLED = true ∧
      t.bit (bitF TIME_CAUSE 2) = true ∧ onlyRegs s t ∧ sameBits [SETTLED, bitF TIME_CAUSE 2] s t) ∧
    ((s.bit LOCKED && !s.bit SETTLED) = false → exec .settleDone s = .next s) ∧
    (s.part.isK = true → s.mainOn = true → s.bit LOAD_BUSY = false → ∀ v : Word,
      let drop := s.bit NET_LINK_UP && !bitOf v.toNat 0
      ∃ t, exec (.utcClaimWrite v) s = .next t ∧ t.f ⟨NET_CTRL, 0, 3⟩ = v.toNat % 8 ∧
        t.bit NET_LINK_UP = (s.bit NET_LINK_UP && !drop) ∧
          t.bit (bitF NET_CAUSE 3) = (s.bit (bitF NET_CAUSE 3) || drop) ∧
        (s.utcOk = true → t.bit UTC_CLAIM = true ∧ t.bit HT_UTC_VALID = true ∧ t.bit UTC_VALID = true ∧
          t.clk = { s.clk with claimSel := s.f SEL_ACTIVE } ∧
          sameBits [⟨NET_CTRL, 0, 3⟩, NET_LINK_UP, bitF NET_CAUSE 3, UTC_CLAIM, HT_UTC_VALID, UTC_VALID] s t) ∧
        (s.utcOk = false → t.bit (bitF NET_CAUSE 2) = true ∧ onlyRegs s t ∧
          sameBits [⟨NET_CTRL, 0, 3⟩, NET_LINK_UP, bitF NET_CAUSE 3, bitF NET_CAUSE 2] s t)) ∧
    (s.part.isK = true → ∀ up : Bool, let b := up && s.bit PORT_EN && !s.inTadpole
      (s.bit NET_LINK_UP = b → exec (.linkChange up) s = .next s) ∧
      (s.bit NET_LINK_UP ≠ b → ∃ t, exec (.linkChange up) s = .next t ∧ t.bit NET_LINK_UP = b ∧
          t.bit (bitF NET_CAUSE 3) = true ∧
        onlyRegs s t ∧ sameBits [NET_LINK_UP, bitF NET_CAUSE 3] s t)) ∧
    (s.part.isK = true → ∀ st : BitVec 3,
      (s.f ⟨MOD_STATUS, 0, 3⟩ = st.toNat → exec (.modChange st) s = .next s) ∧
      (s.f ⟨MOD_STATUS, 0, 3⟩ ≠ st.toNat → ∃ t, exec (.modChange st) s = .next t ∧ t.f ⟨MOD_STATUS, 0, 3⟩ = st.toNat ∧
        t.bit (bitF NET_CAUSE 4) = true ∧ onlyRegs s t ∧ sameBits [⟨MOD_STATUS, 0, 3⟩, bitF NET_CAUSE 4] s t)) ∧
    (s.part.isK = false → ∀ (v : Word) (up : Bool) (st : BitVec 3), exec (.utcClaimWrite v) s = .next s ∧
      exec (.linkChange up) s = .next s ∧ exec (.modChange st) s = .next s)

/-- An edge that its source does not give (none at source 0; a falling one but at a TI input whose TI_CFG takes it)
changes nothing, and none does while the main part does not answer. An edge less than 16 ns after the last accepted
edge of its source changes no channel's runtime, and counts in the upper half of DROP_COUNT of each channel in a
block that listens to the source, saturating. Any other becomes the last accepted edge of its source; a channel that
is in no block keeps its runtime and count. On a channel in a block of MODE 0 a START edge becomes the open start,
and a STOP edge ends it and gives the sample stop minus start where one is open; of MODE 1 each START edge becomes
the open start and gives the sample since the one before; of MODE 2 the sample is the value itself, and of MODE 3
the edge minus the nearest multiple of PHASE_MOD, the lower one of two at the same distance (the model's choice, log
entry 160); an edge of another source changes nothing there. A sample beyond 1 s counts in the lower half of
DROP_COUNT, any other is shown in CH_LAST, and adds to the sum and the count of its block, or, as the last of it,
sets DONE, raises the channel's cause, writes the mean, rounded to nearest even, and without CONT, as it stands then
(the model's choice, log entry 118), clears BUSY. With the main part answering and no load running: CH_GO without
ABORT on a channel whose sources suit its mode sets BUSY alone in CH_STATUS, clears the count and the drop counts,
and starts a block of 2^K samples with CH_SRC and PHASE_MOD as they stand (the model's choice for CH_SRC, log entry
159); on another it sets CFG_ERR, clears BUSY and keeps the runtime. CH_ABORT clears BUSY and CONT; CH_GO with ABORT
is CH_ABORT. Each stores K where it is at most 20. No register bit outside those named changes, and a channel number
the part does not have does nothing. (03_hall_time.md) -/
def Obligations.EdgeMeasurement : Prop :=
  ∀ s : State,
    (∀ (src : Nat) (t : Int) (fall : Bool), (s.part.isK = false → s.edgeTaken src fall = (src != 0 && !fall)) ∧
      s.edgeTaken 0 fall = false ∧ ((s.mainOn && s.edgeTaken src fall) = false →
        exec (.tdcEdge src ⟨t, fall⟩) s = .next s) ∧
      ((s.mainOn && s.edgeTaken src fall) = true → tooSoon (tget (fun _ => none) s.edges src) t = true → ∃ u,
        exec (.tdcEdge src ⟨t, fall⟩) s = .next u ∧ u.edges = s.edges ∧ ∀ c, c < s.numCh →
          let D : Fld := ⟨s.ch c 0x34, 16, 16⟩
          u.chan c = s.chan c ∧ u.f D = if s.chListens src c then min 0xFFFF (s.f D + 1) else s.f D) ∧
      ((s.mainOn && s.edgeTaken src fall) = true → tooSoon (tget (fun _ => none) s.edges src) t = false → ∃ u,
        exec (.tdcEdge src ⟨t, fall⟩) s = .next u ∧ tget (fun _ => none) u.edges src = some t ∧ ∀ c, c < s.numCh →
          let x := s.chan c
          let busy := s.bit (bitF (s.ch c 8) 0)
          let k := s.rn (s.ch c 0xC)
          let m := bitsOf x.src 16 2
          let opens := src == bitsOf x.src 0 8
          let mine := opens || (src == bitsOf x.src 8 8 && m == 0)
          let start : Option Int := if !opens then none else if m ≤ 1 then some t else x.start
          let smp : Option Int :=
            if !opens || m == 1 then x.start.map (fun e => t - e)
            else if m = 0 then none
            else if m = 2 then some t
            else some (phaseOf x.phaseMod t)
          ((busy && mine) = false → u.chan c = x ∧ u.rn (s.ch c 0xC) = k) ∧
          (busy = true → mine = true → smp = none → u.chan c = { x with start := start } ∧ u.rn (s.ch c 0xC) = k) ∧
          (busy = true → mine = true → ∀ v, smp = some v →
            (256 * 10 ^ 12 < v.natAbs → u.chan c = { x with start := start } ∧
              u.f ⟨s.ch c 0x34, 0, 16⟩ = min 0xFFFF (s.f ⟨s.ch c 0x34, 0, 16⟩ + 1)) ∧
            (¬ 256 * 10 ^ 12 < v.natAbs → u.r64 (s.ch c 0x38) = unsignedOf 64 v ∧
              (k + 1 < x.n → u.rn (s.ch c 0xC) = (k + 1) % 2 ^ 32 ∧ (u.chan c).start = start ∧
                (u.chan c).sum = x.sum + BitVec.ofInt 128 v) ∧
              (x.n ≤ k + 1 → u.bit (bitF (s.ch c 8) 1) = true ∧ u.bit (bitF s.tdcBase c) = true ∧
                u.r64 (s.ch c 0x10) = unsignedOf 64 (roundEven (x.sum + BitVec.ofInt 128 v).toInt x.n) ∧
                (s.bit (bitF (s.ch c 4) 9) = false → u.bit (bitF (s.ch c 8) 0) = false)))))) ∧
    (s.mainOn = true → s.bit LOAD_BUSY = false → ∀ (c : Nat) (v : Word),
      (¬ c < s.numCh → exec (.chGo c v) s = .next s ∧ exec (.chAbort c v) s = .next s) ∧
      (c < s.numCh → let K : Fld := ⟨s.ch c 4, 0, 5⟩
        let k := if v.toNat % 32 ≤ 20 then v.toNat % 32 else s.f K
        (bitOf v.toNat 8 = true → exec (.chGo c v) s = exec (.chAbort c v) s) ∧
        (bitOf v.toNat 8 = false → s.chOk c = true → ∃ t, exec (.chGo c v) s = .next t ∧ t.rn (s.ch c 8) = 1 ∧
          t.rn (s.ch c 0xC) = 0 ∧ t.rn (s.ch c 0x34) = 0 ∧ t.f K = k ∧ t.bit (bitF (s.ch c 4) 9) = bitOf v.toNat 9 ∧
          t.chan c = { phaseMod := s.rn (s.ch c 0x40), src := s.rn (s.ch c 0), n := 2 ^ k } ∧
          sameBits [K, bitF (s.ch c 4) 9, wordF (s.ch c 8), wordF (s.ch c 0xC), wordF (s.ch c 0x34)] s t) ∧
        (bitOf v.toNat 8 = false → s.chOk c = false → ∃ t, exec (.chGo c v) s = .next t ∧
            t.bit (bitF (s.ch c 8) 3) = true ∧
          t.bit (bitF (s.ch c 8) 0) = false ∧ t.f K = k ∧ onlyRegs s t ∧
          sameBits [K, bitF (s.ch c 4) 9, bitF (s.ch c 8) 3, bitF (s.ch c 8) 0] s t) ∧
        ∃ t, exec (.chAbort c v) s = .next t ∧ t.bit (bitF (s.ch c 8) 0) = false ∧ t.bit (bitF (s.ch c 4) 9) = false ∧
          t.f K = k ∧ onlyRegs s t ∧ sameBits [K, bitF (s.ch c 4) 9, bitF (s.ch c 8) 0] s t))

/-- At a Krasesta: a frame that arrives with the link down or to an address that is not accepted changes nothing; an
accepted one with a bad FCS, with a length outside 60 to 9,212, or with no receive descriptor is dropped: its own
count goes up, NET_CAUSE bit 5 is raised and no other register bit changes. Any other is counted and completes the
RX3 descriptor: its bytes, cut to the buffer, go to the buffer, and the words written back hold its length, its PTP
word, the reading at its timestamp point less RX_LAT_ADJ, and the flags of hall time with TRUNC. With no step armed
that reading is hall time as the cycle stands plus the place in the cycle, with PSTEP as PSTEP_SEEN. A TX3
descriptor completes the same way: with the link down as LINK_DOWN, with a length outside 60 to 9,212 as LEN_ERR,
both without a stamp and without a frame; any other is counted and sends exactly the bytes of its buffer and their
FCS, and its stamp, if one was asked for, is the reading plus TX_LAT_ADJ. With no TX3 descriptor nothing changes. At
a die neither command does anything. The model's choices: which groups and encapsulations are those of PTP, and the
order in which a frame is dropped (log entry 88); LINK_DOWN before LEN_ERR (log entry 89); a stamp moved below 0
reads 0 (log entry 122); the words of a write-back that carry nothing are 0 (log entry 123); the bytes of a buffer
that its read does not return are sent as 0 (log entry 124); VERSION, MSG_TYPE and SEQ_ID of a frame that is no PTP
frame are 0 (log entry 125). (04_network_time.md) -/
def Obligations.ManagementFrames : Prop :=
  ∀ (s : State) (frac : Nat), let r := s.stampRead frac
    (s.clk.pstep = none → r = (s.now + frac % 65536, s.bit PSTEP_SEEN)) ∧
    (s.part.isK = true →
      (∀ (frame : List Byte) (ok : Bool),
        ((s.bit NET_LINK_UP && s.netAccepts frame) = false → exec (.frameReceive frame ok frac) s = .next s) ∧
        ((s.bit NET_LINK_UP && s.netAccepts frame) = true →
          let long := decide (frame.length < 60) || decide (9212 < frame.length)
          let count := if !ok then 0x400038 else if long then 0x40003C else 0x400040
          ((!ok || long || (s.takeDesc 7 []).isNone) = true → ∃ t, exec (.frameReceive frame ok frac) s = .next t ∧
            t.rn count = (s.rn count + 1) % 2 ^ 32 ∧ t.bit (bitF NET_CAUSE 5) = true ∧ onlyRegsEv s t ∧
            sameBits [wordF count, bitF NET_CAUSE 5] s t) ∧
          (ok = true → long = false → ∀ d, s.takeDesc 7 [] = some d →
            ∃ t, exec (.frameReceive frame ok frac) s = .next t ∧ wroteBack s t 7 ∧ t.host.dmaAt = descBuf d ∧
              t.host.dma = frame.take (d.getD 2 0 % 2 ^ 14) ∧
              t.host.wb = [frame.length, ptpWord frame] ++ stampWords (stampMove r.1 (-(signed 32 (s.rn 0x40001C)))) ++
                [s.netFlags true r.2 (if d.getD 2 0 % 2 ^ 14 < frame.length then 4 else 0)] ∧
              t.rn 0x400034 = (s.rn 0x400034 + 1) % 2 ^ 32 ∧
              sameBits [wordF 0x400034, ringHead 7, wordF (ringDone 7), bitF HST_CAUSE 7] s t))) ∧
      ∀ desc data : List Byte,
        (s.takeDesc 3 desc = none → exec (.ethTransmitDescriptor ⟨desc, data⟩ frac) s = .next s) ∧
        ∀ d, s.takeDesc 3 desc = some d →
          let w2 := d.getD 2 0
          let len := w2 % 2 ^ 14
          let stop := if !s.bit NET_LINK_UP then 1 else if len < 60 ∨ 9212 < len then 2 else 0
          let stamp := if stop = 0 ∧ bitOf w2 30 then stampMove r.1 (signed 32 (s.rn 0x400018)) else 0
          ∃ t, exec (.ethTransmitDescriptor ⟨desc, data⟩ frac) s = .next t ∧ wroteBack s t 3 ∧ t.host.dma = [] ∧
            t.host.wb = [w2 % 2 ^ 31 - w2 % 2 ^ 30 + len, d.getD 3 0 % 2 ^ 16] ++ stampWords stamp ++
              [s.netFlags (decide (stop = 0) && bitOf w2 30) r.2 stop] ∧
            t.rn 0x400030 = (s.rn 0x400030 + if stop = 0 then 1 else 0) % 2 ^ 32 ∧
            (stop = 0 → len ≤ data.length → t.outs.frame = data.take len ++ frameFcs (data.take len)) ∧
            (stop ≠ 0 → t.outs = s.outs) ∧
                sameBits [wordF 0x400030, ringHead 3, wordF (ringDone 3), bitF HST_CAUSE 3] s t) ∧
    (s.part.isK = false → ∀ (a b : List Byte) (ok : Bool), exec (.frameReceive a ok frac) s = .next s ∧
      exec (.ethTransmitDescriptor ⟨a, b⟩ frac) s = .next s)

/-- A LEAP_CTRL write while the main part does not answer changes nothing. START alone, under the conditions of R110,
arms the root for n0 (START_STEP, or STEP_COUNT + 1 with RESUME) with the launch time LEAP_T0 + n0 LEAP_PERIOD: the
node is in RUNNING with its launch pending, its vote is cast, without RESUME LAST_COMMIT is n0 - 1 (-1 for n0 = 0)
and the targets are the first ones of the plan. START_T and START_N leave on every unfenced down port and on the
twin link, and the READY of a root without children on its up ports, which a root has none of. Under any other
condition START raises START_REFUSED and changes no other register bit. HALT_REQ and STOP_REQ set HALT_PEND and
STOP_PEND at the root and raise START_REFUSED elsewhere; CANCEL_STOP clears STOP_PEND; none of the three changes
another register bit. Bits written together act one after another in the order START, HALT_REQ, STOP_REQ,
CANCEL_STOP, whichever command carries them. A root whose counters have changed since the last task switch arms all
the same (the model's choice, log entry 162). Also the model's choice: the guard times are judged by any depth of
the hall (log entry 16). (05_leaps.md) -/
def Obligations.RunRequests : Prop :=
  ∀ (s : State) (v : Word),
    let then_ := fun (c : Bool) (i : Instr) (o : Host.Outcome State Fault Refusal) => match o with
      | .next t => if c then exec i t else .next t
      | x => x
    (s.mainOn = false → exec (.start v) s = .next s ∧ exec (.haltReq v) s = .next s ∧ exec (.stopReq v) s = .next s ∧
      exec (.cancelStop v) s = .next s) ∧
    (s.mainOn = true →
      (∀ r : Bool, let n0 := if r then (s.step + 1) % 2 ^ 64 else s.r64 START_STEP
        let T := tsOf (tsScalar (s.r96 LEAP_T0) + n0 * s.r64 LEAP_PERIOD * 65536)
        let w : Word := if r then 0x11 else 1
        (s.startOk r = true → ∃ t, exec (.start w) s = .next t ∧ armedFor n0 T r s t ∧
          (r = false → t.r64 LAST_COMMIT = stepBefore n0) ∧
          sent (fun p => onPorts s.downSet [leapMsg kSTART_T (b2n r) n0 T, leapMsg kSTART_N 0 n0 n0] p ++
            onPorts (s.upActive ++ s.upStandby) (if (s.kidPorts.filter (fun p => !s.fenced p)).isEmpty then [leapMsg kREADY 0 n0 0] else []) p) s t) ∧
        (s.startOk r = false → ∃ t, exec (.start w) s = .next t ∧ t.bit (bitF LEAP_CAUSE 3) = true ∧ onlyRegs s t ∧
          sameBits [bitF LEAP_CAUSE 3] s t)) ∧
      (∃ t, exec (.haltReq 4) s = .next t ∧ onlyRegs s t ∧
        (s.isRoot = true → t.bit HALT_PEND = true ∧ sameBits [HALT_PEND] s t) ∧
        (s.isRoot = false → t.bit (bitF LEAP_CAUSE 3) = true ∧ sameBits [bitF LEAP_CAUSE 3] s t)) ∧
      (∃ t, exec (.stopReq 2) s = .next t ∧ onlyRegs s t ∧
        (s.isRoot = true → t.bit STOP_PEND = true ∧ sameBits [STOP_PEND] s t) ∧
        (s.isRoot = false → t.bit (bitF LEAP_CAUSE 3) = true ∧ sameBits [bitF LEAP_CAUSE 3] s t)) ∧
      (∃ t, exec (.cancelStop 8) s = .next t ∧ t.bit STOP_PEND = false ∧ onlyRegs s t ∧ sameBits [STOP_PEND] s t) ∧
      exec (.start v) s = then_ (bitOf v.toNat 3) (.cancelStop 8) (then_ (bitOf v.toNat 1) (.stopReq 2)
        (then_ (bitOf v.toNat 2) (.haltReq 4) (exec (.start (if bitOf v.toNat 4 then 0x11 else 1)) s))) ∧
      (bitOf v.toNat 0 = true → exec (.haltReq v) s = exec (.start (v ||| 4)) s ∧
          exec (.stopReq v) s = exec (.start (v ||| 2)) s ∧
        exec (.cancelStop v) s = exec (.start (v ||| 8)) s) ∧
      (bitOf v.toNat 0 = false →
        exec (.haltReq v) s = then_ (bitOf v.toNat 3) (.cancelStop 8) (then_ (bitOf v.toNat 1) (.stopReq 2) (exec (.haltReq 4) s)) ∧
        exec (.stopReq v) s = (if bitOf v.toNat 2 then exec (.haltReq (v ||| 2)) s
          else then_ (bitOf v.toNat 3) (.cancelStop 8) (exec (.stopReq 2) s)) ∧
        exec (.cancelStop v) s = (if bitOf v.toNat 2 then exec (.haltReq (v ||| 8)) s
          else if bitOf v.toNat 1 then exec (.stopReq (v ||| 8)) s else exec (.cancelStop 8) s)))

/-- START_T_START_N of a pair on the port from above, at a node that takes part and is not the root, forwards the pair
down. A node in CHORUS or STOPPED with its plan loaded, and for RESUME stopped by STOP before step n0, arms for n0
with the time of START_T, and its READY goes up if it has no children; a hall twin sets LAST_COMMIT to n0 - 1
without RESUME. A node that cannot arm keeps its state and forms FAIL 4 of n0. (That a changed counter since the
last task switch bars a start without RESUME is R152.) One message alone, or a pair elsewhere, raises LEAP_SEQ_ERR
and no other register bit; what Table LNK-10 does not let in is discarded. At a decision instant the armed root
without GO held, or with a gecko HALT waiting, sends one message down: HALT with the first cause that holds, in the
order HALT_REQ, FAIL_SEEN, gecko HALT, skips used up, and enters STOPPED; else STOP if the step may run and STOP_REQ
waits, and enters STOPPED; else GO if the step may run; else SKIP, which moves the launch by LEAP_PERIOD. A hall
twin that has taken over sends HALT 2. Any other node, or an earlier time, does nothing. The root's own GO and SKIP
leave its MIN_LEAD and LEAD_SHORT (log entry 128), and with GO held a gecko HALT of the root is sent at the decision
of the next launch (log entry 101): both are the model's choices. At the orphan limit a node sets ORPHAN with
ORPHAN_SET, keeps its launch, its vote and its steps, and outside TADPOLE fences itself. A leap fires at an armed
node whose reading has reached the launch time with GO held and no gecko HALT: STEP_COUNT becomes the pending step,
GO_HELD clears, the next launch lies LEAP_PERIOD later, FIRE is raised, and READY_TARGET grows by READY_STRIDE but
at the first leap of a run without RESUME; beyond 0xFFFFFFFF it stays, and READY_RANGE is raised. Also the model's
choices: an instant acts once hall time has reached it (log entry 110); a command whose trigger does not hold
changes nothing (log entry 8). (05_leaps.md) -/
def Obligations.LaunchEvents : Prop :=
  ∀ s : State,
    let e := tsScalar (s.r96 NEXT_LAUNCH)
    let m := (s.step + 1) % 2 ^ 64
    let down := fun (x : Msg) => onPorts s.downSet [x]
    (∀ (p : Nat) (a b : Msg), isLeap a kSTART_T = true → isLeap b kSTART_N = true → let n0 := mBody b % 2 ^ 64
      let r := bitOf (mArg a) 0
      let can := (s.nst == .chorus || s.nst == .stopped) && s.bit PLAN_VALID && !s.bit LOAD_BUSY &&
        (r || !s.cnt.dirty) &&
        (!r || s.nst == .stopped && s.bit STOP_ENTRY && m == n0)
      let err : Prop := (∃ t, exec (.startTStartN p (some a) (some b)) s = .next t ∧ t.bit (bitF LEAP_CAUSE 8) = true ∧
        onlyRegsEv s t ∧ sameBits [bitF LEAP_CAUSE 8] s t);
      (s.acceptsCtl p a = false → exec (.startTStartN p (some a) (some b)) s =
          .next ((s.discardCtl p a).discardCtl p b)) ∧
      (s.acceptsCtl p a = true →
        (s.selPort.contains p && !s.bit ORPHAN && s.nst != .fenced && !s.inTadpole && !s.isRoot) = false → err) ∧
      (s.acceptsCtl p a = true → (s.selPort.contains p && !s.bit ORPHAN && s.nst != .fenced && !s.inTadpole &&
          !s.isRoot) = true →
        (can = true → ∃ t, exec (.startTStartN p (some a) (some b)) s = .next t ∧
            armedFor n0 (tsOf (tsScalar (mBody a))) r s t ∧
          (r = false → t.r64 LAST_COMMIT = if s.isTwin && s.level == 3 then stepBefore n0 else s.r64 LAST_COMMIT)) ∧
        (can = true → r = false → 0 < s.f COMMIT_EVERY → ∃ t, exec (.startTStartN p (some a) (some b)) s = .next t ∧
          sent (fun q => onPorts s.downSet [a, b] q ++ onPorts (s.upActive ++ s.upStandby)
            (if (s.kidPorts.filter (fun p => !s.fenced p)).isEmpty then [leapMsg kREADY 0 n0 0] else []) q) s t) ∧
        (can = false → ∃ t, exec (.startTStartN p (some a) (some b)) s = .next t ∧ t.nst = s.nst ∧ t.armed = s.armed ∧
          (s.atHall = false → s.leap.failSteps.contains (n0 % 2 ^ 16) = false → t.bit (bitF LEAP_CAUSE 9) = true ∧
            sent (fun q => onPorts s.downSet [a, b] q ++
              onPorts (s.upActive ++ s.upStandby) [leapMsg kFAIL 4 n0 (s.f NODE_ID * 2 ^ 76)] q) s t)))) ∧
    (∀ (p : Nat) (a : Msg), exec (.startTStartN p none none) s = .next s ∧
      (isLeap a kSTART_T = true → s.acceptsCtl p a = false →
          exec (.startTStartN p (some a) none) s = .next (s.discardCtl p a)) ∧
      (isLeap a kSTART_N = true → s.acceptsCtl p a = false →
          exec (.startTStartN p none (some a)) s = .next (s.discardCtl p a)) ∧
      (isLeap a kSTART_T = true → s.acceptsCtl p a = true → ∃ t, exec (.startTStartN p (some a) none) s = .next t ∧
          t.bit (bitF LEAP_CAUSE 8) = true ∧
        onlyRegsEv s t ∧ sameBits [bitF LEAP_CAUSE 8] s t) ∧
      (isLeap a kSTART_N = true → s.acceptsCtl p a = true → ∃ t, exec (.startTStartN p none (some a)) s = .next t ∧
          t.bit (bitF LEAP_CAUSE 8) = true ∧
        onlyRegsEv s t ∧ sameBits [bitF LEAP_CAUSE 8] s t)) ∧
    (let d := (e : Int) + (if s.bit GO_HELD then (s.r64 LEAP_PERIOD : Int) * 65536 else 0) - (s.f READY_GUARD : Int) * 65536
      let due := s.armed && s.bit LAUNCH_PEND && decide (d ≤ (s.now : Int))
      let mine := due && s.isRoot && (!s.bit GO_HELD || s.leap.rootLocal)
      let relief := due && !s.isRoot && s.isTwin && s.bit TAKEN && s.level == 3
      let go := s.readyAll && !s.commitHeld m
      let cause := if relief then 2 else if s.bit HALT_PEND then 3 else if s.bit FAIL_SEEN then 2
        else if s.leap.rootLocal then 4 else if !go && s.f SKIP_RUN == s.f SKIP_LIMIT then 1 else 0
      let k := (s.step + (if s.bit GO_HELD then 2 else 1)) % 2 ^ 64;
      ((mine || relief) = false → exec .decisionInstant s = .next s) ∧
      ((mine || relief) = true → cause ≠ 0 → ∃ t, exec .decisionInstant s = .next t ∧ t.nst = .stopped ∧
          t.armed = false ∧
        t.bit HALTED = true ∧ t.f HALT_CAUSE = cause ∧ t.bit HALT_PEND = false ∧ t.bit STOP_PEND = false ∧
        t.bit LAUNCH_PEND = false ∧ t.bit GO_HELD = false ∧ t.bit VOTE_OUT = false ∧
        sent (down (leapMsg kHALT cause k (tsOf d.toNat))) s t) ∧
      (mine = true → cause = 0 → go = true → s.bit STOP_PEND = true → ∃ t, exec .decisionInstant s = .next t ∧
          t.nst = .stopped ∧
        t.armed = false ∧ t.bit STOP_ENTRY = true ∧ t.bit HALTED = s.bit HALTED ∧ t.bit STOP_PEND = false ∧
        t.bit LAUNCH_PEND = false ∧ t.bit VOTE_OUT = false ∧ sent (down (leapMsg kSTOP 0 m (tsOf d.toNat))) s t) ∧
      (mine = true → cause = 0 → go = true → s.bit STOP_PEND = false → ∃ t, exec .decisionInstant s = .next t ∧
        t.bit GO_HELD = true ∧ t.bit VOTE_OUT = false ∧ t.f SKIP_RUN = 0 ∧ sameBits [GO_HELD, VOTE_OUT, SKIP_RUN] s t ∧
        sent (down (leapMsg kGO 0 m (s.r96 NEXT_LAUNCH))) s t ∧
        t = { s with regs := t.regs, ports := t.ports, leap := { s.leap with votes := [], upVoted := false } }) ∧
      (mine = true → cause = 0 → go = false → let T := tsOf (e + s.r64 LEAP_PERIOD * 65536)
        ∃ t, exec .decisionInstant s = .next t ∧ t.r96 NEXT_LAUNCH = T ∧
          t.r64 SKIPS = (s.r64 SKIPS + 1) % 2 ^ 64 ∧ t.f SKIP_RUN = (s.f SKIP_RUN + 1) % 2 ^ SKIP_RUN.w ∧
          t.bit (bitF LEAP_CAUSE 1) = true ∧ sent (down (leapMsg kSKIP 0 m T)) s t ∧
          sameBits [wordF NEXT_LAUNCH, wordF (NEXT_LAUNCH + 4), wordF (NEXT_LAUNCH + 8), wordF SKIPS,
            wordF (SKIPS + 4), SKIP_RUN,
            bitF LEAP_CAUSE 1] s t ∧
          t = { s with regs := t.regs, beat := s.beat.noted t.beat, ports := t.ports, perf := t.perf })) ∧
    (let limit := s.armed && s.bit LAUNCH_PEND && !s.bit GO_HELD && decide (e ≤ s.now + leapMinLead * 65536);
      (limit = false → exec .orphanLimit s = .next s) ∧
      (limit = true → ∃ t, exec .orphanLimit s = .next t ∧ t.bit ORPHAN = true ∧ t.bit (bitF LEAP_CAUSE 6) = true ∧
        t.bit LAUNCH_PEND = true ∧ t.bit VOTE_OUT = s.bit VOTE_OUT ∧ t.step = s.step ∧
          t.r96 NEXT_LAUNCH = s.r96 NEXT_LAUNCH ∧
        (s.inTadpole = false → t.nst = .fenced ∧ (s.nst ≠ .fenced → t.armed = false)))) ∧
    (let fires := s.armed && s.bit LAUNCH_PEND && s.bit GO_HELD && !s.bit GECKO_HALT && decide (e ≤ s.now)
      let target := s.rn READY_TARGET + if s.leap.firstLeap then 0 else s.rn READY_STRIDE;
      (fires = false → exec .leapFire s = .next s) ∧
      (fires = true → ∃ t, exec .leapFire s = .next t ∧ t.step = m ∧ t.bit GO_HELD = false ∧ t.nst = s.nst ∧
        t.r96 NEXT_LAUNCH = tsOf (e + s.r64 LEAP_PERIOD * 65536) ∧ t.bit (bitF LEAP_CAUSE 0) = true ∧
        (target < 2 ^ 32 → t.rn READY_TARGET = target) ∧
        (¬ target < 2 ^ 32 → t.rn READY_TARGET = s.rn READY_TARGET ∧ t.bit (bitF LEAP_CAUSE 7) = true) ∧
        (target < 2 ^ 32 → s.leap.voteOff = false → t.rn READY_TARGET ≤ t.refVal (t.rn READY_SEL) →
            t.bit VOTE_OUT = true)))

/-- A message that is no LEAP message of the named kind changes nothing. At a node that takes part and is not the root,
a message on the port from above is only forwarded down once a gecko HALT is applied. Otherwise, at the orphan
limit, the node sets ORPHAN and LEAP_SEQ_ERR instead. Otherwise a message of its pending step, armed and with a
launch pending, is forwarded down and acted on: GO takes the launch time and holds GO, with the votes and the run of
skips cleared; SKIP takes the launch time and counts a skip; both note the smallest lead in MIN_LEAD and raise
LEAD_SHORT where the lead is under LEAP_LEAD; HALT and STOP leave the node in STOPPED, with leaps not armed and the
launch dropped, HALT with HALTED and its cause, STOP with STOP_ENTRY. Any other message raises LEAP_SEQ_ERR and no
other register bit. A message that Table LNK-10 does not let in is only discarded: FENCE_DROP of the port counts it,
and LEAP_SEQ_ERR is raised where its port or the state forbids it. That the orphan limit comes before a message of
the same cycle is the model's choice (log entry 161); that a HALT where leaps are not armed is discarded like the
others is its reading (log entry 32). (05_leaps.md) -/
def Obligations.DownwardLeapMessages : Prop :=
  ∀ (s : State) (p : Nat) (m : Msg),
    let ok := s.acceptsCtl p m
    let part := !s.isRoot && !s.bit ORPHAN && s.nst != .fenced && !s.inTadpole
    let above := part && s.selPort.contains p
    let limit := s.armed && s.bit LAUNCH_PEND && !s.bit GO_HELD &&
      decide (tsScalar (s.r96 NEXT_LAUNCH) ≤ s.now + leapMinLead * 65536)
    let acts := ok && above && !s.leap.relay && !limit && s.armed && s.bit LAUNCH_PEND && mLo m == (s.step + 1) % 2 ^ 16
    let e := tsScalar (mBody m)
    let N := [wordF NEXT_LAUNCH, wordF (NEXT_LAUNCH + 4), wordF (NEXT_LAUNCH + 8), wordF MIN_LEAD, bitF LEAP_CAUSE 13,
      SKIP_RUN];
    (∀ c, (c = .go p m ∧ isLeap m kGO = true) ∨ (c = .skip p m ∧ isLeap m kSKIP = true) ∨
        (c = .halt p m ∧ isLeap m kHALT = true) ∨
        (c = .stop p m ∧ isLeap m kSTOP = true) →
      (ok = false → exec c s = .next (s.discardCtl p m)) ∧
      (ok = true → above = true → s.leap.relay = true → ∃ t, exec c s = .next t ∧ t = { s with ports := t.ports } ∧
          sent (onPorts s.downSet [m]) s t) ∧
      (ok = true → (above && s.leap.relay) = false → limit = true → ∃ t, exec c s = .next t ∧ t.bit ORPHAN = true ∧
        t.bit (bitF LEAP_CAUSE 6) = true ∧ t.bit (bitF LEAP_CAUSE 8) = true ∧ (s.inTadpole = false → t.nst = .fenced)) ∧
      (ok = true → (above && s.leap.relay) = false → limit = false → acts = false → ∃ t, exec c s = .next t ∧
          t.bit (bitF LEAP_CAUSE 8) = true ∧
        onlyRegsEv s t ∧ sameBits [bitF LEAP_CAUSE 8] s t) ∧
      (acts = true → ∃ t, exec c s = .next t ∧ sent (onPorts s.downSet [m]) s t ∧ t.step = s.step ∧ t.time = s.time ∧
        t.bonded = s.bonded ∧ t.stack = s.stack ∧ t.r64 LAST_COMMIT = s.r64 LAST_COMMIT ∧
          t.r64 PEND_COMMIT = s.r64 PEND_COMMIT ∧
        t.rn READY_TARGET = s.rn READY_TARGET ∧ t.rn COMMIT_TARGET = s.rn COMMIT_TARGET)) ∧
    (acts = true →
      (isLeap m kGO = true → ∃ t, exec (.go p m) s = .next t ∧ t.r96 NEXT_LAUNCH = mBody m ∧ t.bit GO_HELD = true ∧
        t.bit VOTE_OUT = false ∧ t.f SKIP_RUN = 0 ∧ t.rn MIN_LEAD = min (s.rn MIN_LEAD) ((e - s.now) / 65536) ∧
        t.bit (bitF LEAP_CAUSE 13) = (s.bit (bitF LEAP_CAUSE 13) || decide (e < s.now + s.f LEAP_LEAD * 65536)) ∧
        sameBits (GO_HELD :: VOTE_OUT :: N) s t ∧ t = { s with
          regs := t.regs, beat := s.beat.noted t.beat, ports := t.ports,
            leap := { s.leap with votes := [], upVoted := false } }) ∧
      (isLeap m kSKIP = true → ∃ t, exec (.skip p m) s = .next t ∧ t.r96 NEXT_LAUNCH = mBody m ∧
        t.r64 SKIPS = (s.r64 SKIPS + 1) % 2 ^ 64 ∧ t.f SKIP_RUN = (s.f SKIP_RUN + 1) % 2 ^ SKIP_RUN.w ∧
        t.bit (bitF LEAP_CAUSE 1) = true ∧ t.rn MIN_LEAD = min (s.rn MIN_LEAD) ((e - s.now) / 65536) ∧
        t.bit (bitF LEAP_CAUSE 13) = (s.bit (bitF LEAP_CAUSE 13) || decide (e < s.now + s.f LEAP_LEAD * 65536)) ∧
        sameBits (bitF LEAP_CAUSE 1 :: wordF SKIPS :: wordF (SKIPS + 4) :: N) s t ∧ t = { s with
          regs := t.regs, beat := s.beat.noted t.beat, ports := t.ports, perf := t.perf
          leap := { s.leap with skipsInStep := s.leap.skipsInStep + 1 } }) ∧
      (isLeap m kHALT = true → ∃ t, exec (.halt p m) s = .next t ∧ t.nst = .stopped ∧ t.armed = false ∧
          t.bit LAUNCH_PEND = false ∧
        t.bit GO_HELD = false ∧ t.bit VOTE_OUT = false ∧ t.bit HALTED = true ∧ t.f HALT_CAUSE = mArg m ∧
        t.bit (bitF LEAP_CAUSE 5) = true) ∧
      (isLeap m kSTOP = true → ∃ t, exec (.stop p m) s = .next t ∧ t.nst = .stopped ∧ t.armed = false ∧
          t.bit LAUNCH_PEND = false ∧
        t.bit GO_HELD = false ∧ t.bit VOTE_OUT = false ∧ t.bit STOP_ENTRY = true ∧ t.bit HALTED = s.bit HALTED ∧
        t.bit (bitF LEAP_CAUSE 4) = true)) ∧
    (isLeap m kGO = false → exec (.go p m) s = .next s) ∧ (isLeap m kSKIP = false → exec (.skip p m) s = .next s) ∧
    (isLeap m kHALT = false → exec (.halt p m) s = .next s) ∧ (isLeap m kSTOP = false → exec (.stop p m) s = .next s) ∧
    (mType m = 2 → let u := s.discardCtl p m
      u.rn (s.pa p 0x6C) = (s.rn (s.pa p 0x6C) + 1) % 2 ^ 32 ∧
        u.bit (bitF LEAP_CAUSE 8) = (s.bit (bitF LEAP_CAUSE 8) || s.leapStray p m) ∧
      onlyRegsEv s u ∧ sameBits [wordF (s.pa p 0x6C), bitF LEAP_CAUSE 8] s u)

/-- A message that is no LEAP message of the named kind changes nothing. One that Table LNK-10 does not let in is only
discarded. Any other is first compared by the eft entries that its port belongs to, as one that arrives now, and on
a spare port of an eft that is all. On an unfenced down port with leaps armed: a READY of the pending step records
the port among the votes, and sends READY up where it completes the votes of a node that has voted; a FAIL of one of
the three accepted steps is recorded at the root and the hall twin, the first one in FAIL_INFO, and goes up
elsewhere unless one of that step did, when FAIL_DROP counts it; a CACK of the commit that is being combined records
the port, and where it completes the acknowledgements sets LAST_COMMIT at the root and the hall twin and goes up
elsewhere, and the next commit follows. In every other case the message raises LEAP_SEQ_ERR and no other register
bit. The model's choices: a message enters the sums of an eft whichever command brings it (log entry 143); the
command names the first port of a channel (log entry 135). (05_leaps.md) -/
def Obligations.UpwardLeapMessages : Prop :=
  ∀ (s : State) (p : Nat) (m : Msg),
    let open_ := s.use p == 1 && s.armed && !s.fenced p
    let near := mLo m == (s.step + (2 ^ 16 - 1)) % 2 ^ 16 || mLo m == s.step % 2 ^ 16 || mLo m == (s.step + 1) % 2 ^ 16
    let ups := s.upActive ++ s.upStandby
    let add := fun (l : List Nat) => if l.contains p then l else p :: l
    let u := s.eftMsgAt p s.now m;
    (s.acceptsCtl p m = false → ∀ c, (c = .ready p m ∧ isLeap m kREADY = true) ∨
        (c = .fail p m ∧ isLeap m kFAIL = true) ∨
        (c = .cack p m ∧ isLeap m kCACK = true) → exec c s = .next (s.discardCtl p m)) ∧
    (s.eftSides p = [] → u = s) ∧ u = { s with flt := u.flt } ∧
    (s.acceptsCtl p m = true →
    (s.spare p = true → ∀ c, (c = .ready p m ∧ isLeap m kREADY = true) ∨ (c = .fail p m ∧ isLeap m kFAIL = true) ∨
        (c = .cack p m ∧ isLeap m kCACK = true) → exec c s = .next u) ∧
    (isLeap m kREADY = false → exec (.ready p m) s = .next s) ∧
        (isLeap m kFAIL = false → exec (.fail p m) s = .next s) ∧
    (isLeap m kCACK = false → exec (.cack p m) s = .next s) ∧
    (∀ c, (c = .ready p m ∧ isLeap m kREADY = true ∧ (open_ && mLo m == (s.step + 1) % 2 ^ 16) = false) ∨
        (c = .fail p m ∧ isLeap m kFAIL = true ∧ (open_ && near) = false) ∨
        (c = .cack p m ∧ isLeap m kCACK = true ∧ (open_ && mLo m == s.leap.combC % 2 ^ 16) = false) →
      s.spare p = false → ∃ t, exec c s = .next t ∧ t.bit (bitF LEAP_CAUSE 8) = true ∧ onlyRegsEv u t ∧
        sameBits [bitF LEAP_CAUSE 8] s t) ∧
    (s.spare p = false → open_ = true →
      (isLeap m kREADY = true → mLo m = (s.step + 1) % 2 ^ 16 →
        let full := s.bit VOTE_OUT && !s.leap.upVoted && s.leap.kids.all (fun q => (add s.leap.votes).contains q)
        ∃ t, exec (.ready p m) s = .next t ∧
            sent (onPorts ups (if full then [leapMsg kREADY 0 (s.step + 1) 0] else [])) s t ∧
          t = { u with ports := t.ports, leap := { s.leap with votes := add s.leap.votes, upVoted := s.leap.upVoted || full } }) ∧
      (isLeap m kFAIL = true → near = true → let node := bitsOf m.toNat 76 20
        (s.atHall = true → ∃ t, exec (.fail p m) s = .next t ∧ t.bit FAIL_SEEN = true ∧
            t.bit (bitF LEAP_CAUSE 9) = true ∧
          t.rn FAIL_INFO = (if bitOf (s.rn FAIL_INFO) 31 then s.rn FAIL_INFO else 2 ^ 31 + mArg m * 2 ^ 24 + node) ∧
          onlyRegsEv u t ∧ sameBits [FAIL_SEEN, bitF LEAP_CAUSE 9, wordF FAIL_INFO] s t) ∧
        (s.atHall = false → s.leap.failSteps.contains (mLo m) = false → ∃ t, exec (.fail p m) s = .next t ∧
          t.bit (bitF LEAP_CAUSE 9) = true ∧ sameBits [bitF LEAP_CAUSE 9] s t ∧
          sent (onPorts ups [leapMsg kFAIL (mArg m) (mLo m) (node * 2 ^ 76)]) s t ∧
          t = { u with
            regs := t.regs, beat := s.beat.noted t.beat, ports := t.ports, perf := t.perf
            leap := { s.leap with failSteps := mLo m :: s.leap.failSteps } }) ∧
        (s.atHall = false → s.leap.failSteps.contains (mLo m) = true → ∃ t, exec (.fail p m) s = .next t ∧
          t.rn FAIL_DROP = (s.rn FAIL_DROP + 1) % 2 ^ 32 ∧ onlyRegs u t ∧ sameRegs [FAIL_DROP] s t)) ∧
      (isLeap m kCACK = true → mLo m = s.leap.combC % 2 ^ 16 → let c := s.leap.combC
        let full := s.leap.ownCack && s.leap.kids.all (fun q => (add s.leap.cacks).contains q || s.fenced q)
        (full = false → exec (.cack p m) s = .next { u with leap := { s.leap with cacks := add s.leap.cacks } }) ∧
        (full = true → ∃ t, exec (.cack p m) s = .next t ∧
          t.leap = { s.leap with cacks := [], ownCack := false, combC := (c + s.f COMMIT_EVERY) % 2 ^ 64 } ∧
          (s.atHall = true → t.r64 LAST_COMMIT = c % 2 ^ 64 ∧ sameRegs [LAST_COMMIT, LAST_COMMIT + 4] s t ∧
              t.ports = s.ports) ∧
          (s.atHall = false → t.regs = s.regs ∧ sent (onPorts ups [leapMsg kCACK 0 c 0]) s t) ∧
          t = { u with regs := t.regs, ports := t.ports, leap := t.leap }))))

/-- Where the main part answers and no load runs: LAST_COMMIT_WRITE stores the 64-bit value while leaps are not armed
and changes no other register word; with leaps armed it raises CFG_LOCKED and no other register bit. EPOCH_ARM
without CANCEL stores the profile; under the conditions of R129 it sets EPOCH_PEND and notes the instant and the
profile, else it raises EPOCH_REFUSED and leaves what pends. EPOCH_CANCEL without ARM stores the profile, clears
EPOCH_PEND and withdraws the epoch that pends; with none it changes nothing else. SOFTWARE_EPOCH at its instant
clears EPOCH_PEND and, unless a plan epoch of a leap that fires now takes its place with EPOCH_REFUSED, raises
EPOCH_DONE and switches every region of the node to the profile (a rewrite of the profile while it pends changes
nothing, and of bits written together ARM acts before CANCEL: the model's choices, log entries 129 and 5); before
it, or with none pending, it does nothing. While a load runs each write raises CFG_LOCKED alone, and while the main
part does not answer it does nothing. (05_leaps.md, 06_counters_watches.md) -/
def Obligations.CommitAndEpochWrites : Prop :=
  ∀ s : State,
    (∀ (n : StepNo) (v : Word), ∀ c ∈ [Instr.lastCommitWrite n, .epochArm v, .epochCancel v],
      (s.mainOn = false → exec c s = .next s) ∧
      (s.mainOn = true → s.bit LOAD_BUSY = true → ∃ t, exec c s = .next t ∧ t.bit (bitF LEAP_CAUSE 12) = true ∧
          onlyRegs s t ∧
        sameBits [bitF LEAP_CAUSE 12] s t)) ∧
    (s.mainOn = true → s.bit LOAD_BUSY = false →
      (∀ v : StepNo, ∃ t, exec (.lastCommitWrite v) s = .next t ∧ onlyRegs s t ∧
        (s.armed = false → t.r64 LAST_COMMIT = v.toNat ∧ sameRegs [LAST_COMMIT, LAST_COMMIT + 4] s t) ∧
        (s.armed = true → t.bit (bitF LEAP_CAUSE 12) = true ∧ sameBits [bitF LEAP_CAUSE 12] s t)) ∧
      ∀ v : Word, let T := s.r96 EPOCH_TIME
        let ok := tsValid T && decide (s.now + 10000 * 65536 ≤ tsScalar T) && bitOf (s.f PROF_DEFINED) (v.toNat % 16) &&
          s.leap.epoch.isNone
        (bitOf v.toNat 9 = false → ∃ t, exec (.epochArm v) s = .next t ∧ t.f EPOCH_PROF = v.toNat % 16 ∧
          (ok = true → t.bit EPOCH_PEND = true ∧ t.leap = { s.leap with epoch := some (tsScalar T, v.toNat % 16) }) ∧
          (ok = false → t.bit (bitF LEAP_CAUSE 11) = true ∧ onlyRegs s t ∧
              sameBits [EPOCH_PROF, bitF LEAP_CAUSE 11] s t)) ∧
        (bitOf v.toNat 8 = false → ∃ t, exec (.epochCancel v) s = .next t ∧ t.f EPOCH_PROF = v.toNat % 16 ∧
            t.leap.epoch = none ∧
          (s.leap.epoch.isSome = true → t.bit EPOCH_PEND = false) ∧
          (s.leap.epoch = none → onlyRegs s t ∧ sameBits [EPOCH_PROF] s t)) ∧
        (bitOf v.toNat 8 = true → bitOf v.toNat 9 = true → exec (.epochArm v) s = exec (.epochCancel v) s)) ∧
    (s.leap.epoch = none → exec .softwareEpoch s = .next s) ∧
    ∀ q p, s.leap.epoch = some (q, p) →
      (¬ q ≤ s.now → exec .softwareEpoch s = .next s) ∧
      (q ≤ s.now → ∃ t, exec .softwareEpoch s = .next t ∧ t.leap = { s.leap with epoch := none } ∧
          t.bit EPOCH_PEND = false ∧
        ((s.fireDue && (s.planEpochAt s.pendStep).isSome) = true → t.bit (bitF LEAP_CAUSE 11) = true ∧
            onlyRegs { s with leap := t.leap } t ∧
          sameBits [EPOCH_PEND, bitF LEAP_CAUSE 11] s t) ∧
        ((s.fireDue && (s.planEpochAt s.pendStep).isSome) = false → t.bit (bitF LEAP_CAUSE 10) = true ∧
          t.f PROFILE = p % 16))

/-- While the block is in reset, or on a port that does not exist, no request does anything, and a request command whose
word has the OP of another changes nothing. Otherwise READ, WATCH, UNWATCH, ARRIVE_WAIT, ARRIVE, WAIT and BREAD, an
ADD, and a reserved OP under ADD, join the requests of the unit with their acceptance time, their REASON where the
form is bad, and their effect 8 ns later (a well-formed ADD, READ or WATCH of the same core) or 36 ns later; no
register changes, and only a request of a core that holds a watch restarts the deadlock window. A well-formed ADD
for another node is no request of the unit: at a die that is no twin it counts in CADD_TX, but not in FENCED, and a
CADD that carries its counter, increment, source and DUE (the path latency after acceptance, less 4 ns) becomes
ready on the up ports; a die without an up port counts it in STRAY_ADD. At a Krasesta it is accepted too, and routed
as a CADD is. The model's choices: the order of the reasons of a bad form (log entry 17); a remote ADD of a fenced
node is not counted in CADD_TX (log entry 100). (06_counters_watches.md, 07_barriers.md) -/
def Obligations.RequestAcceptance : Prop :=
  ∀ (s : State) (q : CmpReq),
    let m := q.word
    let bad := s.badForm m
    let delay := if bad.isNone && (rqOp m == 1 || rqOp m == 2 || rqOp m == 3) && rqCore m == rqSrc m then 8 else 36
    let x : PendReq := { due := s.now + delay * 65536, acc := s.now, port := q.port, word := m, bad := bad }
    let bar := if s.cnt.watches.any (fun w => w.core == rqSrc m) then { s.bar with dlSince := s.now } else s.bar
    let taken := Host.Outcome.next (φ := Fault) (ρ :=
      Refusal) { s with bar := bar, cnt := { s.cnt with pend := s.cnt.pend ++ [x] } }
    let ops := ([(.read q, 2), (.watch q, 3), (.unwatch q, 4), (.arriveWait q, 8), (.arrive q, 9), (.wait q, 10),
      (.bread q, 11)] : List (Instr × Nat))
    let away := bad.isNone && rqOp m == 1 && !rqFlag m && rqDest m != s.f NODE_ID;
    ((!s.power.held && decide (q.port < s.part.numCmp)) = false → exec (.add q) s = .next s ∧
        ∀ y ∈ ops, exec y.1 s = .next s) ∧
    ((!s.power.held && decide (q.port < s.part.numCmp)) = true →
      (∀ y ∈ ops, (rqOp m = y.2 → exec y.1 s = taken) ∧ (rqOp m ≠ y.2 → exec y.1 s = .next s)) ∧
      (rqOp m ∈ [2, 3, 4, 8, 9, 10, 11] → exec (.add q) s = .next s) ∧
      (rqOp m ∉ [2, 3, 4, 8, 9, 10, 11] → away = false → exec (.add q) s = taken) ∧
      (away = true → ∃ t, exec (.add q) s = .next t ∧ t.cnt = s.cnt ∧
        t.rn CADD_TX = (s.rn CADD_TX + if s.nst = .fenced then 0 else 1) % 2 ^ 32 ∧
        (s.part.isK = false → s.quietTwin = false → s.upActive ≠ [] → sameRegs [CADD_TX] s t ∧ t.bar.dlSince = s.now ∧
          sent (onPorts s.upActive [caddMsg (rqDest m) (rqCore m) (rqCounter m) (rqK m) (s.f NODE_ID)
            ((s.nowNs + pathLatency (lcaLevel (s.f NODE_ID) (rqDest m)) - 4) % 2 ^ 32)]) s t) ∧
        (s.part.isK = false → s.quietTwin = false → s.upActive = [] → t.rn STRAY_ADD = (s.rn STRAY_ADD + 1) % 2 ^ 32 ∧
          t.bit (bitF CNT_CAUSE 5) = true ∧ t.ports = s.ports ∧ sameRegs [CADD_TX, STRAY_ADD, CNT_CAUSE] s t)))

/-- REQUEST_REFUSAL, ADD_EFFECT, WATCH_ENTRY, UNWATCH_EFFECT, READ_SAMPLE, WATCH_TIMEOUT, CADD_APPLY,
BARRIER_REQUEST_EFFECT and RELEASE_APPLY run the cycle of the counter unit, FORCE_APPLY with the oldest FORCE unless
one has applied in it. The unit starts from the state as it stands, or, where it has run in this cycle, from the
state before that run with all that has come since: the order of arrival has no effect (the model's choice, log
entry 132). Hall time stays. What was due is gone, other requests and held CADDs remain in order. A counter of the
node takes its value plus all increments due; beyond 0xFFFFFFFF it takes 0xFFFFFFFF, its mark in SAT_MAP and SAT
raised, else its mark stays. A forced one takes the forced value plus the increments of the cycle, its mark in
FORCED_MAP, its mark in SAT_MAP as the result says, and CNT_CAUSE bit 9. Of what is due: a READ, WATCH or UNWATCH of
bad form is answered with 4, a barrier request of bad form with 11, or 4 in TADPOLE; a READ with 2 and the value and
marks of its counter; a BREAD of an enabled entry with 12, its round and counts; an ARRIVE, ARRIVE_WAIT, WAIT or
BREAD of no enabled entry, and a WAIT for the round after the next, with 11; an UNWATCH with 5 or 6. A single ARRIVE
or ARRIVE_WAIT due for an enabled entry below EXPECT, in a first cycle, counts in CUR for the open round, or
completes it where it fills it at its completion point, and in NEXT for the round after; beyond EXPECT, or for
another round, it is refused with 10 and counts in BAR_OVERRUNS. An ARRIVE_WAIT or WAIT takes a free slot, is
answered with 9 past its deadline, and without a slot with 3, and then counts nothing; a WAIT for the round before
the open one with 8. A WATCH with a free slot is answered with 0 and the value where the counter has reached the
target. A watch that stood is answered with 0 at its target, else with 1 at its deadline; none of either kind
remains. No release that was due remains, and every wait on its round is answered with 8. Also the model's choices:
an event of the unit acts on everything that is due (log entry 106); a wait takes the lowest free slot (log entry
57); FORCED and SAT of a refusal are 0 (log entry 163). (06_counters_watches.md, 07_barriers.md) -/
def Obligations.CounterUnitCycle : Prop :=
  ∀ s : State, ∀ y ∈ ([(.requestRefusal, false), (.addEffect, false), (.watchEntry, false), (.unwatchEffect, false),
      (.readSample, false),
      (.watchTimeout, false), (.caddApply, false), (.barrierRequestEffect, false), (.releaseApply, false),
          (.forceApply, true)] : List (Instr × Bool)),
    let b := (s.unitStart false).s
    let force := if y.2 || s.unitNow.any (·.forced) then b.cnt.forces.take 1 else []
    let due := b.cnt.pend.filter (fun x => decide (x.due ≤ s.now))
    (s.unitNow = none → b = s) ∧
    ∃ t, exec y.1 s = .next t ∧
      let said := fun (core status tag value : Nat) (late forced sat : Bool) => t.cnt.rsps.any (fun r =>
        r.port == core % s.part.numCmp && r.word == rspMsg core status tag value s.nsField late forced sat)
      t.time = s.time ∧ t.cnt.pend = b.cnt.pend.filter (fun x => !decide (x.due ≤ s.now)) ∧
      t.cnt.hold = b.cnt.hold.filter (fun x => !decide (x.due ≤ s.now)) ∧
      t.cnt.soon = b.cnt.soon.filter (fun x => !decide (x.seen < s.beat.n)) ∧
        t.cnt.forces = b.cnt.forces.drop force.length ∧
      (∀ c k, c < s.part.numCores → k < 48 → let v := b.rn (counterA c k) + incFor b.dueAdds (c, k)
        (∀ x ∈ force, (x.1, x.2.1) ≠ (c, k)) →
          (0xFFFFFFFF < v → t.rn (counterA c k) = 0xFFFFFFFF ∧ t.bit (satF c k) = true ∧
              t.bit (bitF CNT_CAUSE 0) = true) ∧
          (¬ 0xFFFFFFFF < v → t.rn (counterA c k) = v ∧ t.bit (satF c k) = b.bit (satF c k))) ∧
      (∀ x ∈ force, x.1 < s.part.numCores → x.2.1 < 48 →
        let v := min 0xFFFFFFFF (x.2.2 % 2 ^ 32 + incFor b.dueAdds (x.1, x.2.1))
        t.rn (counterA x.1 x.2.1) = v ∧ t.bit (forcedF x.1 x.2.1) = true ∧
          t.bit (satF x.1 x.2.1) = decide (v = 0xFFFFFFFF) ∧
          t.bit (bitF CNT_CAUSE 9) = true) ∧
      (∀ x ∈ due, let m := x.word
        let c := rqSrc m
        let k := rqEntry m
        let F := fun (g : Nat → Nat → Fld) => t.bit (g (rqCore m) (rqCounter m))
        let shut := (!rqFlag m && decide (16 ≤ rqBar m)) || !b.bit (barEn k) || (rqFlag m && !s.armed);
        (x.bad.isSome = true → rqOp m ∈ [2, 3, 4] → said c 4 (rqTag m) 0 false false false = true) ∧
        (x.bad.isSome = true → rqOp m ∈ [8, 9, 10, 11] →
          said c (if x.bad = some 0 then 4 else 11) (rqTag m) 0 false false false = true) ∧
        (x.bad = none → rqOp m = 2 → said c 2 (rqTag m) (t.rn (counterA (rqCore m) (rqCounter m))) false (F forcedF) (F satF) = true) ∧
        (x.bad = none → rqOp m = 3 →
          (b.watchesOf c).length + (due.filter (fun z => rqSrc z.word == c &&
              (rqOp z.word == 3 || rqOp z.word == 8 || rqOp z.word == 10))).length ≤ 8 →
          rqTarget m ≤ t.rn (counterA (rqCore m) (rqCounter m)) →
            said c 0 (rqTag m) (t.rn (counterA (rqCore m) (rqCounter m))) ((deadlineOf x.acc (rqTimeout m)).any (fun d => decide (d ≤ s.now)))
              (F forcedF) (F satF) = true) ∧
        (x.bad = none → rqOp m = 4 → (said c 6 (rqTag m) 0 false false false ||
          [false, true].any (fun f => [false, true].any (fun g => said c 5 (rqTag m) 0 false f g))) = true) ∧
        (x.bad = none → rqOp m = 11 → shut = false →
          said c 12 (rqTag m) (t.f (barRound k) * 2 ^ 24 + t.f (barNext k) * 2 ^ 12 + t.f (barCur k)) false false false = true) ∧
        (x.bad = none → rqOp m ∈ [8, 9, 10, 11] → shut = true → said c 11 (rqTag m) 0 false false false = true) ∧
        (x.bad = none → rqOp m = 10 → (rqRound m + 4 - b.f (barRound k)) % 4 = 2 →
          said c 11 (rqTag m) 0 false false false = true)) ∧
      (∀ x ∈ due, due.length = 1 → s.unitNow = none → x.bad = none → s.bar.rels = [] → s.bar.arrs = [] →
          rqOp x.word ∈ [8, 9, 10] → let m := x.word
        let c := rqSrc m
        let k := rqEntry m
        let r := rqRound m
        let d := (r + 4 - s.f (barRound k)) % 4
        let here := decide (k < 16) || s.bit (barScope k)
        let slot := rqOp m == 9 || decide ((s.watchesOf c).length < 8)
        let fits := d == 0 || (d == 1 && decide (s.f (barNext k) < s.f (barExpect k)))
        let counts := rqOp m != 10 && slot && fits
        let waits := t.cnt.watches.any (fun w => w.core == c && w.tag == rqTag m && w.bar == some (k, r) &&
          w.acc == x.acc)
        let ends := (deadlineOf x.acc (rqTimeout m)).any (fun d => decide (d ≤ s.now));
        ((rqFlag m || decide (rqBar m < 16)) && s.bit (barEn k) && (!rqFlag m || s.armed)) = true →
            (rqOp m = 10 → d ≠ 2) →
        s.f (barCur k) < s.f (barExpect k) → c < s.part.numCores →
          (slot = false → said c 3 (rqTag m) 0 false false false = true) ∧
          (slot = true → rqOp m ≠ 10 → fits = false → said c 10 (rqTag m) (s.f (barRound k)) false false false = true ∧
            t.rn BAR_OVERRUNS = (s.rn BAR_OVERRUNS + 1) % 2 ^ 32 ∧ t.bit (bitF BAR_CAUSE 0) = true) ∧
          (counts = true → d = 0 → (here = false ∨ s.f (barCur k) + 1 < s.f (barExpect k)) →
            t.f (barCur k) = s.f (barCur k) + 1 ∧ t.f (barNext k) = s.f (barNext k) ∧
              t.f (barRound k) = s.f (barRound k)) ∧
          (counts = true → d = 0 → here = true → s.f (barCur k) + 1 = s.f (barExpect k) →
            t.f (barRound k) = (s.f (barRound k) + 1) % 4 ∧ t.f (barCur k) = s.f (barNext k) ∧ t.f (barNext k) = 0) ∧
          (counts = true → d = 1 → t.f (barNext k) = s.f (barNext k) + 1 ∧ t.f (barCur k) = s.f (barCur k) ∧
            t.f (barRound k) = s.f (barRound k)) ∧
          (counts = false → t.f (barCur k) = s.f (barCur k) ∧ t.f (barNext k) = s.f (barNext k) ∧
              t.f (barRound k) = s.f (barRound k)) ∧
          (rqOp m = 10 → slot = true → d = 3 → said c 8 (rqTag m) r ends false false = true) ∧
          (slot = true → (rqOp m = 10 ∧ d ≤ 1 ∨ rqOp m = 8 ∧ fits = true) → (d = 1 ∨ here = false ∨
              rqOp m = 10 ∨ s.f (barCur k) + 1 < s.f (barExpect k)) →
            (ends = false → waits = true) ∧ (ends = true → said c 9 (rqTag m) r false false false = true))) ∧
      (∀ w ∈ b.cnt.watches, w.bar = none → let v := t.rn (counterA w.cc w.ck)
        let expired := w.deadline.any (fun d => decide (d ≤ s.now));
        (w.target ≤ v → said w.core 0 w.tag v expired (t.bit (forcedF w.cc w.ck)) (t.bit (satF w.cc w.ck)) = true) ∧
        (v < w.target → expired = true →
            said w.core 1 w.tag v false (t.bit (forcedF w.cc w.ck)) (t.bit (satF w.cc w.ck)) = true)) ∧
      (∀ w ∈ t.cnt.watches, w.deadline.any (fun d => decide (d ≤ s.now)) = false ∧
        (w.bar = none → t.rn (counterA w.cc w.ck) < w.target)) ∧
      (∀ r ∈ t.bar.rels, s.relDue r = false) ∧
      ∀ r ∈ b.bar.rels, s.relDue r = true →
          (b.bit (barScope (16 + r.slot)) = true ∨ b.f (barRound (16 + r.slot)) = r.round) →
        ∀ w ∈ b.cnt.watches, w.bar = some (16 + r.slot, r.round) →
          said w.core 8 w.tag r.round (w.deadline.any (fun d => decide (d ≤ s.now))) false false = true

/-- In a first cycle of the counter unit without a FORCE (ADD_EFFECT, CADD_APPLY): a counter of the node whose value and
increments due add up to more than 0xFFFFFFFF takes 0xFFFFFFFF, its bit in SAT_MAP is set and SAT is raised; any
other takes the sum, and its bit in SAT_MAP stays. An enabled pair of counters of the node of which one takes an
increment now is checked with the new values P and C: P - C above PAIR_DEPTH sets its bit in BREACH_MAP and raises
OVERRUN, P - C below 0 sets the bit and raises UNDERRUN, and where no bit of BREACH_MAP was set and no other pair is
enabled FIRST_BREACH holds the pair, the kind, P, C and the hall time; otherwise, and for a pair of which neither
counter takes an increment, the bit stays. An armed node that has not voted for its pending step, holds no GO and
may vote, votes as soon as the counter of READY_SEL has reached READY_TARGET (0 where READY_SEL names none):
VOTE_OUT is set, and READY goes up where the votes of the children are present. With the commit PEND_COMMIT fired
and COMMIT_EN set it acknowledges as soon as the counter of COMMIT_SEL has reached COMMIT_TARGET, and with COMMIT_EN
clear together with its vote: PEND_COMMIT grows by C and COMMIT_TARGET by COMMIT_STRIDE, or FAIL 6 is formed where
the target would pass 0xFFFFFFFF, and where the acknowledgements of all unfenced children are present LAST_COMMIT is
the commit at the root and the hall twin, and CACK goes up elsewhere. Short of the target neither happens. The
model's choice: an event of the unit acts on everything that is due (log entry 106). (06_counters_watches.md,
05_leaps.md) -/
def Obligations.CounterSaturation : Prop :=
  ∀ s : State, s.unitNow = none → ∀ y ∈ [Instr.addEffect, .caddApply], ∃ t, exec y s = .next t ∧
      (∀ c k, c < s.part.numCores → k < 48 → let v := s.rn (counterA c k) + incFor s.dueAdds (c, k);
        (0xFFFFFFFF < v → t.rn (counterA c k) = 0xFFFFFFFF ∧ t.bit (satF c k) = true ∧
            t.bit (bitF CNT_CAUSE 0) = true) ∧
        (¬ 0xFFFFFFFF < v → t.rn (counterA c k) = v ∧ t.bit (satF c k) = s.bit (satF c k))) ∧
      (∀ i, i < 256 → let w := s.rn (pairCfg i)
        let p := (bitsOf w 20 8, bitsOf w 14 6)
        let c := (bitsOf w 6 8, bitsOf w 0 6)
        let P := t.rn (counterA p.1 p.2)
        let C := t.rn (counterA c.1 c.2)
        let moved := s.dueAdds.any (fun x => (x.1, x.2.1) == p || (x.1, x.2.1) == c)
        let above_ : Prop := (P : Int) - C > s.rn (pairCfg i + 4)
        bitOf w 31 = true → s.hasCounter p.1 p.2 = true → s.hasCounter c.1 c.2 = true →
          (moved = true → above_ → t.bit (breachF i) = true ∧ t.bit (bitF CNT_CAUSE 1) = true) ∧
          (moved = true → P < C → t.bit (breachF i) = true ∧ t.bit (bitF CNT_CAUSE 2) = true) ∧
          (moved = true → (above_ ∨ P < C) → s.enabledPairs = [i] →
              (List.range 256).all (fun j => !s.bit (breachF j)) = true →
            t.rn FIRST_BREACH = 2 ^ 31 + (if P < C then 2 ^ 30 else 0) + i ∧ t.rn (FIRST_BREACH + 4) = P ∧
              t.rn (FIRST_BREACH + 8) = C ∧ t.rn (FIRST_BREACH + 12) = s.nsField) ∧
          ((moved = false ∨ ¬ (above_ ∨ P < C)) → t.bit (breachF i) = s.bit (breachF i))) ∧
      (let V := t.refVal (s.rn READY_SEL)
        let may := s.armed && !s.bit VOTE_OUT && !s.bit GO_HELD && !s.leap.voteOff
        let votes := may && decide (s.rn READY_TARGET ≤ V)
        let en := bitOf (s.rn COMMIT_SEL) 31
        let acks := s.armed && !s.leap.cackOff && decide (s.r64 PEND_COMMIT < s.pendStep) &&
          (if en then decide (s.rn COMMIT_TARGET ≤ t.refVal (s.rn COMMIT_SEL)) else votes)
        let up := s.kidsIn s.leap.votes && !s.leap.upVoted
        let target := s.rn COMMIT_TARGET + s.rn COMMIT_STRIDE
        let kidsAck := s.leap.kids.all (fun q => s.leap.cacks.contains q || s.fenced q)
        let quiet := s.enabledEntries.isEmpty && s.bar.rels.isEmpty && s.bar.arrs.isEmpty
        let ups := s.upActive ++ s.upStandby;
        t.bit VOTE_OUT = (s.bit VOTE_OUT || votes) ∧
        (votes = true → t.leap.upVoted = (s.leap.upVoted || up)) ∧
        (acks = false → t.r64 PEND_COMMIT = s.r64 PEND_COMMIT ∧ t.rn COMMIT_TARGET = s.rn COMMIT_TARGET ∧
            t.r64 LAST_COMMIT = s.r64 LAST_COMMIT ∧
          (quiet = true → sent (onPorts ups (if votes && up then [leapMsg kREADY 0 s.pendStep 0] else [])) s t)) ∧
        (acks = true →
          (target < 2 ^ 32 → t.r64 PEND_COMMIT = (s.r64 PEND_COMMIT + s.f COMMIT_EVERY) % 2 ^ 64 ∧
              t.rn COMMIT_TARGET = target ∧
            (quiet = true → sent (onPorts ups ((if votes && up then [leapMsg kREADY 0 s.pendStep 0] else []) ++
              (if !s.atHall && kidsAck then [leapMsg kCACK 0 (s.r64 PEND_COMMIT) 0] else []))) s t)) ∧
          (¬ target < 2 ^ 32 → t.leap.cackOff = true ∧ t.r64 PEND_COMMIT = s.r64 PEND_COMMIT ∧
              t.rn COMMIT_TARGET = s.rn COMMIT_TARGET) ∧
          (kidsAck = true → s.atHall = true → t.r64 LAST_COMMIT = s.r64 PEND_COMMIT) ∧
          (kidsAck = false → t.r64 LAST_COMMIT = s.r64 LAST_COMMIT)))

/-- What is no CADD, or comes on no port, changes nothing. A CADD that Table LNK-10 does not let in is discarded. Any
other is first compared by the eft entries of its port, as one that arrives now, and on a spare port of an eft that
is all. Elsewhere it counts in CADD_RX. A quiet twin does no more. At the node it names: with leaps not armed, or a
DUE before the arming, it is a stray (STRAY_ADD, CNT_CAUSE bit 5); for no counter of the node, or without an
increment, it counts in BAD_REQ with its REASON; one whose DUE has not passed joins the held CADDs with its DUE
while there is room, and else counts in HOLD_OVER; one past its DUE counts in LATE_SYNC; the last two are applied in
the next cycle (for one at its DUE that finds no room the model's choice, log entry 164). For another node: at a die
it is a stray. At a Krasesta one for a twin is a stray; one for its subtree leaves toward the child whose subtree it
lies in, and on the twin link that mirrors the down ports, unless that child is fenced, when STRAY_ADD alone counts
it, and with no such child it is a stray; any other leaves on the up ports, and with no active up port it is a
stray. Also the model's choices: a port leads to the subtree of the die that PEER_EXP names (log entry 79); the eft
comparison takes what a command brings (log entry 143); the command names the first port of a channel (log entry
135). (06_counters_watches.md) -/
def Obligations.CaddAtNode : Prop :=
  ∀ (s : State) (p : Nat) (m : Msg),
    let here := cDest m == s.f NODE_ID
    let due := s.dueNs (cDue m)
    let c := cCore m
    let k := cCounter m
    let x : PendAdd := { due := due.toNat * 65536, core := c, k := k, inc := cK m, cadd := true, seen := s.beat.n }
    let early := !s.armed || decide (due * 65536 < (s.cnt.armedAt : Int))
    let why := if ¬ c < s.part.numCores then 1 else if ¬ k < 48 then 2 else if cK m = 0 then 3 else 0
    let kid := s.kidPorts.find? (fun p => inSubtree (s.peerExp p) (cDest m))
    let under := s.part.isK && !bitOf (cDest m) 17 && inSubtree (s.f NODE_ID) (cDest m)
    let above := s.part.isK && !bitOf (cDest m) 17 && !inSubtree (s.f NODE_ID) (cDest m);
    ((isSync m 0 && decide (p < s.part.numPorts)) = false → exec (.cadd p m) s = .next s) ∧
    ((isSync m 0 && decide (p < s.part.numPorts)) = true → s.acceptsCtl p m = false →
        exec (.cadd p m) s = .next (s.discardCtl p m)) ∧
    ((isSync m 0 && decide (p < s.part.numPorts) && s.acceptsCtl p m && s.spare p) = true →
      exec (.cadd p m) s = .next (s.eftMsgAt p s.now m)) ∧
    ((isSync m 0 && decide (p < s.part.numPorts) && s.acceptsCtl p m && !s.spare p) = true →
        ∃ t, exec (.cadd p m) s = .next t ∧
      t.rn CADD_RX = (s.rn CADD_RX + 1) % 2 ^ 32 ∧ t.time = s.time ∧
      let quiet : Prop := (t.cnt = s.cnt ∧ t.ports = s.ports ∧ sameRegs [CADD_RX] s t)
      let stray : Prop := (t.rn STRAY_ADD = (s.rn STRAY_ADD + 1) % 2 ^ 32 ∧ t.bit (bitF CNT_CAUSE 5) = true ∧
        t.cnt = s.cnt ∧
        t.ports = s.ports ∧ sameRegs [CADD_RX, STRAY_ADD, CNT_CAUSE] s t);
      (s.quietTwin = true → quiet) ∧
      (s.quietTwin = false → here = true → early = true → stray) ∧
      (s.quietTwin = false → here = true → early = false → why ≠ 0 → t.rn BAD_REQ = (s.rn BAD_REQ + 1) % 2 ^ 32 ∧
        t.rn BAD_REQ_INFO = 2 ^ 31 + why * 2 ^ 28 + c * 2 ^ 12 + k * 2 ^ 6 ∧ t.bit (bitF CNT_CAUSE 6) = true ∧
          t.cnt = s.cnt ∧
        sameRegs [CADD_RX, BAD_REQ, BAD_REQ_INFO, CNT_CAUSE] s t) ∧
      (s.quietTwin = false → here = true → early = false → why = 0 → (s.nowNs : Int) ≤ due →
        (s.cnt.hold.length < s.part.holdCap → t.bar.dlSince = s.now ∧ sameRegs [CADD_RX] s t ∧
          t.cnt = { s.cnt with hold := s.cnt.hold ++ [x], hwm := max s.cnt.hwm (s.cnt.hold.length + 1) }) ∧
        (¬ s.cnt.hold.length < s.part.holdCap → t.cnt = { s.cnt with soon := s.cnt.soon ++ [x] } ∧
          t.bit (bitF CNT_CAUSE 7) = true ∧ t.rn HOLD_OVER = (s.rn HOLD_OVER + 1) % 2 ^ 32 ∧
          sameRegs [CADD_RX, HOLD_OVER, CNT_CAUSE] s t)) ∧
      (s.quietTwin = false → here = true → early = false → why = 0 → due < (s.nowNs : Int) →
        t.cnt = { s.cnt with soon := s.cnt.soon ++ [x] } ∧ t.bit (bitF CNT_CAUSE 4) = true ∧ t.flt.rpt.late = true ∧
        t.rn LATE_SYNC = (s.rn LATE_SYNC + 1) % 2 ^ 32 ∧ sameRegs [CADD_RX, LATE_SYNC, CNT_CAUSE] s t) ∧
      (s.quietTwin = false → here = false → (!under && !above) = true → stray) ∧
      (s.quietTwin = false → here = false → under = true → (kid = none → stray) ∧
        ∀ q, kid = some q →
          (s.fenced q = true → t.rn STRAY_ADD = (s.rn STRAY_ADD + 1) % 2 ^ 32 ∧ t.ports = s.ports ∧
              sameRegs [CADD_RX, STRAY_ADD] s t) ∧
          (s.fenced q = false → sent (fun r => onPorts [q] [m] r ++ onPorts s.mirror [m] r) s t ∧
              sameRegs [CADD_RX] s t)) ∧
      (s.quietTwin = false → here = false → above = true → (s.upActive = [] → stray) ∧
        (s.upActive ≠ [] → sent (onPorts (s.upActive ++ s.upStandby) [m]) s t ∧ sameRegs [CADD_RX] s t)))

/-- RESPONSE_PRESENT with no response of the port whose time has come changes nothing; otherwise the oldest such leaves
the queue, and it is presented with its word: at a die with no register word changed (what a tile of a Krasesta does
with it is stated in TileCompletion). CMP_STALL with a response of the port waiting more than 8 ns raises CNT_CAUSE
bit 8, else changes nothing. FORCE_DATA queues the FORCE of the counter that FORCE_ADDR names, or counts it in
BAD_REQ where the core or counter does not exist. TASK_SWITCH while leaps are armed raises CNT_CAUSE bit 10 alone,
else it is noted for stage 0 of the next cycle and nothing else changes; with an empty queue the step then clears
every counter, watch and held CADD of the node. Neither write does anything while the main part does not answer. The
model's choices: a TASK_SWITCH acts with the next idle step, which begins the next cycle (log entry 95); a command
whose trigger does not hold changes nothing (log entry 8). (06_counters_watches.md, 13_faults.md) -/
def Obligations.ResponsesAndForces : Prop :=
  ∀ s : State,
    (∀ port, let here := fun (r : Rsp) => r.port == port && decide (r.at_ ≤ s.now);
      (s.cnt.rsps.find? here = none → exec (.responsePresent port) s = .next s) ∧
      ∀ r, s.cnt.rsps.find? here = some r → ∃ t, exec (.responsePresent port) s = .next t ∧ t.outs.rspPort = port ∧
          t.outs.rsp = r.word ∧
        t.bar.dlSince = s.now ∧ t.cnt.rsps = s.cnt.rsps.eraseP here ∧
        (s.part.isK = false → t.cnt = { s.cnt with rsps := s.cnt.rsps.eraseP here } ∧ sameRegs [] s t)) ∧
    (∀ port, let slow := s.cnt.rsps.any (fun r => r.port == port && decide (r.at_ + 8 * 65536 < s.now));
      (slow = true → ∃ t, exec (.cmpStall port) s = .next t ∧ t.bit (bitF CNT_CAUSE 8) = true ∧ t.cnt = s.cnt ∧
        sameBits [bitF CNT_CAUSE 8] s t) ∧
      (slow = false → exec (.cmpStall port) s = .next s)) ∧
    (s.mainOn = false → ∀ v : Word, exec (.forceData v) s = .next s ∧ exec (.taskSwitch v) s = .next s) ∧
    (s.mainOn = true → ∀ v : Word, let c := bitsOf (s.rn FORCE_ADDR) 8 8
      let k := bitsOf (s.rn FORCE_ADDR) 0 6;
      (c < s.part.numCores → k < 48 →
          exec (.forceData v) s = .next { s with cnt := { s.cnt with forces := s.cnt.forces ++ [(c, k, v.toNat)] } }) ∧
      (¬ (c < s.part.numCores ∧ k < 48) → ∃ t, exec (.forceData v) s = .next t ∧
          t.rn BAD_REQ = (s.rn BAD_REQ + 1) % 2 ^ 32 ∧
        t.rn BAD_REQ_INFO = 2 ^ 31 + (if c < s.part.numCores then 2 else 1) * 2 ^ 28 + c * 2 ^ 12 + k * 2 ^ 6 ∧
        t.bit (bitF CNT_CAUSE 6) = true ∧ t.cnt = s.cnt ∧ sameRegs [BAD_REQ, BAD_REQ_INFO, CNT_CAUSE] s t)) ∧
    (s.mainOn = true → ∀ v : Word,
      (s.armed = true → ∃ t, exec (.taskSwitch v) s = .next t ∧ t.bit (bitF CNT_CAUSE 10) = true ∧ onlyRegs s t ∧
        sameBits [bitF CNT_CAUSE 10] s t) ∧
      (s.armed = false → exec (.taskSwitch v) s = .next { s with cnt := { s.cnt with ts := true } })) ∧
    (s.mainOn = true → s.pending = [] → s.cnt.ts = true → s.enabledEntries.any (fun k => s.roundDue k) = false →
      ∃ t, step s = .next t ∧ t.cnt.watches = [] ∧ t.cnt.hold = [] ∧ t.cnt.soon = [] ∧ t.cnt.dirty = false ∧
          t.cnt.ts = false ∧
        t.bit (bitF CNT_CAUSE 11) = true ∧ ∀ c k, c < s.part.numCores → k < 48 →
          t.rn (counterA c k) = 0 ∧ t.bit (satF c k) = false ∧ t.bit (forcedF c k) = false)

/-- An ARRIVE or RELEASE command acts on a SYNC message of that kind on a port that exists, and otherwise does nothing;
one that Table LNK-10 does not let in, as on the port of a fenced child, is discarded. COMBINED_ARRIVAL is first
compared by the eft entries of its port, as one that arrives now. With leaps armed, for an enabled hall entry, on a
port of its CHILD_MAP it is counted in a cycle of the unit (one that has run in this cycle before runs again with
it, log entry 132: the counts are stated for the first run); otherwise it counts in STRAY_BAR with BAR_CAUSE bit 3.
With nothing else due in the cycle, an arrival for the open round counts in CUR and one for the next round in NEXT
while there is room below EXPECT, and any other counts in BAR_OVERRUNS; the arrival that fills the open round at its
scope node advances the round, with NEXT as the new CUR. RELEASE: at the scope node of an enabled entry it changes
nothing; below it, from the port that SEL_ACTIVE names and for the open round, it is forwarded on the CHILD_MAP
ports and the twin link (not by a quiet twin) and waits for its DUE, or, without one, for this cycle, or, past it,
for the next with LATE_REL and BAR_CAUSE bit 2; otherwise it counts in STRAY_BAR. BAR_STALL runs the cycle for an
entry that exists: with nothing else due, an enabled entry whose timer has run for a STALL_TIMEOUT other than 0 is
marked STALLED, with STALLS, BAR_CAUSE bit 1 and a valid miss record; another keeps its mark. DEADLOCK after a quiet
window counts, raises BAR_CAUSE bit 4, makes sure of a snapshot of the watches and of the conditions, and opens a
new window; before, it changes nothing. The model's choices: the deadlock window restarts after each DEADLOCK (log
entry 102); the eft comparison takes what a command brings (log entry 143); a command whose trigger does not hold
changes nothing (log entry 8). (07_barriers.md) -/
def Obligations.BarrierMessages : Prop :=
  ∀ s : State,
    let idle := s.unitNow.isNone && s.cnt.pend.all (fun x => !decide (x.due ≤ s.now)) && s.bar.rels.isEmpty &&
      s.bar.arrs.isEmpty;
    (∀ (p : Nat) (m : Msg), let h := bSlot m
      let k := 16 + h
      let r := s.f (barRound k)
      let d := (bRound m + 4 - r) % 4
      let mine := s.armed && s.bit (barEn k) && (s.childPorts h).contains p
      let fit := idle && decide (s.f (barCur k) < s.f (barExpect k))
      let u := s.eftMsgAt p s.now m;
      ((isSync m 1 && decide (p < s.part.numPorts)) = false → exec (.combinedArrival p m) s = .next s) ∧
      ((isSync m 1 && decide (p < s.part.numPorts)) = true →
        s.acceptsCtl p m = false → exec (.combinedArrival p m) s = .next (s.discardCtl p m)) ∧
      ((isSync m 1 && decide (p < s.part.numPorts) && s.acceptsCtl p m) = true →
        (mine = false → ∃ t, exec (.combinedArrival p m) s = .next t ∧ t.rn STRAY_BAR = (s.rn STRAY_BAR + 1) % 2 ^ 32 ∧
          t.bit (bitF BAR_CAUSE 3) = true ∧ onlyRegs u t ∧ sameRegs [STRAY_BAR, BAR_CAUSE] s t) ∧
        (mine = true → ∃ t, exec (.combinedArrival p m) s = .next t ∧ t.bar.arrs = [] ∧ t.time = s.time ∧
          (fit = true → d = 0 → s.f (barCur k) + 1 < s.f (barExpect k) → t.f (barCur k) = s.f (barCur k) + 1 ∧
              t.f (barRound k) = r ∧
            t.f (barNext k) = s.f (barNext k) ∧ t.rn BAR_OVERRUNS = s.rn BAR_OVERRUNS) ∧
          (fit = true → d = 0 → s.f (barCur k) + 1 = s.f (barExpect k) → s.bit (barScope k) = true →
            t.f (barRound k) = (r + 1) % 4 ∧ t.f (barCur k) = s.f (barNext k) ∧ t.f (barNext k) = 0) ∧
          (fit = true → d = 1 → s.f (barNext k) < s.f (barExpect k) → t.f (barNext k) = s.f (barNext k) + 1 ∧
            t.f (barCur k) = s.f (barCur k) ∧ t.f (barRound k) = r ∧ t.rn BAR_OVERRUNS = s.rn BAR_OVERRUNS) ∧
          (fit = true → (2 ≤ d ∨ d = 1 ∧ s.f (barExpect k) ≤ s.f (barNext k)) →
              t.rn BAR_OVERRUNS = (s.rn BAR_OVERRUNS + 1) % 2 ^ 32 ∧
            t.bit (bitF BAR_CAUSE 0) = true ∧ t.f (barCur k) = s.f (barCur k) ∧ t.f (barNext k) = s.f (barNext k) ∧
            t.f (barRound k) = r)))) ∧
    (∀ (p : Nat) (m : Msg), let k := 16 + bSlot m
      let due := s.dueNs (bDue m)
      let late := bAligned m && decide (due < (s.nowNs : Int))
      let top := s.armed && s.bit (barEn k) && s.bit (barScope k)
      let mine := s.armed && s.bit (barEn k) && s.selPort.contains p && bRound m == s.f (barRound k);
      ((isSync m 2 && decide (p < s.part.numPorts)) = false → exec (.release p m) s = .next s) ∧
      ((isSync m 2 && decide (p < s.part.numPorts)) = true → s.acceptsCtl p m = false →
        exec (.release p m) s = .next (s.discardCtl p m)) ∧
      ((isSync m 2 && decide (p < s.part.numPorts) && s.acceptsCtl p m && top) = true →
          exec (.release p m) s = .next s) ∧
      ((isSync m 2 && decide (p < s.part.numPorts) && s.acceptsCtl p m && !top) = true →
        (mine = false → ∃ t, exec (.release p m) s = .next t ∧ t.rn STRAY_BAR = (s.rn STRAY_BAR + 1) % 2 ^ 32 ∧
          t.bit (bitF BAR_CAUSE 3) = true ∧ onlyRegs s t ∧ sameRegs [STRAY_BAR, BAR_CAUSE] s t) ∧
        (mine = true → ∃ t, exec (.release p m) s = .next t ∧
          sent (fun q => if s.quietTwin then [] else onPorts (s.childPorts (bSlot m)) [m] q ++
            onPorts s.mirror [m] q) s t ∧
          t.bar = { s.bar with
            dlSince := s.now
            rels := s.bar.rels ++ [⟨if bAligned m && !late then due.toNat * 65536 else s.now, bSlot m, bRound m,
              bAligned m,
              if late then some s.beat.n else none⟩] } ∧
          (late = false → sameRegs [] s t) ∧
          (late = true → t.rn LATE_REL = (s.rn LATE_REL + 1) % 2 ^ 32 ∧ t.bit (bitF BAR_CAUSE 2) = true ∧
              t.flt.rpt.late = true ∧
            sameRegs [LATE_REL, BAR_CAUSE] s t)))) ∧
    (∀ e, (¬ e < 80 → exec (.barStall e) s = .next s) ∧ (e < 80 → ∃ t, exec (.barStall e) s = .next t ∧
      let run := s.bit (barEn e) && !s.bit (barStalled e) && s.rn (barStall e) != 0 &&
        (s.ent e).stallAt.any (fun x => decide (x + s.rn (barStall e) * 65536 ≤ s.now));
      (idle = true → s.roundDue e = false → run = true → t.bit (barStalled e) = true ∧ t.bit (bitF BAR_CAUSE 1) = true ∧
        bitOf (t.rn MISS_INFO) 31 = true) ∧
      (idle = true → s.roundDue e = false → run = false → t.bit (barStalled e) = s.bit (barStalled e)) ∧
      (idle = true → t.rn STALLS = (s.rn STALLS + (s.enabledEntries.filter (fun k => s.stallDue k &&
          !s.roundDue k)).length) % 2 ^ 32))) ∧
    (let quiet := s.dlQuiet && decide (s.bar.dlSince + s.f DL_WINDOW * 65536 ≤ s.now);
      (quiet = false → exec .deadlock s = .next s) ∧
      (quiet = true → ∃ t, exec .deadlock s = .next t ∧ t.rn DEADLOCKS = (s.rn DEADLOCKS + 1) % 2 ^ 32 ∧
        t.bit (bitF BAR_CAUSE 4) = true ∧ t.bit DL_VALID = true ∧ t.bit COND_VALID = true ∧
          t.bar = { s.bar with dlSince := s.now } ∧
        (s.bit LOG_FROZEN = false → t.rn (logEntry (s.f LOG_WPTR)) = 2 ^ 31 + 16 * 2 ^ 16) ∧
        (s.bit DL_VALID = false → t.f ⟨DL_STATUS, 0, 5⟩ = min 16 s.cnt.watches.length) ∧ t.cnt = s.cnt ∧
            t.time = s.time))

/-- For every flit whose fields fit their widths and whose payload has 240 bytes: its 256 bytes pass the CRC check, and
the fields read from them are those of the flit. No bit of the layout is dropped or shared. (08_step_link.md) -/
def Obligations.FlitRoundTrip : Prop :=
  ∀ f : Flit, f.typ < 16 → f.slot < 4096 → f.sq < 4096 → f.akind < 4 → f.asq < 4096 → f.queue < 64 → f.plen < 256 →
    f.otyp < 16 → f.cack < 4096 → f.payload.length = 240 →
    f.bytes.length = 256 ∧ crcOk f.bytes = true ∧ readFlit f.bytes = f

/-- TRAINING_STATE_DONE of a port that exists and whose transmitters run takes TSTATE 0 to SIGNAL; SIGNAL with the lanes
ready to CODEWORD, where only the order and polarity of the lanes are found (free values); CODEWORD to FLIT, where
the lanes count as locked and flits begin with a pad; and FLIT with the identity checked to UP, with its cause. In
UP, or with its condition missing, it changes nothing. TRAINING_TIMEOUT past the bound of the state (40 ms in
SIGNAL, 5 ms in CODEWORD, 5 ms in FLIT until flit framing) counts TRAIN_FAIL and returns the port to SIGNAL; before
it, or with no bound, it does nothing. RETRAIN of a port that exists raises bit 8 of the CAUSE of the port alone
while leaps are armed, and otherwise returns a port that has begun training to SIGNAL; of a port in TSTATE 0 or that
does not exist, or while the main part does not answer, it does nothing. A return to SIGNAL leaves the messages that
wait and changes no register but those of the training state and the count; at a die a transmit setting is awaited
on every lane. That the lanes of a Krasesta are ready the command itself tells. The model's choices: lane order,
polarity and transmit settings are free (log entry 66); messages that wait, and SEQ, are kept over training (log
entry 60); the port of a ganged channel that training names (log entry 68); a command whose trigger does not hold
changes nothing (log entry 8). (08_step_link.md, 16_caertin_integration.md) -/
def Obligations.PortTraining : Prop :=
  ∀ (s : State) (p : Nat), let S := s.pa p 8
    let ready := s.part.isK || (s.outs.ffeWait.isEmpty && (s.laneList p).all (fun l =>
      s.rxLock.any (fun x => x.1 == l && decide (x.2 + 1000 ≤ s.beat.n))))
    let back := fun (c : Nat) (t : State) => sameRegs (c :: s.trainRegs p) s t ∧ (t.port p).ctrl = (s.port p).ctrl ∧
      (t.port p).deferred = (s.port p).deferred ∧ t.time = s.time;
    ((s.portExists p && s.txOn) = false → exec (.trainingStateDone p) s = .next s) ∧
    ((s.portExists p && s.txOn) = true →
      (s.tstate p = 0 → ∃ t, exec (.trainingStateDone p) s = .next t ∧ backToSignal p s t ∧ back S t) ∧
      (s.tstate p = 1 → ready = true → ∃ t, exec (.trainingStateDone p) s = .next t ∧ t.tstate p = 2 ∧
          (t.port p).trainAt = s.now ∧
        sameBits (⟨S, 0, 3⟩ :: (s.laneList p).map (fun l => ⟨s.laneReg p l, 27, 4⟩)) s t) ∧
      (s.tstate p = 2 → ∃ t, exec (.trainingStateDone p) s = .next t ∧ t.tstate p = 3 ∧ (t.port p).trainAt = s.now ∧
        t.f ⟨S, 16, 8⟩ = 2 ^ (s.laneList p).length - 1 ∧ (t.port p).slot = 4096 ∧ (t.port p).padAt = s.now ∧
        (t.port p).lastGood = s.now ∧ sameRegs (s.trainRegs p) s t) ∧
      (s.tstate p = 3 → s.bit (bitF S 8) = true → ∃ t, exec (.trainingStateDone p) s = .next t ∧ t.tstate p = 4 ∧
        t.bit (bitF (s.pa p 0xC) 5) = true ∧ (t.port p).lastGood = s.now) ∧
      (((s.tstate p == 1 && !ready) || (s.tstate p == 3 && !s.bit (bitF S 8)) || decide (4 ≤ s.tstate p)) = true →
        exec (.trainingStateDone p) s = .next s)) ∧
    (let bound := if s.tstate p = 1 then 40000000
        else if s.tstate p = 2 ∨ s.tstate p = 3 ∧ (s.port p).rxNext = none then 5000000 else 0
      let past := bound != 0 && decide ((s.port p).trainAt + bound * 65536 ≤ s.now);
      (past = false → exec (.trainingTimeout p) s = .next s) ∧
      (past = true → ∃ t, exec (.trainingTimeout p) s = .next t ∧
          t.rn (s.pa p 0x74) = (s.rn (s.pa p 0x74) + 1) % 2 ^ 32 ∧
        backToSignal p s t ∧ back (s.pa p 0x74) t)) ∧
    ∀ v : Word, let acts := s.mainOn && s.portExists p && (s.armed || s.tstate p != 0);
      (acts = false → exec (.retrain p v) s = .next s) ∧
      (acts = true → s.armed = true → ∃ t, exec (.retrain p v) s = .next t ∧ t.bit (bitF (s.pa p 0xC) 8) = true ∧
          onlyRegs s t ∧
        sameBits [bitF (s.pa p 0xC) 8] s t) ∧
      (acts = true → s.armed = false → ∃ t, exec (.retrain p v) s = .next t ∧ backToSignal p s t ∧ back S t)

/-- LINK_DEAD of a port in UP whose cause holds (1 four failures of a missing flit, 2 1 µs without a good flit, 3 loss
of framing, which the line reports, 4 a full replay buffer) ends the link: every port of its channel counts it with
that cause and returns to SIGNAL, and, but in loopback, the peer is declared dead. Loss of framing in CODEWORD or
FLIT counts TRAIN_FAIL and returns the port to SIGNAL. A cause that does not hold, a number outside 1 to 4, another
state, and a port that does not exist change nothing. REPLAY_TIMEOUT of a port in UP with a missing SEQ whose
request is REPLAY_TMO old and waits no longer asks for it again and counts a further failure of that SEQ; at its
second failure the flit counts as late, with its cause; at its fourth the link ends with cause 1. Otherwise it
changes nothing. The model's choices: messages that wait, and SEQ, are kept over training (log entry 60); a command
whose trigger does not hold changes nothing (log entry 8). (08_step_link.md, 13_faults.md) -/
def Obligations.LinkDeadAndReplay : Prop :=
  ∀ (s : State) (p : Nat),
    (∀ c : Nat, let x := s.port p
      let full := match x.replay with
        | [] => false
        | (q, _) :: _ => decide (1024 ≤ (x.txSeq + 4096 - q) % 4096)
      let holds := (c == 1 && x.miss.any (fun m => decide (4 ≤ m.fails))) ||
        (c == 2 && decide (x.lastGood + 1000 * 65536 ≤ s.now)) ||
        c == 3 || (c == 4 && full)
      let early := c == 3 && (s.tstate p == 2 || s.tstate p == 3);
      ((s.portExists p && holds && s.portUp p) = true → ∃ t, exec (.linkDead p c) s = .next t ∧ linkDied p c s t) ∧
      ((s.portExists p && early) = true → ∃ t, exec (.linkDead p c) s = .next t ∧
        t.rn (s.pa p 0x74) = (s.rn (s.pa p 0x74) + 1) % 2 ^ 32 ∧ backToSignal p s t ∧
          sameRegs (s.pa p 0x74 :: s.trainRegs p) s t) ∧
      ((s.portExists p && (holds && s.portUp p || early)) = false → exec (.linkDead p c) s = .next s)) ∧
    ∀ sq, let me := fun (m : Miss) => m.sq == sq && decide (m.at_ + s.rn (s.pa p 0x1C) * 65536 ≤ s.now) && !(s.port p).reqs.contains m.sq;
      ((s.portUp p && (s.port p).miss.any me) = false → exec (.replayTimeout p sq) s = .next s) ∧
      (s.portUp p = true → ∀ m, (s.port p).miss.find? me = some m → ∃ t, exec (.replayTimeout p sq) s = .next t ∧
        (m.fails < 3 → t.port p = { s.port p with
            miss := (s.port p).miss.map (fun y => if y.sq =
              sq then { y with fails := y.fails + 1, at_ := s.now } else y)
            reqs := (s.port p).reqs ++ [sq] } ∧ t.time = s.time) ∧
        (m.fails = 1 → t.rn (s.pa p 0x5C) = (s.rn (s.pa p 0x5C) + 1) % 2 ^ 32 ∧ t.bit (bitF (s.pa p 0xC) 4) = true ∧
          t.flt.rpt.late = true ∧ sameBits [wordF (s.pa p 0x5C), bitF (s.pa p 0xC) 4] s t) ∧
        (m.fails = 0 ∨ m.fails = 2 → sameRegs [] s t) ∧ (3 ≤ m.fails → linkDied p 1 s t))

/-- SLOT_TRANSMIT of an existing port in FLIT or UP whose transmitters run counts one flit and puts 256 bytes with a
right CRC on the line: a REPLAY with a SEQ sent before, or a flit with the next SEQ. In FLIT state and in TADPOLE it
is an IDLE flit with the identity record. In a T slot of a port in UP outside TADPOLE that is no active eft port, up
to 14 waiting messages, of those that the traffic of the port allows, all leave in one control flit, and with none
an IDLE flit leaves. Otherwise it changes nothing. FLIT_RECEIVE in FLIT or UP takes the codewords that hold the next
flit from the bits of the lanes (the first flit lies where framing finds it, a later one after the flit before it),
each corrected where the decoder can, and counts the uncorrectable ones and the corrected symbols, but those of a
first codeword that the flit before counted; the flit is the 256 bytes at its place in the message parts; one whose
CRC fails, which counts it, or that lies in an uncorrectable codeword is failed and does nothing else; a good one
counts, is the last good one, and its SEQ is missing no longer; a second copy of one counts as duplicate; a first
copy, no REPLAY, that skips SEQs makes each of them missing; a reserved type counts as bad. In another state it
changes nothing. BER_CHECK of one lane of a port in UP forgets the symbols corrected in that lane since its last
check, and sets BER_HIGH with its cause where they were above BER_THR; else it changes no register. The model's
choices: a slot begins at its nominal time, and a replay of a pad flit is empty (log entry 59); one BER_CHECK looks
at one lane, and BER_HIGH stays (log entry 61); the code and its bit order (log entry 114); the ports of a channel
share their replay state (log entry 68). (08_step_link.md) -/
def Obligations.FlitsOnTheLine : Prop :=
  ∀ (s : State) (p : Nat), let x := s.port p;
    (let on := s.portExists p && s.txOn && (s.tstate p == 3 || s.tstate p == 4)
      let c := s.chanOf p
      let pool := ((s.port c).deferred ++ (s.port c).ctrl).filter (fun m => s.maySend c m);
      (on = false → exec (.slotTransmit p) s = .next s) ∧
      (on = true → ∃ t, exec (.slotTransmit p) s = .next t ∧ let f := readFlit (t.port p).lastTx
        t.rn (s.pa p 0x40) = (s.rn (s.pa p 0x40) + 1) % 2 ^ 32 ∧ (t.port p).lastTx.length = 256 ∧
          crcOk (t.port p).lastTx = true ∧
        (f.typ = 8 ∨ f.sq = x.txSeq % 4096 ∧ (t.port p).txSeq = (x.txSeq + 1) % 4096) ∧
        ((s.tstate p = 3 ∨ s.inTadpole = true) → f.typ = 0 ∧ f.plen = 16 ∧
            f.payload.take 16 = beBytes 16 (s.identity p)) ∧
        (s.tstate p = 4 → s.inTadpole = false → s.eftOn p = none → x.slot < 4096 → s.wheelAt p x.slot / 64 = 1 →
            pool.length ≤ 14 →
          f.slot = x.slot ∧ f.plen = (if pool = [] then 16 else 16 * pool.length) ∧ (t.port c).ctrl = [] ∧
            (t.port c).deferred = []))) ∧
    (∀ (ofs : Nat) (cws : List (List Nat)) (pos : List Nat) (mark : Stamp),
      let on := s.portExists p && (s.tstate p == 3 || s.tstate p == 4)
      let at_ := match x.rxAt with
        | some a => a
        | none => ofs % 5140
      let ws := (s.rxWords p at_ cws pos).map rsDecode
      let new := if x.rxAt.isSome && at_ != 0 then ws.drop 1 else ws
      let bad := (new.filter (fun w => w.2.isNone)).length
      let fixed := (new.flatMap (fun w => w.2.getD [])).length
      let flit := leBytes 256 (ws.foldr (fun w v => symbolBits (w.1.take 514) + 2 ^ 5140 * v) 0 / 2 ^ at_ % 2 ^ 2048)
      let fails := !crcOk flit || ws.any (fun w => w.2.isNone)
      let f := readFlit flit;
      (on = false → exec (.flitReceive p ofs cws pos mark) s = .next s) ∧
      (on = true → fails = true → ∃ t, exec (.flitReceive p ofs cws pos mark) s = .next t ∧
          (t.port p).failed = x.failed + 1 ∧
        (t.port p).rxAt = some ((at_ + 2048) % 5140) ∧
        t.rn (s.pa p 0x48) = (s.rn (s.pa p 0x48) + if crcOk flit then 0 else 1) % 2 ^ 32 ∧
        t.rn (s.pa p 0x50) = (s.rn (s.pa p 0x50) + bad) % 2 ^ 32 ∧
          t.rn (s.pa p 0x4C) = (s.rn (s.pa p 0x4C) + fixed) % 2 ^ 32 ∧
        sameRegs [s.pa p 0x48, s.pa p 0x50, s.pa p 0x4C] s t ∧
        t = { s with regs := t.regs, perf := t.perf, ports := t.ports }) ∧
      (on = true → fails = false → ∃ t, exec (.flitReceive p ofs cws pos mark) s = .next t ∧
        t.rn (s.pa p 0x44) = (s.rn (s.pa p 0x44) + 1) % 2 ^ 32 ∧ (t.port p).lastGood = s.now ∧
        t.rn (s.pa p 0x4C) = (s.rn (s.pa p 0x4C) + fixed) % 2 ^ 32 ∧
        (x.hasGot f.sq = false → (t.port p).miss.any (fun m => m.sq == f.sq) = false) ∧
        (x.hasGot f.sq = true → t.rn (s.pa p 0x60) = (s.rn (s.pa p 0x60) + 1) % 2 ^ 32 ∧
            t.bit (bitF (s.pa p 0xC) 1) = true) ∧
        (x.hasGot f.sq = false → f.typ ≠ 8 → ∀ e, x.rxNext = some e → seqDiff f.sq e < 2048 → t.tstate p = s.tstate p →
          ∀ i, i < seqDiff f.sq e → (t.port p).miss.any (fun m => m.sq == (e + i) % 4096) = true) ∧
        (x.hasGot f.sq = false → f.reserved = true → t.rn (s.pa p 0x64) = (s.rn (s.pa p 0x64) + 1) % 2 ^ 32 ∧
          t.bit (bitF (s.pa p 0xC) 3) = true))) ∧
    (∀ lane : Nat, let high := decide (s.rn (s.pa p 0x30) < tget (fun _ => 0) x.laneCorr lane);
      ((s.portExists p && s.portUp p) = false → exec (.berCheck p lane) s = .next s) ∧
      ((s.portExists p && s.portUp p) = true → ∃ t, exec (.berCheck p lane) s = .next t ∧
        t.port p = { x with laneCorr := tset (fun _ => 0) x.laneCorr lane 0 } ∧
      (high = true → t.bit (bitF (s.pa p 8) 9) = true ∧
        t.bit (bitF (s.pa p 0xC) 9) = true ∧ sameBits [bitF (s.pa p 8) 9, bitF (s.pa p 0xC) 9] s t) ∧
      (high = false → sameRegs [] s t)))

/-- At a Krasesta, whose lanes have no such pins, the three commands do nothing. At a die: PHY_RX_LOCK 1 of lanes 0 to 7
notes the lane as locked from now on, once, and changes no register; PHY_RX_LOCK 0 forgets it and, out of reset,
clears its LOCK bit, in UP ends the link with cause 3, and in CODEWORD or FLIT counts TRAIN_FAIL and returns the
port to SIGNAL. PHY_TXFFE_DONE out of reset ends the wait of one lane for its transmit setting, which then drives
the setting that has come meanwhile, if any, and awaits it; it names no lane, and which of those that wait it is the
model leaves free (log entry 150). PHY_MARGIN_TGL of lanes 0 to 7 out of reset copies the margin into LANE_STATUS
and changes no other bit; another lane is no lane, and changes nothing. In reset neither of the last two changes
anything. The model's choice: the settings that a die drives are free (log entry 66). (16_caertin_integration.md) -/
def Obligations.DieLanes : Prop :=
  ∀ s : State,
    (s.part.isK = true → ∀ (lane : Nat) (b : Bool) (mv : Byte), exec (.phyRxLock lane b) s = .next s ∧
        exec .phyTxffeDone s = .next s ∧
      exec (.phyMarginTgl lane mv) s = .next s) ∧
    (s.power.held = true → ∀ (lane : Nat) (mv : Byte), exec .phyTxffeDone s = .next s ∧
        exec (.phyMarginTgl lane mv) s = .next s) ∧
    (s.part.isK = false →
      (∀ lane, let has := s.rxLock.any (fun x => x.1 == lane)
        let L := bitF (s.laneReg 0 lane) 31;
        (8 ≤ lane → exec (.phyRxLock lane true) s = .next s ∧ exec (.phyRxLock lane false) s = .next s) ∧
        (lane < 8 → has = false → exec (.phyRxLock lane true) s =
            .next { s with rxLock := (lane, s.beat.n) :: s.rxLock }) ∧
        (lane < 8 → has = true → exec (.phyRxLock lane true) s = .next s) ∧
        (lane < 8 → s.power.held = true →
          exec (.phyRxLock lane false) s = .next { s with rxLock := s.rxLock.filter (fun y => y.1 != lane) }) ∧
        (lane < 8 → s.power.held = false → ∃ t, exec (.phyRxLock lane false) s = .next t ∧
          t.rxLock = s.rxLock.filter (fun y => y.1 != lane) ∧ t.bit L = false ∧
          (s.tstate 0 = 4 → linkDied 0 3 s t) ∧
          ((s.tstate 0 = 2 ∨ s.tstate 0 = 3) → t.rn (s.pa 0 0x74) = (s.rn (s.pa 0 0x74) + 1) % 2 ^ 32 ∧
              backToSignal 0 s t ∧
            sameRegs ([s.pa 0 0x74, s.laneReg 0 lane] ++ s.trainRegs 0) s t) ∧
          (¬ (2 ≤ s.tstate 0 ∧ s.tstate 0 ≤ 4) → sameBits [L] s t ∧
              t = { s with regs := t.regs, rxLock := t.rxLock }))) ∧
      (s.outs.ffeWait = [] → exec .phyTxffeDone s = .next s) ∧
      (s.power.held = false → s.outs.ffeWait ≠ [] → ∃ t, exec .phyTxffeDone s = .next t ∧ ∃ l ∈ s.outs.ffeWait,
        let next := tget (fun _ => none) s.outs.ffeNext l;
        t.outs.ffeNext = tset (fun _ => none) s.outs.ffeNext l none ∧
        (next = none → t.outs.ffeWait = s.outs.ffeWait.filter (· != l) ∧ t.outs.txffe = s.outs.txffe ∧
            t.outs.txffeTgl = s.outs.txffeTgl) ∧
        (∀ v, next = some v → t.outs.ffeWait = l :: s.outs.ffeWait.filter (· != l) ∧
          t.outs.txffe = tset (fun _ => 0) s.outs.txffe l v) ∧
        t = { s with outs := t.outs, fresh := t.fresh }) ∧
      (∀ (lane : Nat) (mv : Byte), lane < 8 → s.power.held = false → ∃ t, exec (.phyMarginTgl lane mv) s = .next t ∧
        t.f ⟨s.laneReg 0 lane, 0, 8⟩ = mv.toNat ∧ onlyRegs s t ∧ sameBits [⟨s.laneReg 0 lane, 0, 8⟩] s t) ∧
      (∀ (lane : Nat) (mv : Byte), 8 ≤ lane → exec (.phyMarginTgl lane mv) s = .next s))

/-- CROAK_SEND before the croak instant changes nothing. At it the instant goes into the time shadow and the next
instant lies 10 µs later; a node in TADPOLE sends nothing, any other makes one croak of the next CSEQ ready on every
port (one for a ganged channel), with its state, its marks and step, and the CSEQ last heard there. A CROAK of a
port in UP becomes the last one heard on its channel: PEER_STATE shows the state it carries, and a CSEQ other than
the last counts as new; one of another node than expected declares the peer dead with cause 3. On a down port of a
Krasesta that serves no eft still running and that no twin keeps quiet, a croak of an orphan, of a child that has
left its run while leaps are armed, or of a fenced node fences the port with cause 4, 5 or 6. Another message, or a
port not in UP, changes nothing. DETECTOR_CHECK at its instant sets MISS to 0 after a new croak, else to one more,
and at 5 declares the peer dead with cause 1; before it, in loopback, on the second port of a ganged channel, or on
a port not in UP it changes nothing. The model's choices: in TADPOLE croak instants go by the time shadow (log entry
64); a CSEQ counts as new against the last one alone (log entry 147); the command names the first port of a channel
(log entry 135); a command whose trigger does not hold changes nothing (log entry 8). (08_step_link.md,
13_faults.md) -/
def Obligations.CroakAndDetector : Prop :=
  ∀ s : State,
    (¬ s.flt.croakK * 10000 ≤ s.nowNs → exec .croakSend s = .next s) ∧
    (s.flt.croakK * 10000 ≤ s.nowNs → ∃ t, exec .croakSend s = .next t ∧
      t.r96 TSHADOW = tsOf (s.nowNs / 10000 * 10000 * 65536) ∧ sameRegs [TSHADOW, TSHADOW + 4, TSHADOW + 8] s t ∧
      t.flt = { s.flt with shadowAge := 0, croakK := s.nowNs / 10000 + 1, cseq := if s.inTadpole then s.flt.cseq else (s.flt.cseq + 1) % 2 ^ 16 } ∧
      sent (fun p => if s.inTadpole || decide (s.part.numPorts ≤ p) ||
        s.gangedUpper p then [] else [BitVec.ofNat 128 (4 * 2 ^ 120 + s.nst.code * 2 ^ 116 +
        b2n (s.bit ORPHAN) * 2 ^ 115 + b2n s.armed * 2 ^ 114 + b2n (s.part.isK &&
          s.bit BASK) * 2 ^ 113 + b2n (s.bit HALTED) * 2 ^ 112 +
        s.f NODE_ID * 2 ^ 92 + s.flt.cseq % 2 ^ 16 * 2 ^ 76 + (s.port p).lastCseq.getD 0 % 2 ^ 16 * 2 ^ 60 + s.step % 2 ^ 48 * 2 ^ 12)]) s t) ∧
    (∀ (q : Nat) (m : Msg), let p := s.chanOf q
      let sq := bitsOf m.toNat 76 16
      let own := bitsOf m.toNat 92 20 == s.expectedId p
      let run := mKind m == 1 || mKind m == 2
      let cause := if bitOf m.toNat 115 then 4 else if run && s.armed &&
        (s.port p).childRan then 5 else if mKind m = 6 then 6 else 0
      let kid := s.part.isK && s.use p == 1 && !s.quietTwin && !s.fenced p &&
        !eftEntries.any (fun e => s.bit (eftEn e) && !s.bit (bitF (eftStatus e) 4) && s.f (eftPortF e) == p);
      ((s.portUp q && mType m == 4) = false → exec (.croak q m) s = .next s) ∧
      ((s.portUp q && mType m == 4) = true → ∃ t, exec (.croak q m) s = .next t ∧ (t.port p).lastCseq = some sq ∧
        (t.port p).newCroak = ((s.port p).newCroak || (s.port p).lastCseq != some sq) ∧
            (t.port p).childRan = decide (mKind m = 4) ∧
        (p < 72 → t.f (s.detState p) = mKind m) ∧
        (own = true → (s.part.isK && s.use p == 1 && cause != 0) = false →
          sameBits [s.detState p] s t ∧ t = { s with regs := t.regs, ports := t.ports }) ∧
        (own = false → t.isDead p = true) ∧ (own = true → kid = true → cause ≠ 0 → portFenced p cause s t))) ∧
    ∀ p : Nat, let due := s.portUp p && !s.gangedUpper p && !s.looped && decide ((s.port p).checkK * 10000 + 5000 ≤ s.nowNs)
      let n := if (s.port p).newCroak then 0 else min 5 (s.f (s.detMiss p) + 1);
      (due = false → exec (.detectorCheck p) s = .next s) ∧
      (due = true → ∃ t, exec (.detectorCheck p) s = .next t ∧ (p < 72 → t.f (s.detMiss p) = n) ∧
          (t.port p).newCroak = false ∧
        (t.port p).checkK = (s.nowNs + 5000) / 10000 ∧ (n = 5 → t.isDead p = true) ∧
        (n < 5 → sameBits [s.detMiss p] s t ∧ t = { s with regs := t.regs, ports := t.ports }))

/-- MGMT_RECEIVE acts on any MGMT payload, FENCE_NOTICE only on a FENCE notice and UP_SWITCH_NOTICE only on an UP_SWITCH
notice; for another payload, or on a port that is not in UP, the command changes nothing. On a port whose traffic
does not take the flit, FENCE_DROP of the port counts it and nothing else changes. Otherwise a FENCE notice that
names the node, on an up port, makes a node outside TADPOLE and FENCED fence itself with trigger 1, and an UP_SWITCH
notice on a down port makes a quiet twin take over; no other flit changes the state of the node. At a Krasesta the
payload, cut to the buffer, then completes the RX1 descriptor that is held, and with none MGMT_LOST counts it with
its cause; at a die it goes nowhere. The model's choice: a descriptor shorter than the payload is cut with TRUNC
(log entry 90). (13_faults.md, 15_host_interface.md) -/
def Obligations.FaultNotices : Prop :=
  ∀ (s : State) (p : Nat) (pl : List Byte),
    let takes := s.takesMgmt p pl
    let me := isNotice pl 1 && (s.use p == 2 || s.use p == 3 || !s.part.isK) &&
      bitsOf (noticeRec pl) 72 20 == s.f NODE_ID &&
      !s.inTadpole && s.nst != .fenced
    let twin := isNotice pl 2 && s.use p == 1 && s.quietTwin;
    (isNotice pl 1 = false → exec (.fenceNotice p pl) s = .next s) ∧
        (isNotice pl 2 = false → exec (.upSwitchNotice p pl) s = .next s) ∧
    ∀ y ∈ ([(.mgmtReceive p pl, true), (.fenceNotice p pl, isNotice pl 1),
        (.upSwitchNotice p pl, isNotice pl 2)] : List (Instr × Bool)),
      y.2 = true →
        (s.portUp p = false → exec y.1 s = .next s) ∧
        (s.portUp p = true → takes = false → ∃ t, exec y.1 s = .next t ∧
            t.rn (s.pa p 0x6C) = (s.rn (s.pa p 0x6C) + 1) % 2 ^ 32 ∧
          onlyRegs s t ∧ sameRegs [s.pa p 0x6C] s t) ∧
        (s.portUp p = true → takes = true → ∃ t, exec y.1 s = .next t ∧ (me = true → selfFenced 1 t) ∧
          (twin = true → t.bit TAKEN = true ∧ t.bit (bitF GK_CAUSE 7) = true) ∧
          (me = false → twin = false → t.nst = s.nst ∧ t.ports = s.ports ∧ t.time = s.time) ∧
          (s.part.isK = false → me = false → twin = false → t = { s with perf := t.perf }) ∧
          (s.part.isK = true → s.takeDesc 5 [] = none → t.rn MGMT_LOST = (s.rn MGMT_LOST + 1) % 2 ^ 32 ∧
            t.bit (bitF HST_CAUSE 10) = true ∧
              (me = false → twin = false → sameBits [wordF MGMT_LOST, bitF HST_CAUSE 10] s t)) ∧
          (s.part.isK = true → ∀ d, s.takeDesc 5 [] = some d → let n := min pl.length (descLen d)
            wroteBack s t 5 ∧ t.host.dmaAt = descBuf d ∧ t.host.dma = pl.take n ∧
            t.host.wb = [n % 2 ^ 24, d.getD 3 0, p % 128, 0, s.nsField, if n < pl.length then 6 * 2 ^ 24 else 0]))

/-- In TADPOLE FENCE_REQ raises GK_CAUSE bit 3 and changes no other register bit. Elsewhere, with bit 31 a node that is
not FENCED fences itself with trigger 4, and a FENCED one changes nothing. Without bit 31, for a port of a Krasesta
that is no down port in UP, or at a die, it raises GK_CAUSE bit 3 alone. A down port in UP that serves an enabled
eft which has not ended is fenced, and ends that eft with EFT_LOST. Of any other, a fenced port stays as it is; a
quiet twin records cause 7 in FENCE_REC unless a record stands; and any other node fences the port with cause 7, and
with leaps armed forms FAIL 1. UNFENCE of a fenced port of a Krasesta whose child has been seen in TADPOLE, with
leaps not armed, clears the fence, the dead bit, the words of the detector and FENCE_REC, and a fence notice that
has not left, and writes log code 4; any other raises GK_CAUSE bit 3 and changes no other register bit. The model's
choice: an eft whose port is fenced while leaps are armed forms the FAIL of its port (log entry 143). (13_faults.md) -/
def Obligations.FenceCommands : Prop :=
  ∀ (s : State) (v : Word), let p := v.toNat % 128
    let bad : Prop := (∃ t, exec (.fenceReq v) s = .next t ∧ t.bit (bitF GK_CAUSE 3) = true ∧ onlyRegs s t ∧
      sameBits [bitF GK_CAUSE 3] s t)
    let down := s.part.isK && decide (p < 72) && s.use p == 1 && s.portUp p
    let eft := eftEntries.find? (fun e => s.bit (eftEn e) && !s.bit (bitF (eftStatus e) 4) && s.f (eftPortF e) == p)
    let may := s.part.isK && decide (p < 72) && !s.armed && s.fenced p && (s.port p).tadSeen;
    (s.inTadpole = true → bad) ∧
    (s.inTadpole = false → bitOf v.toNat 31 = true → (s.nst = .fenced → exec (.fenceReq v) s = .next s) ∧
      (s.nst ≠ .fenced → ∃ t, exec (.fenceReq v) s = .next t ∧ selfFenced 4 t)) ∧
    (s.inTadpole = false → bitOf v.toNat 31 = false → (down = false → bad) ∧
      (down = true →
        (∀ e, eft = some e → ∃ t, exec (.fenceReq v) s = .next t ∧ t.fenced p = true ∧
            (s.fenced p = false → portFenced p 7 s t) ∧
            t.bit (bitF (eftStatus e) 4) = true ∧ t.bit (bitF (eftStatus e) 5) = false ∧
              t.bit (bitF EFT_CAUSE 2) = true) ∧
        (eft = none → s.fenced p = true → exec (.fenceReq v) s = .next s) ∧
        (eft = none → s.fenced p = false → s.quietTwin = true → ∃ t, exec (.fenceReq v) s = .next t ∧ onlyRegs s t ∧
          t.rn (fenceRec p) = (if bitOf (s.rn (fenceRec p)) 31 then s.rn (fenceRec p) else 2 ^ 31 + 7 * 2 ^ 24 + s.nsField / 64 % 2 ^ 24) ∧
          sameRegs [fenceRec p] s t) ∧
        (eft = none → s.fenced p = false → s.quietTwin = false → ∃ t, exec (.fenceReq v) s = .next t ∧
            portFenced p 7 s t ∧
          (s.armed = true → t.flt.rpt.failSent = true)))) ∧
    (may = true → ∃ t, exec (.unfence v) s = .next t ∧ t.fenced p = false ∧ t.bit (portDead p) = false ∧
        t.rn (detPort p) = 0 ∧
      t.rn (fenceRec p) = 0 ∧ t.nst = s.nst ∧
      t.port p = { s.port p with notices := (s.port p).notices.filter (fun n => !isFenceNotice n) } ∧
      (s.bit LOG_FROZEN = false → t.rn (logEntry (s.f LOG_WPTR)) = 2 ^ 31 + 4 * 2 ^ 16 ∧
        t.rn (logEntry (s.f LOG_WPTR) + 12) = p * 2 ^ 8)) ∧
    (may = false → ∃ t, exec (.unfence v) s = .next t ∧ t.bit (bitF GK_CAUSE 3) = true ∧ onlyRegs s t ∧
        sameBits [bitF GK_CAUSE 3] s t)

/-- GK_CTRL.HALT sets GECKO_HALT with its cause. The armed root stays in its run until its next decision, and its tile
programs stop; any other node disarms, leaves RUNNING for STOPPED without its pending launch, and, where it was
armed and no FAIL of the step had gone, its FAIL 5 leaves on the up ports (at the hall twin it is recorded).
LOG_FREEZE freezes the log, raising GK_CAUSE bit 4 where it was not frozen; LOG_UNFREEZE alone unfreezes it; neither
changes another register bit. Bits written together act as one write: HALT first, and LOG_FREEZE over LOG_UNFREEZE.
SNAP_REQ with a snapshot held adds 1 to COND_LOST and changes nothing else; otherwise it records one of kind 0:
COND_VALID, the step and the NS field of now, the voltage word, temperature, stretch and stretch count of every
region, as a die showed the first two at the beginning of the cycle, the event counters, and FLT_CAUSE bit 2, with
nothing changed but registers. The model's choices: the order of bits written together (log entry 5); the tile
programs of the root stop and report no end (log entry 142). (13_faults.md) -/
def Obligations.GeckoAndLog : Prop :=
  ∀ (s : State) (v : Word),
    (bitOf v.toNat 1 = false → bitOf v.toNat 2 = false → ∃ t, exec (.geckoHalt v) s = .next t ∧
        t.bit GECKO_HALT = true ∧
      t.bit (bitF GK_CAUSE 2) = true ∧ t.leap.relay = true ∧ t.step = s.step ∧ t.time = s.time ∧
      (s.isRoot = true → s.armed = true → t.armed = true ∧ t.nst = s.nst ∧ t.leap.rootLocal = true) ∧
      (s.isRoot = true → ∀ k, k < 72 → (t.tile k).prog = none) ∧
      ((s.isRoot && s.armed) = false → t.armed = false ∧
          (s.nst = .running → t.nst = .stopped ∧ t.bit LAUNCH_PEND = false) ∧
        (s.nst ≠ .running → t.nst = s.nst)) ∧
      (s.atHall = false → s.armed = true → s.leap.failSteps.contains (s.step % 2 ^ 16) = false →
          t.bit (bitF LEAP_CAUSE 9) = true ∧
        sent (onPorts (s.upActive ++ s.upStandby) [leapMsg kFAIL 5 s.step (s.f NODE_ID * 2 ^ 76)]) s t)) ∧
    (bitOf v.toNat 0 = false → ∃ t, exec (.logFreeze v) s = .next t ∧ t.bit LOG_FROZEN = true ∧ onlyRegs s t ∧
      t.bit (bitF GK_CAUSE 4) = (s.bit (bitF GK_CAUSE 4) || !s.bit LOG_FROZEN) ∧
        sameBits [LOG_FROZEN, bitF GK_CAUSE 4] s t) ∧
    (bitOf v.toNat 0 = false → bitOf v.toNat 1 = false → ∃ t, exec (.logUnfreeze v) s = .next t ∧
        t.bit LOG_FROZEN = false ∧
      onlyRegs s t ∧ sameBits [LOG_FROZEN] s t) ∧
    (bitOf v.toNat 1 = true → exec (.logUnfreeze v) s = exec (.logFreeze (v ||| 4)) s) ∧
    (bitOf v.toNat 0 = true → exec (.logFreeze v) s = exec (.geckoHalt (v ||| 2)) s ∧
        exec (.logUnfreeze v) s = exec (.geckoHalt (v ||| 4)) s) ∧
    (∃ t, exec (.geckoHalt v) s = .next t ∧ t.bit GECKO_HALT = true ∧
        (bitOf v.toNat 1 = true → t.bit LOG_FROZEN = true) ∧
      (bitOf v.toNat 1 = false → bitOf v.toNat 2 = true → t.bit LOG_FROZEN = false)) ∧
    (s.bit COND_VALID = true → ∃ t, exec (.snapReq v) s = .next t ∧ t.rn COND_LOST = (s.rn COND_LOST + 1) % 2 ^ 32 ∧
        onlyRegs s t ∧
      sameRegs [COND_LOST] s t) ∧
    (s.bit COND_VALID = false → let was := if s.part.isK then s else s.before
      ∃ t, exec (.snapReq v) s = .next t ∧ t.bit COND_VALID = true ∧ t.f ⟨COND_INFO, 0, 24⟩ = 0 ∧
          t.r64 COND_STEP = s.step ∧
        t.rn COND_NS = s.nsField ∧ t.bit (bitF FLT_CAUSE 2) = true ∧ onlyRegs s t ∧
        (∀ r, r < s.part.numRegions → t.rn (condR r 0) = was.rn (monVf r) ∧ t.rn (condR r 1) = was.rn (monT r) ∧
          t.rn (condR r 2) = s.rn (stretchLast r) ∧ t.rn (condR r 3) = s.rn (stretchCount r)) ∧
        (∀ k, k < 16 → t.r64 (perfAt k) = tget (fun _ => 0) s.perf.cnt k % 2 ^ 64) ∧
        (s.part.isK = true → ∀ k, k < 32 → t.r64 (0x701000 + 8 * k) = tget (fun _ => 0) s.perf.cnt (16 + k) % 2 ^ 64))

/-- CORE_MAP_WRITE does nothing at a Krasesta or for a core that does not exist, and raises CFG_LOCKED alone while a
load runs; else in STOPPED or TADPOLE, with a physical core that no other entry names, it stores the entry and, out
of reset, steps CMAP_SEQ, and otherwise it raises CFG_LOCKED alone. EFT_CFG_WRITE does nothing at a die, while the
main part does not answer, or for an entry that does not exist; else while a load runs or leaps are armed it raises
CFG_LOCKED alone; an enable against R324 raises EFT_CAUSE bit 3 alone. An enable of a disabled entry stores it and
clears its clean counts, status and log and its comparison, and keeps its count of mismatches; of an enabled entry
it stores its fields alone; a write that disables an enabled entry stores it, and an eft that had not ended ends
with EFT_LOST and its port fenced, with a cause that the spec leaves open (the model's choice, log entry 65).
EFT_STEP_CLOSE of an entry that is not active, or before the closing instant, or at a die, changes nothing. A step
without mismatch adds 1 to both clean counts; one with a mismatch counts it, clears the run of clean steps, raises
EFT_CAUSE bit 1, marks the step report, makes sure of a snapshot and writes the mismatch into the log of the entry.
Either way the comparison of the next step begins. Also the model's choices: CMAP_SEQ steps at each accepted write
(log entry 147); when a comparison begins (log entry 143); a command whose trigger does not hold changes nothing
(log entry 8). (13_faults.md, 16_caertin_integration.md) -/
def Obligations.MapsAndEfts : Prop :=
  ∀ s : State,
    (∀ (l : Nat) (v : Word), let used := (List.range s.part.numCores).any (fun k => k != l && s.f (coreMap k) == v.toNat % 256)
      let may := (s.nst == .stopped || s.nst == .tadpole) && !used;
      ((!s.part.isK && decide (l < s.part.numCores)) = false → exec (.coreMapWrite l v) s = .next s) ∧
      (s.part.isK = false → l < s.part.numCores → (s.bit LOAD_BUSY || !may) = true →
          ∃ t, exec (.coreMapWrite l v) s = .next t ∧
        t.bit (bitF LEAP_CAUSE 12) = true ∧ onlyRegs s t ∧ sameBits [bitF LEAP_CAUSE 12] s t) ∧
      (s.part.isK = false → s.bit LOAD_BUSY = false → l < s.part.numCores → may = true →
          ∃ t, exec (.coreMapWrite l v) s = .next t ∧
        t.f (coreMap l) = v.toNat % 2 ^ (coreMap l).w ∧ sameBits [coreMap l] s t ∧ t = { s with
          regs := t.regs, outs := { s.outs with cmapSeq := if s.mainOn then (s.outs.cmapSeq + 1) % 16 else s.outs.cmapSeq } })) ∧
    (∀ (e : Nat) (v : Word), let on := bitOf v.toNat 31
      let w := v.toNat % 2 ^ 15 - v.toNat % 2 ^ 8 + v.toNat % 2 ^ 7
      let lock := s.bit LOAD_BUSY || s.armed
      let go := s.part.isK && s.mainOn && !lock && decide (e < 2);
      ((s.part.isK && s.mainOn && decide (e < 2)) = false → exec (.eftCfgWrite e v) s = .next s) ∧
      ((s.part.isK && s.mainOn && decide (e < 2) && lock) = true → ∃ t, exec (.eftCfgWrite e v) s = .next t ∧
          t.bit (bitF LEAP_CAUSE 12) = true ∧
        onlyRegs s t ∧ sameBits [bitF LEAP_CAUSE 12] s t) ∧
      (go = true → on = true → s.eftOk v.toNat = false → ∃ t, exec (.eftCfgWrite e v) s = .next t ∧
          t.bit (bitF EFT_CAUSE 3) = true ∧
        onlyRegs s t ∧ sameBits [bitF EFT_CAUSE 3] s t) ∧
      (go = true → on = true → s.eftOk v.toNat = true → ∃ t, exec (.eftCfgWrite e v) s = .next t ∧
          t.rn (eftCfg e) = 2 ^ 31 + w ∧
        (s.bit (eftEn e) = true → onlyRegs s t ∧ sameRegs [eftCfg e] s t) ∧
        (s.bit (eftEn e) = false → t.rn (eftCfg e + 4) = 0 ∧ t.rn (eftCfg e + 8) = 0 ∧
            t.rn (eftCfg e + 0xC) = s.rn (eftCfg e + 0xC) ∧
          t.rn (eftStatus e) = 0 ∧ t.eft e = {} ∧ ∀ i, i < 16 → t.rn (eftLog e i) = 0)) ∧
      (go = true → on = false → ∃ t, exec (.eftCfgWrite e v) s = .next t ∧ t.rn (eftCfg e) = w ∧
        (s.bit (eftEn e) = false → onlyRegs s t ∧ sameRegs [eftCfg e] s t) ∧
        (s.bit (eftEn e) = true → s.bit (bitF (eftStatus e) 4) = false → t.bit (bitF EFT_CAUSE 2) = true ∧
          t.bit (bitF (eftStatus e) 4) = true ∧ t.fenced (s.f (eftPortF e)) = true))) ∧
    ∀ e : Nat, let n := (s.eft e).closeStep
      let past := decide (n + 1 < s.step) ||
        (decide (s.step = n + 1) && decide (s.leap.firedAt + 10000 * 65536 ≤ s.now))
      let go := s.part.isK && decide (e < 2) && s.bit (eftEn e) && s.bit (bitF (eftStatus e) 5) && past
      let i := s.rn (eftStatus e) % 16;
      (go = false → exec (.eftStepClose e) s = .next s) ∧
      (go = true → ∃ t, exec (.eftStepClose e) s = .next t ∧ t.eft e = (s.eft e).close n ∧ (t.eft e).closeStep = n + 1 ∧
        ((s.eft e).judge n = none → t.rn (eftCfg e + 4) = (s.rn (eftCfg e + 4) + 1) % 2 ^ 32 ∧
          t.rn (eftCfg e + 8) = (s.rn (eftCfg e + 8) + 1) % 2 ^ 32 ∧ sameRegs [eftCfg e + 4, eftCfg e + 8] s t) ∧
        ∀ y, (s.eft e).judge n = some y → t.rn (eftCfg e + 0xC) = (s.rn (eftCfg e + 0xC) + 1) % 2 ^ 32 ∧
          t.rn (eftCfg e + 8) = 0 ∧ t.rn (eftStatus e) % 16 = (i + 1) % 16 ∧ t.bit (bitF EFT_CAUSE 1) = true ∧
          t.flt.rpt.eftMism = true ∧ t.bit COND_VALID = true ∧ t.r64 (eftLog e i + 4) = n % 2 ^ 64 ∧
          t.rn (eftLog e i) = (2 ^ 31 + y.1 * 2 ^ 27 + y.2.1 % 64 * 2 ^ 21 + min y.2.2 (2 ^ 21 - 1)) % 2 ^ 32 ∧
            t.rn (eftLog e i + 0xC) = s.nsField)

/-- DATA_DUE with no flit of the queue that is due (and, at a die of a delivering queue, written) changes nothing;
otherwise the oldest such flit leaves the queue. Where the queue forwards, the flit joins those eligible for its
transmit queue, in the order of R205, and nothing but ports changes; where its route leads to a port with reduced
traffic its buffer entry is freed and FENCE_DROP of that port counts it. A delivering queue of a Krasesta writes the
ring entry (240 bytes of payload, PLEN and 15 zeros, in stack space or in bonded memory) and no other byte of
memory, advances RXQ_DELIV, frees the buffer entry and, for a late flit alone, counts RX_LATE with its cause; that
of a die has its entry written already. Where the queue names an arrival counter of the node, an ADD of 1 due now
joins the ADDs of the counter unit. A die takes BULK_READ_DATA and BULK_WRITE_RESPONSE of an outstanding TAG; a TAG
that is not outstanding, and any answer at a Krasesta or while the die is held in reset, changes nothing. A beat
before the last joins the data of its TAG. The last beat of a ring read gives the entry its bytes, and that of an
egg read the bytes of the egg; the response to a ring write frees its buffer entry and advances RXQ_DELIV, and with
a bulk error marks POISON in the step report; a bulk error of a ring read leaves the entry without bytes, and of an
egg transfer sets FAILED. The TAG is then free, and waiting requests take TAGs in order. The model's choices: a ring
entry of a Krasesta is written when its flit falls due (log entry 58); a command whose trigger does not hold changes
nothing (log entry 8). (09_scheduled_transport.md, 16_caertin_integration.md) -/
def Obligations.DataDelivery : Prop :=
  ∀ s : State,
    (∀ p q : Nat, let l := s.rxq p q
      let ready := fun (e : RxEnt) => decide (e.due ≤ s.now) && (s.part.isK || e.wrote || s.rxKind p q != 1)
      let fp := s.fwdPort p q
      let fq := s.fwdQueue p q
      let sel := s.rxSel p q
      let arr := s.rn (s.qa p q 0x10)
      let a := s.ringAddr sel (s.qa p q 8) (s.rn (s.qa p q 0xC)) (s.rn (s.qa p q 0x2C))
      let adds : List PendAdd := if bitOf arr 31 && s.hasCounter (bitsOf arr 8 8) (bitsOf arr 0 6) then
        [⟨s.now, bitsOf arr 8 8, bitsOf arr 0 6, 1, false, 0⟩] else [];
      (l.find? ready = none → exec (.dataDue p q) s = .next s) ∧
      ∀ e, l.find? ready = some e →
        (s.rxKind p q = 2 → s.reduced fp = false → ∃ t, exec (.dataDue p q) s = .next t ∧ t.rxq p q = l.eraseP ready ∧
          (t.txq fp fq).fwd = insBy fwdLt ⟨e.due, p, e.sq, q, e.plen, e.data⟩ (s.txq fp fq).fwd ∧
              t = { s with ports := t.ports }) ∧
        (s.rxKind p q = 2 → s.reduced fp = true → ∃ t, exec (.dataDue p q) s = .next t ∧ t.rxq p q = l.eraseP ready ∧
          t.rn (s.pa fp 0x6C) = (s.rn (s.pa fp 0x6C) + 1) % 2 ^ 32 ∧ t.f (s.occNow p q) = s.f (s.occNow p q) - 1 ∧
          sameBits [wordF (s.pa fp 0x6C), s.occNow p q] s t ∧ t = { s with regs := t.regs, ports := t.ports }) ∧
        (s.part.isK = true → s.rxKind p q ≠ 2 → ∃ t, exec (.dataDue p q) s = .next t ∧ t.rxq p q = l.eraseP ready ∧
          t.rn (s.qa p q 0x2C) = (s.rn (s.qa p q 0x2C) + 1) % 2 ^ 32 ∧ t.f (s.occNow p q) = s.f (s.occNow p q) - 1 ∧
          t.cnt = { s.cnt with adds := s.cnt.adds ++ adds } ∧
          t.rn RX_LATE = (s.rn RX_LATE + b2n e.late) % 2 ^ 32 ∧ (e.late = true → t.bit (bitF Q_CAUSE 1) = true) ∧
          (sel ≠ 0 → (bitOf arr 31 = false ∨ adds ≠ []) →
            sameBits [wordF (s.qa p q 0x2C), s.occNow p q, wordF RX_LATE, bitF Q_CAUSE 1] s t) ∧
          (sel ≠ 0 → t.bonded = s.bonded ∧ (∀ b, (b < a ∨ a + 256 ≤ b) → t.stack.byte b = s.stack.byte b) ∧
            (e.data.length = 240 → ∀ i, i < 256 → a + i < stackBytes → t.stack.byte (a + i) =
              if i < 240 then e.data.getD i 0 else if i = 240 then BitVec.ofNat 8 e.plen else 0)) ∧
          (sel = 0 → 64 * tileBytes ≤ a → t.bonded = s.bonded ∧ t.stack = s.stack) ∧
          (sel = 0 → a < 64 * tileBytes → let g := s.bondedAt a
            t.stack = s.stack ∧ (∀ b, (b < g ∨ g + 256 ≤ b) → t.bonded.byte b = s.bonded.byte b) ∧
            (e.data.length = 240 → ∀ i, i < 256 → t.bonded.byte (g + i) =
              if i < 240 then e.data.getD i 0 else if i = 240 then BitVec.ofNat 8 e.plen else 0))) ∧
        (s.part.isK = false → s.rxKind p q ≠ 2 → ∃ t, exec (.dataDue p q) s = .next t ∧ t.rxq p q = l.eraseP ready ∧
          t.cnt = { s.cnt with adds := s.cnt.adds ++ adds } ∧
          ((bitOf arr 31 = false ∨ adds ≠ []) → t = { s with ports := t.ports, cnt := t.cnt }))) ∧
    ∀ tag : Nat, let on := !s.part.isK && !s.power.held
      let rd := s.bulk.rdOut.find? (fun x => x.1 == tag)
      let wr := s.bulk.wrOut.find? (fun x => x.1 == tag)
      let outR := s.bulk.rdOut.filter (fun x => x.1 != tag)
      let outW := s.bulk.wrOut.filter (fun x => x.1 != tag);
      (∀ (data : List Byte) (err : Bool), (on = false ∨ rd = none) → exec (.bulkReadData tag data err) s = .next s) ∧
      (∀ err : Bool, (on = false ∨ wr = none) → exec (.bulkWriteResponse tag err) s = .next s) ∧
      (on = true → ∀ y, rd = some y → ∀ data : List Byte, let r := y.2
        let all := r.data ++ (data ++ List.replicate 128 0).take 128
        let got := (all.drop (r.addr % 128)).take r.len;
        (all.length / 128 < r.beats → exec (.bulkReadData tag data false) s =
          .next { s with bulk := { s.bulk with rdOut := outR ++ [(tag, { r with data := all })] } }) ∧
        (r.beats ≤ all.length / 128 → (∀ o, r.use ≠ .image o) → ∃ t, exec (.bulkReadData tag data false) s = .next t ∧
          (t.bulk.rdWait, t.bulk.rdOut) = bulkTake s.bulk.rdWait outR ∧
          (r.use = .dropped → t = { s with bulk := t.bulk }) ∧
          (∀ q i : Nat, r.use = .txRing q i →
            t = { s with bulk := t.bulk, ports := t.ports } ∧
            (s.txSent 0 q ≤ i → (t.txq 0 q).buf = (s.txq 0 q).buf ++ [(i, some got)]) ∧
                (i < s.txSent 0 q → t.ports = s.ports)) ∧
          (∀ e o : Nat, r.use = .eggRead e o →
            t = { s with bulk := t.bulk, spawn := t.spawn } ∧ (s.spawn.srcEgg ≠ some e → t.spawn = s.spawn) ∧
            (s.spawn.srcEgg = some e → ∀ i, i < got.length →
                tget (fun _ => none) t.spawn.src (o + i) = some (got.getD i 0)))) ∧
        (∀ q i : Nat, r.use = .txRing q i →
          s.txSent 0 q ≤ i → ∃ t, exec (.bulkReadData tag data true) s = .next t ∧
            (t.txq 0 q).buf = (s.txq 0 q).buf ++ [(i, none)] ∧
            t.regs = s.regs ∧ sameMem s t) ∧
        (∀ e o : Nat, r.use = .eggRead e o → ∃ t, exec (.bulkReadData tag data true) s = .next t ∧
          t.bit S_FAILED = true ∧ t.bit (bitF Q_CAUSE 8) = true ∧ sameMem s t)) ∧
      (on = true → ∀ y, wr = some y → ∀ err : Bool, (∀ o, y.2.use ≠ .image o) →
          ∃ t, exec (.bulkWriteResponse tag err) s = .next t ∧
        (t.bulk.wrWait, t.bulk.wrOut) = bulkTake s.bulk.wrWait outW ∧ sameMem s t ∧
        (y.2.use = .eggWrite → (err = true → t.bit S_FAILED = true ∧ t.bit (bitF Q_CAUSE 8) = true) ∧
          (err = false → t = { s with bulk := t.bulk })) ∧
        ∀ q sq : Nat, y.2.use = .rxRing q sq →
          let me := fun (e : RxEnt) => e.sq == sq && !e.wrote;
          ((s.rxq 0 q).find? me = none → t = { s with bulk := t.bulk }) ∧
          ∀ e, (s.rxq 0 q).find? me = some e → t.rn (s.qa 0 q 0x2C) = (s.rn (s.qa 0 q 0x2C) + 1) % 2 ^ 32 ∧
            t.f (s.occNow 0 q) = s.f (s.occNow 0 q) - 1 ∧ (err = true → t.flt.rpt.poison = true) ∧
            (e.due < s.now → t.rxq 0 q = (s.rxq 0 q).eraseP me ∧ t.rn RX_LATE = (s.rn RX_LATE + 1) % 2 ^ 32) ∧
            (s.now ≤ e.due → t.rxq 0 q = (s.rxq 0 q).map (fun x => if me x then { x with wrote := true } else x) ∧
              t.rn RX_LATE = s.rn RX_LATE))

/-- Where the main part does not answer, SPAWN_ARM and SPAWN_DISARM change nothing. SPAWN_DISARM clears S_ARMED and
RESUMING, ends the flows of the ports and keeps the eggs held; with the bit ARM it then arms, as SPAWN_ARM with the
bit DISARM does. SPAWN_ARM where the conditions of R215 do not hold raises Q_CAUSE bit 9 alone. Where they hold,
S_ARMED becomes 1, and S_FAILED, RESUMING and SRC_DONE 0; the eggs held are those of the source range and, with the
SPAWN_ID of the eggs held before, those too; DOWN_CUM, HELD_ALL, SUB_CUM and, at the root, COMPLETE follow from them
(HELD_ALL as SPAWN_STATUS shows it), PARENT_CUM and every CHILD_CUM become 0xFFFFFF, and a CONTROL record is due on
every port in use. CONTROL_RECORD with another ETYPE or on an unused port changes nothing; on a port whose traffic
does not take it FENCE_DROP alone counts it; with RESUME_V on a down port it makes a quiet twin take over. Otherwise
one with no spawn armed changes nothing and one of another spawn counts in STRAY_FLIT; one of the armed spawn sets
the LIMIT of its port, and one with RESUME_V on a port below restarts the counts of that port at FROM and raises
Q_CAUSE bit 7; from the parent it sets PARENT_CUM, and the first one there, where eggs are sent again, puts the eggs
of the node above it first in the queue of the up ports; from a child of the layout whose port is not fenced it sets
CHILD_CUM, and SUB_CUM follows. CONTROL_RECORD_SEND with a change to report, or 100,000 ns after the last record,
makes the record of the port ready for its next slot; otherwise, and with no spawn armed or on a port unused or with
reduced traffic, it changes nothing. The model's choices: the bits ARM and DISARM of one write (log entry 5); a
source does not send again what its parent holds (log entry 138); a command whose trigger does not hold changes
nothing (log entry 8). (09_scheduled_transport.md) -/
def Obligations.SpawnCommands : Prop :=
  ∀ s : State,
    (∀ v : Word, s.mainOn = false → exec (.spawnArm v) s = .next s ∧ exec (.spawnDisarm v) s = .next s) ∧
    (s.mainOn = true → ∀ v : Word,
      (∃ u, exec (.spawnDisarm 2) s = .next u ∧ u.bit S_ARMED = false ∧ u.bit RESUMING = false ∧
        u.spawn = { s.spawn with dirs := [], resend := false, srcEgg := none, src := [] } ∧
        sameBits [S_ARMED, RESUMING] s u ∧ u = { s with regs := u.regs, spawn := u.spawn } ∧
        (bitOf v.toNat 0 = false → exec (.spawnDisarm v) s = .next u) ∧
        (bitOf v.toNat 0 = true → exec (.spawnDisarm v) s = exec (.spawnArm 1) u) ∧
        (bitOf v.toNat 1 = true → exec (.spawnArm v) s = exec (.spawnArm 1) u)) ∧
      (bitOf v.toNat 1 = false → s.spawnOk = false → ∃ t, exec (.spawnArm v) s = .next t ∧
          t.bit (bitF Q_CAUSE 9) = true ∧
        onlyRegs s t ∧ sameBits [bitF Q_CAUSE 9] s t) ∧
      (bitOf v.toNat 1 = false → s.spawnOk = true → let same := s.f SPAWN_ID == s.spawn.heldId
        let lo := s.f SRC_FIRST
        let hi := lo + s.f SRC_COUNT
        ∃ t, exec (.spawnArm v) s = .next t ∧ let n := runFrom 0 t.spawn.held
          t.bit S_ARMED = true ∧ t.bit S_FAILED = false ∧ t.bit RESUMING = false ∧ t.bit SRC_DONE = false ∧
          t.spawn.heldId = s.f SPAWN_ID ∧ t.spawn.srcNext = lo ∧ t.spawn.bad = [] ∧
          t.spawn.resend = (same && !s.spawn.held.isEmpty) ∧
          (∀ e ∈ t.spawn.held, (same = true ∧ e ∈ s.spawn.held) ∨ (lo ≤ e ∧ e < hi)) ∧
          (∀ e ∈ s.spawn.held, same = true → e ∈ t.spawn.held) ∧ (∀ i, i < s.f SRC_COUNT → lo + i ∈ t.spawn.held) ∧
          t.f DOWN_CUM = (if n = 0 then 0xFFFFFF else n - 1) % 2 ^ 24 ∧
            (t.live SPAWN_STATUS).map (fun w => bitOf w 2) = some (decide (n = s.eggs)) ∧
          t.f SUB_CUM = (if s.part.isK && !s.kidPorts.isEmpty then 0xFFFFFF else t.f DOWN_CUM) ∧
          t.bit COMPLETE = (s.isRoot && t.subAll) ∧ t.f PARENT_CUM = 0xFFFFFF ∧
          (s.part.isK = true → ∀ p, p < 72 → t.f (childCum p) = 0xFFFFFF) ∧
          (∀ p, p < s.part.numPorts → s.use p ≠ 0 → t.dir p = { due := true }) ∧
          t = { s with regs := t.regs, beat := s.beat.noted t.beat, spawn := t.spawn } ∧
          sameBits ([S_ARMED, S_FAILED, RESUMING, SRC_DONE, COMPLETE, DOWN_CUM, SUB_CUM, PARENT_CUM, bitF Q_CAUSE 5,
            bitF Q_CAUSE 6] ++ s.allPorts.map childCum) s t)) ∧
    (∀ (port : Nat) (pl : List Byte), let p := s.chanOf port
      let b := recBody pl
      let resume := bitOf b 127
      let twin := resume && s.quietTwin && s.use p == 1
      let takes := !s.reduced p || (twin && !s.fencePort p)
      let go := eggEtype pl == 2 && s.use p != 0 && takes && !twin;
      ((eggEtype pl ≠ 2 ∨ s.use p = 0) → exec (.controlRecord port pl) s = .next s) ∧
      (eggEtype pl = 2 → s.use p ≠ 0 → takes = false → ∃ t, exec (.controlRecord port pl) s = .next t ∧
        t.rn (s.pa p 0x6C) = (s.rn (s.pa p 0x6C) + 1) % 2 ^ 32 ∧ onlyRegs s t ∧ sameRegs [s.pa p 0x6C] s t) ∧
      (eggEtype pl = 2 → s.use p ≠ 0 → takes = true → twin = true → ∃ t, exec (.controlRecord port pl) s = .next t ∧
        t.bit TAKEN = true ∧ t.bit (bitF GK_CAUSE 7) = true) ∧
      (go = true → s.bit S_ARMED = false → exec (.controlRecord port pl) s = .next s) ∧
      (go = true → s.bit S_ARMED = true → eggId pl ≠ s.f SPAWN_ID → ∃ t, exec (.controlRecord port pl) s = .next t ∧
        t.rn STRAY_FLIT = (s.rn STRAY_FLIT + 1) % 2 ^ 32 ∧ t.bit (bitF Q_CAUSE 3) = true ∧ onlyRegsEv s t ∧
        sameBits [wordF STRAY_FLIT, bitF Q_CAUSE 3] s t) ∧
      (go = true → s.bit S_ARMED = true → eggId pl = s.f SPAWN_ID → ∃ t, exec (.controlRecord port pl) s = .next t ∧
        (t.dir p).limit = bitsOf b 16 16 ∧
        (resume = true → s.spawnDown p = true → (t.dir p).begun = 0 ∧ (t.dir p).done = 0 ∧ (t.dir p).txEgg = none ∧
          (t.dir p).downNext = bitsOf b 96 24 ∧ (t.dir p).due = true ∧ t.bit (bitF Q_CAUSE 7) = true) ∧
        (s.spawnUp.contains p = true → t.f PARENT_CUM = bitsOf b 64 24 ∧
          (s.spawn.resend = true → t.spawn.resend = false ∧ ∀ u ∈ s.spawnUp, (t.dir u).upQ.take
            (s.spawn.below.filter (fun (e : Nat) => decide (cumOrd (bitsOf b 64 24) < (e : Int)))).length =
              s.spawn.below.filter (fun (e : Nat) => decide (cumOrd (bitsOf b 64 24) < (e : Int))))) ∧
        (s.part.isK = true → s.spawnUp.contains p = false → s.use p = 1 → s.fenced p = false →
          eftEntries.all (fun e => !(s.bit (eftEn e) && s.f (eftPortF e) == p)) = true →
          t.f (childCum p) = bitsOf b 32 24 ∧ t.f SUB_CUM = t.subCum) ∧
        sameMem s t)) ∧
    ∀ port : Nat, let p := s.chanOf port
      let go := s.bit S_ARMED && s.use p != 0 && !s.reduced p &&
        ((s.dir p).due || decide ((s.dir p).sentAt + 100000 * 65536 ≤ s.now));
      (go = false → exec (.controlRecordSend port) s = .next s) ∧
      (go = true → ∃ t, exec (.controlRecordSend port) s = .next t ∧ t.dir p = { s.dir p with ready := true } ∧
        (∀ q, q ≠ p → t.dir q = s.dir q) ∧ t = { s with spawn := { s.spawn with dirs := t.spawn.dirs } })

/-- EGG_PART and EGG_TRAILER with another ETYPE or on an unused port change nothing, and on a port with reduced traffic
FENCE_DROP alone counts them; one of another spawn, or with no spawn armed, counts in STRAY_FLIT with its cause and
the event counters alone. Part 0 of an egg begins it: the bytes received are those of the part. The next part in
order adds its bytes; any other marks the egg bad. The bytes of an egg of the image that the node does not hold go
to its region: a Krasesta writes its stack space and no other byte, a die asks its bulk port to write them; of any
other egg they go nowhere. A trailer ends the reception of its egg. A held egg counts in EGG_DUP, and as finished;
of another the check begins, which passes where the parts came in order, the number is one of the image, LEN is the
length of the egg and of the bytes received, and DIGEST is their SHA-256. EGG_CHECK_DONE with no check changes
nothing; otherwise it ends every check. Where it is the only one: an egg held by now counts in EGG_DUP; a passing
one becomes held and counts in EGG_RX, DOWN_CUM and HELD_ALL follow, from below it joins the queue of the up ports,
and it ends the resumption that began with it; a failing one counts in EGG_BAD with Q_CAUSE bit 4 and is not held,
and from below, or as the third failing copy from the parent, sets S_FAILED, while before the third a node that has
not failed asks again from that egg with RESUMING. The finished count of the port advances, but for an egg from
before a resumption. The model's choices: an egg number outside the image fails (log entry 18); an egg held by the
end of its check counts as a duplicate (log entry 137); a command whose trigger does not hold changes nothing (log
entry 8). (09_scheduled_transport.md) -/
def Obligations.EggsArrive : Prop :=
  ∀ s : State,
    (∀ (port : Nat) (pl : List Byte), let p := s.chanOf port
      let e := eggNum pl
      let k := eggPart pl
      let d := s.dir p
      let n := min 232 (s.eggLen e - 232 * k)
      let bs := (pl.take (8 + n)).drop 8
      let a := s.eggAddr e + 232 * k
      let keep := decide (e < s.eggs) && !s.spawn.held.contains e;
      ((eggEtype pl ≠ 0 ∨ s.use p = 0) → exec (.eggPart port pl) s = .next s) ∧
      ((eggEtype pl ≠ 1 ∨ s.use p = 0) → exec (.eggTrailer port pl) s = .next s) ∧
      (∀ y ∈ ([(.eggPart port pl, eggEtype pl == 0), (.eggTrailer port pl, eggEtype pl == 1)] : List (Instr × Bool)),
          y.2 = true → s.use p ≠ 0 →
        (s.reduced p = true → ∃ t, exec y.1 s = .next t ∧ t.rn (s.pa p 0x6C) = (s.rn (s.pa p 0x6C) + 1) % 2 ^ 32 ∧
          onlyRegs s t ∧ sameRegs [s.pa p 0x6C] s t) ∧
        (s.reduced p = false → s.eggMine pl = false → ∃ t, exec y.1 s = .next t ∧
          t.rn STRAY_FLIT = (s.rn STRAY_FLIT + 1) % 2 ^ 32 ∧ t.bit (bitF Q_CAUSE 3) = true ∧ onlyRegsEv s t ∧
          sameBits [wordF STRAY_FLIT, bitF Q_CAUSE 3] s t)) ∧
      (eggEtype pl = 0 → s.use p ≠ 0 → s.reduced p = false → s.eggMine pl = true →
          ∃ t, exec (.eggPart port pl) s = .next t ∧
        (k = 0 → t.dir p = { d with rxEgg := some e, rxParts := 1, rxBytes := bs, rxBad := false }) ∧
        (k ≠ 0 → d.rxEgg = some e → d.rxParts = k → t.dir p = { d with rxParts := k + 1, rxBytes := d.rxBytes ++ bs }) ∧
        (k ≠ 0 → (d.rxEgg ≠ some e ∨ d.rxParts ≠ k) → t.dir p = { d with rxEgg := some e, rxBad := true }) ∧
        (∀ q, q ≠ p → t.dir q = s.dir q) ∧
        (keep = false → t = { s with spawn := { s.spawn with dirs := t.spawn.dirs } }) ∧
        (keep = true → s.part.isK = true →
            t = { s with spawn := { s.spawn with dirs := t.spawn.dirs }, stack := t.stack, perf := t.perf } ∧
          (∀ i, i < bs.length → a + i < stackBytes → t.stack.byte (a + i) = bs.getD i 0) ∧
          (∀ b, (b < a ∨ a + bs.length ≤ b) → t.stack.byte b = s.stack.byte b)) ∧
        (keep = true → s.part.isK = false →
            t = { s with spawn := { s.spawn with dirs := t.spawn.dirs }, bulk := t.bulk } ∧
          (t.bulk.wrWait, t.bulk.wrOut) =
              bulkTake (s.bulk.wrWait ++ (bulkCuts (bs.length / 2048 + 2) a bs.length).map (fun x =>
            { use := .eggWrite, addr := x.1 % 2 ^ 52, len := x.2, beats := bulkBeats x.1 x.2, data := (bs.drop (x.1 - a)).take x.2 }))
              s.bulk.wrOut)) ∧
      (eggEtype pl = 1 → s.use p ≠ 0 → s.reduced p = false → s.eggMine pl = true →
          ∃ t, exec (.eggTrailer port pl) s = .next t ∧
        sameMem s t ∧ (∀ q, q ≠ p → t.dir q = s.dir q) ∧
        (s.spawn.held.contains e = true → t.rn EGG_DUP = (s.rn EGG_DUP + 1) % 2 ^ 32 ∧
            onlyRegsEv { s with spawn := t.spawn } t ∧
          sameRegs [EGG_DUP] s t ∧ t.spawn.held = s.spawn.held ∧ t.dir p = { d with
            rxEgg := none, rxParts := 0, rxBytes := [], rxBad := false, done := (d.done + 1) % 2 ^ 16, due := true }) ∧
        (s.spawn.held.contains e = false → t = { s with spawn := { s.spawn with dirs := t.spawn.dirs } } ∧
            t.dir p = { d with
          rxEgg := none, rxParts := 0, rxBytes := [], rxBad := false
          checks := d.checks ++ [(e, d.rxEgg == some e && !d.rxBad && decide (e < s.eggs) &&
            beNat ((pl.drop 8).take 4) == s.eggLen e &&
            d.rxBytes.length == s.eggLen e && sha256 d.rxBytes == (pl.drop 16).take 32, true)] }))) ∧
    (s.allPorts.all (fun p => (s.dir p).checks.isEmpty) = true → exec .eggCheckDone s = .next s) ∧
    (∃ t, exec .eggCheckDone s = .next t ∧ ∀ p, p < s.part.numPorts → (t.dir p).checks = []) ∧
    ∀ p : Nat, p < s.part.numPorts → s.allPorts.all (fun q => q == p || (s.dir q).checks.isEmpty) = true →
      ∀ x ∈ (s.dir p).checks, (s.dir p).checks.length = 1 → let e := x.1
        let has := s.spawn.held.contains e
        let child := s.spawnDown p
        let third := decide (2 ≤ s.spawn.bad.count e)
        ∃ t, exec .eggCheckDone s = .next t ∧ sameMem s t ∧ (t.dir p).checks = [] ∧
          (has = true → t.rn EGG_DUP = (s.rn EGG_DUP + 1) % 2 ^ 32 ∧ sameRegs [EGG_DUP] s t ∧
              t.spawn.held = s.spawn.held) ∧
          (has = false → x.2.1 = true → let n := runFrom 0 t.spawn.held
            t.rn EGG_RX = (s.rn EGG_RX + 1) % 2 ^ 32 ∧ t.spawn.held = insNat e s.spawn.held ∧
            t.f DOWN_CUM = (if n = 0 then 0xFFFFFF else n - 1) % 2 ^ 24 ∧
            (t.live SPAWN_STATUS).map (fun w => bitOf w 2) = some (decide (n = s.eggs)) ∧
            t.bit RESUMING = (s.bit RESUMING && s.spawn.resFrom != e) ∧
            (child = true → t.spawn.below = insNat e s.spawn.below ∧
                ∀ u ∈ s.spawnUp, (t.dir u).upQ = (s.dir u).upQ ++ [e]) ∧
            (child = false → t.spawn.below = s.spawn.below)) ∧
          (has = false → x.2.1 = false → t.rn EGG_BAD = (s.rn EGG_BAD + 1) % 2 ^ 32 ∧ t.bit (bitF Q_CAUSE 4) = true ∧
            t.spawn.held = s.spawn.held ∧
            ((child || third && !s.bit S_FAILED) = true → t.bit S_FAILED = true ∧ t.bit (bitF Q_CAUSE 8) = true) ∧
            ((child || third || s.bit S_FAILED) = false → t.bit RESUMING = true ∧ t.spawn.resFrom = e ∧
                (t.dir p).resume = some e ∧
              t.bit (bitF Q_CAUSE 7) = true ∧ t.spawn.bad = e :: s.spawn.bad)) ∧
          ((has || x.2.1 || child || third || s.bit S_FAILED) = true →
            (t.dir p).done = if x.2.2 then ((s.dir p).done + 1) % 2 ^ 16 else (s.dir p).done)

/-- LOAD, STORE, MATMUL, VECTOR, SOFTMAX_PART, MERGE, REDUCE, TOPK, SEND, RECV, SIGNAL, WATCH and LOOP name a tile of a
Krasesta and change nothing where it does not exist or runs nothing, where its next descriptor has another OP or may
not issue (R248), and where the descriptor breaks the fields and ranges of R261, whose effect the spec does not give
(the model's choice, log entry 23). A sentinel that comes to a descriptor forbidden by R331 stops, RUN falls and
SENT_ERR counts it, and no other register bit changes. Otherwise the descriptor issues: PROG_PC shows its index. One
of the first nine occupies its unit, begun now, and an LS transfer of it completes when Table TIL-2 says, or never
where it crosses the stacks without a share. RECV occupies LS too, with the consumed count that it reads and a WATCH
request for that count plus N. SIGNAL sends its ADD, or a CADD to another node, which counts in CADD_TX. WATCH sends
its request; KIND 0, 1 and 3 wait for its response, and KIND 2 goes on, but holds the sequencer where the entry,
with the arrivals accepted before it, would refuse it (the model's choice, log entry 140), and the tile keeps with
what it issues those whose answer may still come. LOOP with an index below its count less 1 goes back by BODY and
advances the index; at the last iteration it goes on with index 0. SIGNAL, a KIND 2 that goes on and LOOP complete
at once with the ADD of DONE_EN, and the program goes on or ends. None of the four changes a byte of memory. Also
the model's choices: a descriptor does its work when it issues (log entry 81); the tags of its requests (log entry
24). (10_tiles.md, 13_faults.md) -/
def Obligations.TileDescriptors : Prop :=
  ∀ (s : State) (t : Nat),
    let cmds : List (Nat × Instr) := [(opLOAD, .load t), (opSTORE, .store t), (opMATMUL, .matmul t),
      (opVECTOR, .vector t),
      (opSOFTMAX, .softmaxPart t), (opMERGE, .merge t), (opREDUCE, .reduce t), (opTOPK, .topk t), (opSEND, .send t),
          (opRECV, .recv t),
      (opSIGNAL, .signal t), (opWATCH, .watchDescriptor t), (opLOOP, .loop t)];
    (∀ c ∈ cmds, (s.part.isK = false ∨ 72 ≤ t ∨ (s.tile t).cur = none) → exec c.2 s = .next s) ∧
    (s.part.isK = true → t < 72 → ∀ p, (s.tile t).cur = some p →
      let d := s.nextDesc t p
      let step := (s.tile t).prog.isSome
      let may := step || s.sentAllowed p d
      let op := fun (k : Nat) => dOp d == k && p.mayIssue d && may && descRuns p d
      let req := fun (m : Msg) => ({ due := s.now + effectDelay m (s.badForm m) * 65536, acc := s.now, port := p.l, word := m, bad := s.badForm m } : PendReq)
      let done := if dDoneEn d then [req (tileReq 1 p.l true (p.l * 2 ^ 84 + dDoneK d * 2 ^ 78 + 2 ^ 64))] else [];
      (∀ c ∈ cmds, (dOp d ≠ c.1 ∨ p.mayIssue d = false) → exec c.2 s = .next s) ∧
      (∀ c ∈ cmds, may = true → descRuns p d = false → exec c.2 s = .next s) ∧
      (∀ c ∈ cmds, dOp d = c.1 → p.mayIssue d = true → may = false → ∃ u, exec c.2 s = .next u ∧
        u.rn 0x700C3C = (s.rn 0x700C3C + 1) % 2 ^ 32 ∧ u.bit (tRun t) = false ∧ sameBits [wordF 0x700C3C, tRun t] s u ∧
        u.tile t = { s.tile t with sent := none } ∧
        u = { s with regs := u.regs, tiles := u.tiles }) ∧
      (∀ c ∈ cmds, c.1 ≤ 9 → op c.1 = true → ∃ u, exec c.2 s = .next u ∧ (u.tile t).cur = some { p with
          pc := p.pc + 1, units := p.units ++
            [(unitOf c.1, { idx := p.pc, desc := d, due := s.lsDue p.l d, start := s.regEdges (t / 8), wait := none })] } ∧
        u.rn (tileReg t 0x14) = p.pc % 2 ^ 32 ∧ u.cnt = s.cnt ∧ u.ports = s.ports ∧ u.nst = s.nst ∧ u.time = s.time) ∧
      (op opRECV = true → let k := s.rn (counterA p.l (fd d 175 170))
        let a := s.ringRef d
        ∃ u, exec (.recv t) s = .next u ∧ (u.tile t).cur = some { p with
          pc := p.pc + 1, units := p.units ++
            [(3, { idx := p.pc, desc := d, due := none, start := s.regEdges (t / 8), wait := some k })] } ∧
        u.cnt = { s.cnt with pend := s.cnt.pend ++ [req (watchReq p.l (tileTag 1 p.pc) (bitsOf a 8 8) (bitsOf a 0 6) (k + fd d 199 176) (fd d 169 138))] } ∧
        u.rn (tileReg t 0x14) = p.pc % 2 ^ 32 ∧ sameRegs [tileReg t 0x14] s u ∧ sameMem s u) ∧
      (op opSIGNAL = true → let m := signalReq p.l d
        let away := (s.badForm m).isNone && !rqFlag m && rqDest m != s.f NODE_ID
        ∃ u, exec (.signal t) s = .next u ∧ progNow t { p with pc := p.pc + 1 } s u ∧ sameMem s u ∧
          (away = false → u.cnt.pend = s.cnt.pend ++ [req m] ++ done) ∧
          (away = true → u.rn CADD_TX = (s.rn CADD_TX + if s.nst = .fenced then 0 else 1) % 2 ^ 32)) ∧
      (op opWATCH = true → let m := s.watchDescReq p.l p.pc d
        let kind := fd d 239 238
        let held := kind == 2 && s.arriveFails m
        let open_ := p.arrives.filter (fun x => ({ s with cnt := { s.cnt with pend := s.cnt.pend ++ [req m] } } : State).unanswered p.l x.1)
        ∃ u, exec (.watchDescriptor t) s = .next u ∧ sameMem s u ∧
          (kind ≠ 2 → (u.tile t).cur = some { p with pc := p.pc + 1, watch := some p.pc } ∧
              u.cnt.pend = s.cnt.pend ++ [req m]) ∧
          (kind = 2 → held = true → (u.tile t).cur = some { p with pc := p.pc + 1, units := p.units ++
            [(4, { idx := p.pc, desc := d, due := some (s.now + 41 * 65536), start := s.regEdges (t / 8), wait := none })] } ∧
            u.cnt.pend = s.cnt.pend ++ [req m]) ∧
          (kind = 2 → held = false → progNow t { p with pc := p.pc + 1, arrives := (s.now, p.pc) :: open_ } s u ∧
            u.cnt.pend = s.cnt.pend ++ [req m] ++ done)) ∧
      (op opLOOP = true → let i := tget (fun _ => 0) p.loops p.pc
        ∃ u, exec (.loop t) s = .next u ∧ sameMem s u ∧ u.cnt.pend = s.cnt.pend ++ done ∧
          (i + 1 < loopCount d → progNow t { p with pc := p.pc - loopBody d, loops := tset (fun _ => 0) p.loops p.pc (i + 1) } s u) ∧
          (loopCount d ≤ i + 1 → progNow t { p with pc := p.pc + 1, loops := tset (fun _ => 0) p.loops p.pc 0 } s u)))

/-- Where the next descriptor of the program of a tile issues (TileDescriptors): LOAD makes the N bytes at LOCAL those
of the far range as they were and changes no other byte; with CLEAN the blocks it fills become clean with their
stack source, and without it they have no source. STORE to stack space makes the N bytes at FAR those at LOCAL and
changes no other byte; to bonded memory it does so on the tiles that TILE_MAP names for FAR. SEND writes N ring
entries from the posted count on, modulo SLOTS: 240 bytes from LOCAL, PLEN (240 but in the last), and 15 zeros, and
no other byte. Across the stacks without a share, these three change no byte. MATMUL, VECTOR, SOFTMAX_PART, MERGE,
REDUCE and TOPK change no byte of stack memory, of another tile, or of their own outside the ranges that their
descriptor writes, and no register outside the block of the tile: a REDUCE of MODE 1 or 2 changes no byte at all.
The accumulators of a REDUCE hold the contributions of its COUNT rows, element by element, to cleared ones in MODE 0
and 1 and to the old ones in MODE 2 and 3; those beyond LEN stay. MODE 0 and 3 then write the row of what they
yield, each converted once to FOUT, the scaled formats in blocks of 32, and count what was invalid or saturated
(R237, R238, R253). At 2^24 contributions another one sets NAN alone and counts as NUM_INVALID (R244); CNT stays
there, the model's choice (log entry 108), and so what an accumulator yields is the same after any permutation of
any list of contributions. Also the model's choices: a descriptor does its work when it issues (log entry 81);
entries carry PLEN 240 but the last (log entry 74); the old DST and the scales of B (log entries 69 and 70).
(10_tiles.md) -/
def Obligations.TileMemory : Prop :=
  (∀ (s : State) (t : Nat), s.part.isK = true → t < 72 → ∀ p, (s.tile t).cur = some p → let d := s.nextDesc t p
    let n := fd d 170 144
    let lo := fd d 239 213
    let far := fd d 212 173
    let stack := fd d 172 171 == 1
    let src := s.tRead t lo n;
    p.mayIssue d = true → descRuns p d = true → ((s.tile t).prog.isSome || s.sentAllowed p d) = true →
      (∀ c ∈ ([(opLOAD, .load t), (opSTORE, .store t), (opSEND, .send t)] : List (Nat × Instr)), dOp d = c.1 →
          s.hasShare p.l d = false →
        ∃ u, exec c.2 s = .next u ∧ sameMem s u) ∧
      (dOp d = opLOAD → s.hasShare p.l d = true → let at_ := t * tileBytes + lo
        ∃ u, exec (.load t) s = .next u ∧ u.tRead t lo n = s.readSpace (fd d 172 171) far n ∧ u.stack = s.stack ∧
          (∀ a, (a < at_ ∨ at_ + n ≤ a) → u.bonded.byte a = s.bonded.byte a) ∧
          ∀ b, b < 2048 → lo < b * 65536 + 65536 → b * 65536 < lo + n →
            (bitOf d 143 = true → u.bit (cleanF t b) = true ∧
              tget (fun _ => none) (u.tile t).src b = some (far + (b * 65536 - lo))) ∧
            (bitOf d 143 = false → tget (fun _ => none) (u.tile t).src b = none)) ∧
      (dOp d = opSTORE → stack = true → s.hasShare p.l d = true → ∃ u, exec (.store t) s = .next u ∧
        (∀ i, i < n → u.stack.byte (far + i) = src.getD i 0) ∧
        (∀ a, (a < far ∨ far + n ≤ a) → u.stack.byte a = s.stack.byte a) ∧ u.bonded = s.bonded) ∧
      (dOp d = opSTORE → stack = false → ∃ u, exec (.store t) s = .next u ∧ u.stack = s.stack ∧
        (∀ i, i < n → u.bonded.byte (s.bondedAt (far + i)) = src.getD i 0) ∧
        ∀ a, (∀ i, i < n → a ≠ s.bondedAt (far + i)) → u.bonded.byte a = s.bonded.byte a) ∧
      (dOp d = opSEND → s.hasShare p.l d = true → let port := fd d 212 206
        let q := fd d 205 200
        let k := fd d 199 176
        let slots := s.rn (s.qa port q 0x1C)
        let v := s.refVal (s.rn (s.qa port q 0x20))
        let a := fun (i : Nat) => (s.rn (s.qa port q 0x18) + (v + i) % slots) * 256
        let bs := fun (i : Nat) => (s.tRead t lo (240 * k)).drop (240 * i) |>.take 240
        let out := fun (i j : Nat) => if j < 240 then (bs i).getD j 0 else if j =
          240 then BitVec.ofNat 8 (if i + 1 = k then fd d 175 168 else 240) else 0
        ∃ u, exec (.send t) s = .next u ∧
          (s.txSel port q ≠ 0 → u.bonded = s.bonded ∧
            (∀ i, i < k → (slots = 0 ∨ k ≤ i + slots) → ∀ j, j < 256 → a i + j < stackBytes →
                u.stack.byte (a i + j) = out i j) ∧
            ∀ b, (∀ i, i < k → b < a i ∨ a i + 256 ≤ b) → u.stack.byte b = s.stack.byte b) ∧
          (s.txSel port q = 0 → u.stack = s.stack ∧
            (∀ i, i < k → k = 1 → a i < 64 * tileBytes → ∀ j, j < 256 →
                u.bonded.byte (s.bondedAt (a i) + j) = out i j) ∧
            ∀ b, (∀ i, i < k → b < s.bondedAt (a i) ∨ s.bondedAt (a i) + 256 ≤ b) →
                u.bonded.byte b = s.bonded.byte b)) ∧
      ∀ c ∈ ([(opMATMUL, .matmul t), (opVECTOR, .vector t), (opSOFTMAX, .softmaxPart t), (opMERGE, .merge t),
          (opREDUCE, .reduce t),
        (opTOPK, .topk t)] : List (Nat × Instr)), dOp d = c.1 → ∃ u, exec c.2 s = .next u ∧ u.stack = s.stack ∧
          (∀ a, (a < t * tileBytes ∨ (t + 1) * tileBytes ≤ a) → u.bonded.byte a = s.bonded.byte a) ∧
          (∀ o, o < tileBytes → (∀ x ∈ descWrites d, o < x.1 ∨ x.1 + x.2 ≤ o) →
            u.bonded.byte (t * tileBytes + o) = s.bonded.byte (t * tileBytes + o)) ∧
          ∀ a, (a < tileReg t 0 ∨ tileReg t 0 + 0x20000 ≤ a) → u.r a = s.r a) ∧
  (∀ (s : State) (t d : Nat), t < 72 → let n := fd d 131 120 + 1
    let c := fd d 95 92
    let u := s.reduceAdd t d
    let row := fun (i e : Nat) => (s.rowVals t c (fd d 239 213 + i * rowBytes c n) (fd d 212 186 + i * scaleRow n) n).getD e .nan
    (∀ e, e < n → (u.tile t).acc e = (List.range (fd d 119 96)).foldl (fun a i => (a.add (row i e)).1)
      (if fd d 87 86 ≤ 1 then {} else (s.tile t).acc e)) ∧
    (∀ e, n ≤ e → (u.tile t).acc e = (s.tile t).acc e) ∧ u.bonded = s.bonded ∧ u.stack = s.stack ∧
    ((fd d 87 86 = 1 ∨ fd d 87 86 = 2) → s.doReduce t d = u) ∧
    ((fd d 87 86 = 0 ∨ fd d 87 86 = 3) → s.doReduce t d =
      u.putRow t (fd d 91 88) (fd d 185 159) (fd d 158 132) ((List.range n).map (fun e => ((u.tile t).acc e).out))) ∧
    ∀ (c a sa : Nat) (vs : List Val),
      (isScaled c = false → u.putRow t c a sa vs =
          (u.tWrite t a (packElems c (vs.map (fun v => (convert c v).code)))).numEvents t
        ((vs.map (convert c)).filter (·.invalid)).length ((vs.map (convert c)).filter (·.sat)).length) ∧
      (isScaled c = true → let b := (blocksOf (ceilDiv vs.length 32) vs).map (convBlock c)
        u.putRow t c a sa vs = ((u.tWrite t a (packElems c ((b.flatMap (·.2)).map (·.code)))).tWrite t sa
          (b.map (fun x => BitVec.ofNat 8 x.1))).numEvents t
          ((b.flatMap (·.2)).filter (·.invalid)).length ((b.flatMap (·.2)).filter (·.sat)).length)) ∧
  (∀ (x : XAcc) (v : Val), 2 ^ 24 ≤ x.cnt → x.add v = ({ x with nan := true }, true)) ∧
  ∀ (x : XAcc) (l l' : List Val), l.Perm l' →
      (l.foldl (fun a v => (a.add v).1) x).out = (l'.foldl (fun a v => (a.add v).1) x).out

/-- DESCRIPTOR_COMPLETE of a unit whose descriptor has run its duration and reads no block that is being refetched frees
the unit and changes no byte of memory: SEND adds N to the posted counter and RECV to the consumed one, with the ADD
of DONE_EN, and the program goes on or ends; in any other case nothing changes. At a Krasesta RESPONSE_PRESENT of a
response whose tag is that of the WATCH for which the program waits lets it go on for MET and RELEASED; of that of a
RECV with MET it copies the payload of N ring entries from the consumed count on to LOCAL, changes no other byte,
and completes as Table TIL-2 says; any other status of the two stops the program with cause bit 3, and with PROG_ERR
and the reason and descriptor in ERR_INFO until the next program starts; so does the refusal of an ARRIVE of the
program, which is told from others by when it was accepted and by its tag (the model's choices, log entries 24 and
140). Where the program of that ARRIVE has ended, the refusal marks the tile alone. A response with another tag
changes no tile. SENTINEL_START in an enabled logical tile that is idle and may start one begins the sentinel and
sets RUN, and otherwise nothing changes. SENTINEL_END of an ended sentinel counts a pass where the CRC of the result
is the expected one, and else a miss with the tile and EFT_CAUSE bit 0; of one that comes to a descriptor forbidden
by R331 it stops it, counted in SENT_ERR; RUN falls in each; in any other case nothing changes. TILE_MAP_WRITE does
nothing at a die, while the main part does not answer, or for a logical tile that does not exist; while a load runs
it raises CFG_LOCKED alone, and so it does outside STOPPED and TADPOLE, for a tile that another entry names, and
above tile 71. Otherwise it stores the tile, LOGICAL and SPARE of every tile follow, and nothing passes from the
tile that it replaces, whose memory, registers and programs are as new. Also the model's choices: a stopped program
ends without PROG_DONE (log entry 21); when a sentinel may start (log entry 72); a descriptor does its work when it
issues (log entry 81); what a remapped tile loses (log entry 148); a command whose trigger does not hold changes
nothing (log entry 8). (10_tiles.md, 13_faults.md) -/
def Obligations.TileCompletion : Prop :=
  ∀ s : State,
    (∀ t unit : Nat, let me := fun (x : Nat × TOp) => x.1 == unit && s.unitDone t x;
      ((s.part.isK = false ∨ (s.tile t).cur = none) → exec (.descriptorComplete t unit) s = .next s) ∧
      ∀ p, (s.tile t).cur = some p → (p.units.find? me = none → exec (.descriptorComplete t unit) s = .next s) ∧
        (s.part.isK = true → ∀ x, p.units.find? me = some x → let d := x.2.desc
          let ref := if dOp d = 9 then s.ringRef d else p.l * 256 + fd d 175 170
          let own : PendReq := { due := s.now + 8 * 65536, acc := s.now, port := p.l, word := tileReq 1 p.l true (p.l * 2 ^ 84 + dDoneK d * 2 ^ 78 + 2 ^ 64), bad := none }
          ∃ r, exec (.descriptorComplete t unit) s = .next r ∧ sameMem s r ∧
              progNow t { p with units := p.units.eraseP me } s r ∧
            ((dOp d = 9 ∨ dOp d = 10) → s.hasCounter (bitsOf ref 8 8) (bitsOf ref 0 6) = true →
              r.cnt.adds = s.cnt.adds ++ [⟨s.now, bitsOf ref 8 8, bitsOf ref 0 6, fd d 199 176, false, 0⟩]) ∧
            ((dOp d = 9 ∨ dOp d = 10) → s.hasCounter (bitsOf ref 8 8) (bitsOf ref 0 6) = false →
                r.cnt.adds = s.cnt.adds ∧
              r.rn BAD_REQ = (s.rn BAD_REQ + 1) % 2 ^ 32) ∧
            (dOp d ≠ 9 → dOp d ≠ 10 → r.cnt.adds = s.cnt.adds) ∧
            (dDoneEn d = false → r.cnt.pend = s.cnt.pend) ∧
            (dDoneEn d = true → s.nst ≠ .tadpole → p.l < 64 → dDoneK d < 48 → r.cnt.pend = s.cnt.pend ++ [own]))) ∧
    (s.part.isK = true → ∀ l : Nat, ∀ y, s.cnt.rsps.find? (fun r => r.port == l && decide (r.at_ ≤ s.now)) = some y →
      let kind := rsTag y.word / 2 ^ 14
      let low := rsTag y.word % 2 ^ 14
      let st := rsStatus y.word
      let t := (s.runsAs l).getD (s.physOf l)
      let mine := fun (x : Nat × Nat) => x.1 == y.acc && x.2 % 2 ^ 14 == low
      let why := match st with | 1 => 1 | 9 => 2 | 10 => 3 | 7 => 5 | _ => 4
      ∃ r, exec (.responsePresent l) s = .next r ∧
        (2 < kind → r.tiles = s.tiles ∧ sameMem s r ∧ sameRegs [] s r) ∧
        (kind = 2 → ∀ x, (s.tile t).left.find? mine = some x → r.bit (tProgErr t) = true ∧
            r.bit (bitF (tileReg t 4) 3) = true ∧
          r.rn (tileReg t 0x30) = 2 ^ 31 + why * 2 ^ 28 + x.2 % 2 ^ 22 ∧ sameMem s r ∧
          r.tile t = { s.tile t with left := (s.tile t).left.filter (fun x => r.unanswered l x.1) }) ∧
        (kind = 2 → (s.tile t).left.find? mine = none → (s.tile t).prog = none → r.tiles = s.tiles ∧ sameMem s r ∧
            sameRegs [] s r) ∧
        ∀ p, (s.tile t).prog = some p →
          let stops := fun (q : Prog) (i : Nat) => decide (r.bit (bitF (tileReg t 4) 3) = true ∧
            r.flt.rpt.progFault = true ∧
            ((q.ended && s.rn (tileReg t 0x10) != 0 && (s.tile t).queued != 0) = false → r.bit (tProgErr t) = true ∧
              r.rn (tileReg t 0x30) = 2 ^ 31 + why * 2 ^ 28 + i % 2 ^ 22)) && decide (q.ended = true ∨
            r.tile t = { s.tile t with prog := some q })
          (kind = 0 → ∀ i, p.watch = some i → i % 2 ^ 14 = low → sameMem s r ∧
            ((st = 0 ∨ st = 8) → progNow t { p with watch := none } s r ∧
              (dDoneEn (s.descAt t p i) = false → r.cnt.pend = s.cnt.pend)) ∧
            (st ≠ 0 → st ≠ 8 → stops { p with watch := none, stopped := true } i = true)) ∧
          (kind = 1 → ∀ o, p.waits 3 low = some o → let n := fd o.desc 199 176
            let q := { p with units := p.units.filter (fun u => u.1 != 3) }
            let at_ := t * tileBytes + fd o.desc 239 213
            (st = 0 → (r.tile t).prog = some { q with units := q.units ++ [(3, { o with wait := none, due := s.lsDue p.l o.desc })] } ∧
              r.stack = s.stack ∧ (∀ a, (a < at_ ∨ at_ + 240 * n ≤ a) → r.bonded.byte a = s.bonded.byte a) ∧
              (s.hasShare p.l o.desc = true → r.tRead t (fd o.desc 239 213) (240 * n) = (List.range n).flatMap (fun i =>
                let port := fd o.desc 212 206
                let k := fd o.desc 205 200
                (s.readSpace (s.rxSel port k) ((s.rn (s.qa port k 8) + (o.wait.getD 0 + i) % s.rn (s.qa port k 0xC)) * 256) 256).take 240))) ∧
            (st ≠ 0 → sameMem s r ∧ stops { q with watch := none, stopped := true } o.idx = true)) ∧
          (kind = 2 → (s.tile t).left.find? mine = none →
            (p.arrives.find? mine = none → ∀ o, p.waits 4 low = some o → sameMem s r ∧
              stops { p with units := p.units.filter (fun u => u.1 != 4), watch := none, stopped := true } o.idx =
                true) ∧
            (p.stopped = false → ∀ x, p.arrives.find? mine = some x → sameMem s r ∧
              stops { p with watch := none, stopped := true } x.2 = true) ∧
            (p.stopped = true → (p.arrives.find? mine).isSome = true → r.tiles = s.tiles ∧ sameMem s r)) ∧
          ((kind = 0 → p.watch = none) → (kind = 1 → p.waits 3 low = none) →
              (kind = 2 → (s.tile t).left.find? mine = none ∧
            p.waits 4 low = none ∧ p.arrives.find? mine = none) → r.tiles = s.tiles ∧ sameMem s r)) ∧
    (∀ t : Nat, let x := s.tile t
      let may := fun (l : Nat) => bitOf (s.rn 0x700C00) 31 && bitOf (s.r64 0x700C04) l && x.sentReady &&
        x.prog.isNone && x.queued == 0 &&
        x.sent.isNone && s.bit LAUNCH_PEND && decide (s.now + s.rn 0x700C28 * 65536 < tsScalar (s.r96 NEXT_LAUNCH));
      ((s.part.isK && (s.logicalOf t).any may) = false → exec (.sentinelStart t) s = .next s) ∧
      (s.part.isK = true → ∀ l, s.logicalOf t = some l → may l = true → exec (.sentinelStart t) s =
        .next ((s.setB (tRun t) true).setTile t { x with sentReady := false, sent := some { l := l, base := s.rn 0x700C0C, len := s.rn 0x700C10 } })) ∧
      ((s.part.isK = false ∨ x.prog ≠ none ∨ x.sent = none) → exec (.sentinelEnd t) s = .next s) ∧
      (s.part.isK = true → x.prog = none → ∀ p, x.sent = some p →
        let same := crc32c (s.tRead t (s.rn 0x700C1C) (s.rn 0x700C20)) == s.r 0x700C24
        let bad := decide (p.pc < p.len) && !s.sentAllowed p (s.nextDesc t p)
        let n := if p.ended then (if same then 0x700C30 else 0x700C34) else 0x700C3C;
        (p.ended = false → bad = false → exec (.sentinelEnd t) s = .next s) ∧
        ((p.ended || bad) = true → ∃ r, exec (.sentinelEnd t) s = .next r ∧ r.tile t = { x with sent := none } ∧
            sameMem s r ∧ r.bit (tRun t) = false ∧
          r.rn n = (s.rn n + 1) % 2 ^ 32 ∧ ((p.ended = false ∨ same = true) → sameBits [wordF n, tRun t] s r) ∧
          (p.ended = true → same = false → r.rn 0x700C40 = p.l % 2 ^ 32 ∧ r.bit (bitF EFT_CAUSE 0) = true ∧
            r.flt.rpt.sentMiss = true ∧ r.bit COND_VALID = true)))) ∧
    ∀ (l : Nat) (v : Word), let t := v.toNat % 128
      let on := s.part.isK && s.mainOn
      let may := (s.nst == .stopped || s.nst == .tadpole) &&
        !(List.range 64).any (fun k => k != l && s.physOf k == t) && decide (t ≤ 71)
      let a := 0x2F00000 + 4 * l
      let old := s.physOf l
      let new := decide (s.logicalOf old = some l) && old != t;
      ((on && decide (l < 64)) = false → exec (.tileMapWrite l v) s = .next s) ∧
      ((on && decide (l < 64) && (s.bit LOAD_BUSY || !may)) = true → ∃ r, exec (.tileMapWrite l v) s = .next r ∧
        r.bit (bitF LEAP_CAUSE 12) = true ∧ onlyRegs s r ∧ sameBits [bitF LEAP_CAUSE 12] s r) ∧
      ((on && !s.bit LOAD_BUSY && decide (l < 64) && may) = true → ∃ r, exec (.tileMapWrite l v) s = .next r ∧
          r.rn a = t ∧
        (∀ k, k < 72 → r.f ⟨tileReg k 0, 0, 7⟩ = (r.logicalOf k).getD 0x7F ∧
            r.bit (bitF (tileReg k 0) 11) = (r.logicalOf k).isNone) ∧
        r.stack = s.stack ∧ (∀ b, (new = false ∨ b < old * tileBytes ∨ (old + 1) * tileBytes ≤ b) →
          r.bonded.byte b = s.bonded.byte b) ∧
        (new = true → (∀ o, o < tileBytes → r.bonded.byte (old * tileBytes + o) = 0) ∧ (r.tile old).prog = none ∧
          (r.tile old).sent = none ∧ ∀ o, 4 ≤ o → o < 0x20000 →
              r.r (tileReg old 0 + o) = regReset s.part (tileReg old 0 + o)) ∧
        (new = false → r.tiles = s.tiles) ∧
        ∀ b, b ≠ a → (b < 0x2000000 ∨ 0x2900000 ≤ b ∨
            (new = false ∨ b < tileReg old 0 ∨ tileReg old 0 + 0x20000 ≤ b) ∧ b % 0x20000 ≠ 0) →
          r.r b = s.r b)

/-- At a die none of these commands changes anything, and at a Krasesta one for a tile, a block or a stack that does not
exist does not either. PARITY_CLEAN of a clean block, or of a block of the staging of a running pass, counts it,
raises cause bit 4 of the tile, shows the block and puts it in refetch; of another block nothing changes.
PARITY_DIRTY shows the block, whose refetch ends, and poisons the step at the tile: POISON, cause bit 5, one more in
the count, and FAIL with cause POISON on the up ports where it is the first of the armed step. REFETCH_DONE of a
block in refetch ends the refetch and writes the block anew from its stack source, if it has one, and changes no
other byte and no register; of another nothing changes. Neither of the parity commands changes a byte of memory.
STACK_ECC_CORRECTED counts and raises bit 0. STACK_UNCORRECTABLE at an address of the stack counts, raises bit 1
(bit 2 for a path error), stores the address, and poisons the step at the tile that read it or at the host; for an
address of another stack nothing changes, and an address beyond the stacks stops the run (the model's choice, log
entry 11). TEMP_ALARM raises bit 3 of the stack and holds its alarm from this cycle on. Also the model's choices:
PARITY_ADDR is written at clean errors too (log entry 73); the blocks of the staging of a pass are clean, and their
refetch writes nothing (log entry 75); how long an alarm stands (log entry 80). (10_tiles.md, 13_faults.md) -/
def Obligations.ParityAndStackErrors : Prop :=
  ∀ s : State,
    let pois := fun (r : State) => decide (r.flt.rpt.poison = true ∧ r.flt.rpt.failSent = true ∧
      r.bit COND_VALID = true)
    let first := s.armed && !s.atHall && !s.leap.failSteps.contains (s.step % 2 ^ 16);
    (∀ t block : Nat, let k := s.part.isK && decide (t < 72)
      let clean := k && decide (block < 2048) && (s.bit (cleanF t block) || s.inPassStaging t block)
      let b := block % 2048
      let lo := t * tileBytes + block * 65536;
      (clean = false → exec (.parityClean t block) s = .next s) ∧
      (clean = true → ∃ r, exec (.parityClean t block) s = .next r ∧
          r.tile t = { s.tile t with refetch := (s.tile t).refetch ++ [block] } ∧
        r.rn (tileReg t 0x20) = (s.rn (tileReg t 0x20) + 1) % 2 ^ 32 ∧ r.bit (bitF (tileReg t 4) 4) = true ∧
        r.rn (tileReg t 0x34) / 65536 = block ∧ r.flt.rpt.refetch = true ∧ r.bit COND_VALID = true ∧ sameMem s r ∧
          r.leap = s.leap ∧
        r.ports = s.ports) ∧
      (k = false → exec (.parityDirty t block) s = .next s) ∧
      (k = true → ∃ r, exec (.parityDirty t block) s = .next r ∧ r.bit (tPoison t) = true ∧
          r.bit (bitF (tileReg t 4) 5) = true ∧
        r.rn (tileReg t 0x24) = (s.rn (tileReg t 0x24) + 1) % 2 ^ 32 ∧ r.rn (tileReg t 0x34) / 65536 = b ∧
          pois r = true ∧
        r.tile t = { s.tile t with refetch := (s.tile t).refetch.erase b } ∧ sameMem s r ∧
        (first = true → sent (onPorts (s.upActive ++
            s.upStandby) [leapMsg kFAIL 2 s.step (s.f NODE_ID * 2 ^ 76)]) s r)) ∧
      ((s.part.isK && (s.tile t).refetch.contains block) = false → exec (.refetchDone t block) s = .next s) ∧
      ((s.part.isK && (s.tile t).refetch.contains block) = true → ∃ r, exec (.refetchDone t block) s = .next r ∧
        r.tile t = { s.tile t with refetch := (s.tile t).refetch.erase block } ∧ r.regs = s.regs ∧ r.stack = s.stack ∧
        (tget (fun _ => none) (s.tile t).src block = none → r.bonded = s.bonded) ∧
        (∀ a, tget (fun _ => none) (s.tile t).src block = some a → (∀ i, i < 65536 → r.bonded.byte (lo + i) =
            if a + i < stackBytes then s.stack.byte (a + i) else 0) ∧
          ∀ c, (c < lo ∨ lo + 65536 ≤ c) → r.bonded.byte c = s.bonded.byte c))) ∧
    (∀ st : Nat, let k := s.part.isK && decide (st < 6);
      (k = false → exec (.stackEccCorrected st) s = .next s ∧ exec (.tempAlarm st) s = .next s) ∧
      (k = true → (∃ r, exec (.stackEccCorrected st) s = .next r ∧
          r.rn (stackReg st 0xC) = (s.rn (stackReg st 0xC) + 1) % 2 ^ 32 ∧
          r.bit (bitF (stackReg st 4) 0) = true ∧ onlyRegsEv s r ∧
            sameBits [wordF (stackReg st 0xC), bitF (stackReg st 4) 0] s r) ∧
        (∃ r, exec (.tempAlarm st) s = .next r ∧ r.bit (bitF (stackReg st 4) 3) = true ∧
          tget (fun _ => none) r.stackHot st = some s.beat.n ∧ onlyRegs { s with stackHot := r.stackHot } r ∧
          sameBits [bitF (stackReg st 4) 3] s r))) ∧
    ∀ (st a : Nat) (path : Bool) (t : Option Nat), let n := if path then 0x14 else 0x10
      let me := s.part.isK && decide (st < 6) && a / 4096 % 6 == st
      let at_ := fun (r : State) => decide (r.rn (stackReg st n) = (s.rn (stackReg st n) + 1) % 2 ^ 32 ∧
        r.bit (bitF (stackReg st 4) (if path then 2 else 1)) = true ∧ r.rn (stackReg st 0x18) = a % 2 ^ 32 ∧
        r.rn (stackReg st 0x1C) = a / 2 ^ 32);
      (stackBytes ≤ a → exec (.stackUncorrectable st a path t) s = .fault .stackRange) ∧
      (a < stackBytes → me = false → exec (.stackUncorrectable st a path t) s = .next s) ∧
      (a < stackBytes → me = true → ∃ r, exec (.stackUncorrectable st a path t) s = .next r ∧ at_ r = true ∧
          sameMem s r ∧
        (t = none → r.host.bad = s.host.bad ++ [(a, path)]) ∧ (t.all (fun x => decide (x < 72)) = true → pois r = true ∧
          (first = true → sent (onPorts (s.upActive ++
              s.upStandby) [leapMsg kFAIL 2 s.step (s.f NODE_ID * 2 ^ 76)]) s r)) ∧
        ∀ x, t = some x → x < 72 → r.bit (tPoison x) = true ∧ r.bit (bitF (tileReg x 4) 5) = true)

/-- At a die, and while the main part does not answer, these commands change nothing. The bits of one word act one after
another, OPEN, SEAL, EVICT, FREE, IMPORT (the order is the choice of the model, log entry 5), each as if alone. A
command whose conditions fail is refused: CMD_STATUS holds the code, CMD_REFUSED is raised, and nothing else
changes. OPEN of a FREE entry of a legal layout in a free region: OPEN with no page present, CMD_REF names it with
its GEN, the presence bytes are 0 and no other byte of memory changes. IMPORT of a named OPEN entry outside a run
whose eggs are held starts a copy. SEAL of a named OPEN entry with every page, while no import runs: SEALED with
SEAL_STEP, and SEALED raised. EVICT of a named SEALED entry with no eviction pending: in a run EVICT_STEP and
pending; else FREE at once. FREE of a named entry that is not FREE, and not SEALED in a run: FREE with the next GEN,
its pages resident no more, EVICTED raised. IMPORT_DONE with no copy of the entry changes nothing; otherwise the
copy ends, and IMPORT_BUSY with the last one; where the entry is still the same OPEN one, its data and scales are
the bytes of the eggs, every page is present and PFX_CAUSE bit 6 raised, and otherwise no memory and no other
register changes. Also the model's choices: the order of the refusals (log entry 77); CMD_STATUS keeps the last
refusal (log entry 103); a command whose trigger does not hold changes nothing (log entry 8). (11_clutches.md) -/
def Obligations.ClutchCommands : Prop :=
  ∀ s : State,
    let on := s.part.isK && s.mainOn
    let i := s.f CMD_REF % 4096
    let c := s.clutch i
    let badLayout := decide (bitsOf (s.rn (clE i 4)) 4 2 = 3) || decide (bitsOf (s.rn (clE i 4)) 0 2 = 3)
    let named := decide (s.f (clGen i) = s.f CMD_REF / 4096)
    let last := s.rn CMD_ARG + ceilDiv c.importBytes (2 ^ 20) - 1
    let sealC := if !named || s.f (clSt i) != 1 then 1 else if s.f (clPresent i) ≠ c.pages then 6 else if s.pfx.imports.isEmpty then 0 else 1
    let imp := if s.armed then 4 else if !named || s.f (clSt i) != 1 then 1 else if s.f DOWN_CUM = 0xFFFFFF ∨
      s.f DOWN_CUM < last then 5 else 0
    let free := if !named || s.f (clSt i) == 0 then 1 else if s.f (clSt i) == 2 && s.armed then 4 else 0
    let evict := if !named || s.f (clSt i) != 2 || s.bit (clEvictPend i) then 1 else 0
    let open_ := if s.f (clSt i) ≠ 0 then 1 else if badLayout then 2 else if s.regionFree i then 0 else 3;
    (on = false → ∀ v : Word, exec (.pfxOpen v) s = .next s ∧ exec (.pfxSeal v) s = .next s ∧
        exec (.pfxEvict v) s = .next s ∧
      exec (.pfxFree v) s = .next s ∧ exec (.pfxImport v) s = .next s) ∧
    (on = true →
      (∀ v : Word, ∀ y ∈ ([(.pfxOpen v, 0), (.pfxSeal v, 1), (.pfxEvict v, 2), (.pfxFree v, 3),
          (.pfxImport v, 4)] : List (Instr × Nat)),
        let w := fun (k : Nat) => bitOf v.toNat k || k == y.2
        ∃ a, (if w 0 then exec (.pfxOpen 1) s else .next s) = .next a ∧
            ∃ b, (if w 1 then exec (.pfxSeal 2) a else .next a) = .next b ∧
          ∃ d, (if w 2 then exec (.pfxEvict 4) b else .next b) = .next d ∧
              ∃ e, (if w 3 then exec (.pfxFree 8) d else .next d) = .next e ∧
          ∃ f, (if w 4 then exec (.pfxImport 16) e else .next e) = .next f ∧ exec y.1 s = .next f) ∧
      (∀ y ∈ ([(.pfxOpen 1, open_), (.pfxSeal 2, sealC), (.pfxEvict 4, evict), (.pfxFree 8, free),
          (.pfxImport 16, imp)] : List (Instr × Nat)),
        y.2 ≠ 0 → ∃ t, exec y.1 s = .next t ∧ t.f CMD_STATUS = y.2 ∧ t.bit (bitF PFX_CAUSE 5) = true ∧ onlyRegs s t ∧
          sameBits [CMD_STATUS, bitF PFX_CAUSE 5] s t) ∧
      (open_ = 0 → let n := ceilDiv c.pages 8
        ∃ t, exec (.pfxOpen 1) s = .next t ∧ t.f (clSt i) = 1 ∧ t.f (clPresent i) = 0 ∧ t.bit (clBad i) = false ∧
          t.f CMD_REF = s.f (clGen i) * 4096 + i ∧ sameBits [clSt i, clPresent i, clBad i, CMD_REF] s t ∧
          t = { s with regs := t.regs, stack := t.stack, perf := t.perf } ∧
            (∀ k, k < n → t.stack.byte (c.presentAt + k) = 0) ∧
          ∀ a, (a < c.presentAt ∨ c.presentAt + n ≤ a) → t.stack.byte a = s.stack.byte a) ∧
      (imp = 0 → ∃ t, exec (.pfxImport 16) s = .next t ∧ t.bit IMPORT_BUSY = true ∧ sameBits [IMPORT_BUSY] s t ∧
        t = { s with regs := t.regs, pfx := { s.pfx with imports := s.pfx.imports ++ [(i, s.f (clGen i), s.rn CMD_ARG)] } }) ∧
      (sealC = 0 → ∃ t, exec (.pfxSeal 2) s = .next t ∧ t.f (clSt i) = 2 ∧ t.bit (bitF PFX_CAUSE 3) = true ∧
        t.r64 (clSealStep i) = (if s.armed then s.step else 2 ^ 64 - 1) ∧ onlyRegs s t ∧
        sameBits [clSt i, wordF (clSealStep i), wordF (clSealStep i + 4), bitF PFX_CAUSE 3] s t) ∧
      (evict = 0 → ∃ t, exec (.pfxEvict 4) s = .next t ∧ onlyRegs s t ∧ (s.armed = false → freed i s t) ∧
        (s.armed = true → t.r64 (clEvictStep i) = s.step ∧ t.bit (clEvictPend i) = true ∧
          sameBits [wordF (clEvictStep i), wordF (clEvictStep i + 4), clEvictPend i] s t)) ∧
      (free = 0 → ∃ t, exec (.pfxFree 8) s = .next t ∧ freed i s t ∧ onlyRegs s t)) ∧
    ∀ e : Nat, let o := s.clutch e
      let x := s.pfx.imports.find? (fun y => y.1 == e)
      let rest := s.pfx.imports.eraseP (fun y => y.1 == e);
      ((s.part.isK = false ∨ x = none) → exec (.importDone e) s = .next s) ∧
      (s.part.isK = true → ∀ y, x = some y → let same := decide (s.f (clGen e) = y.2.1) && decide (s.f (clSt e) = 1)
        let frm := s.eggAddr y.2.2
        ∃ t, exec (.importDone e) s = .next t ∧ t.pfx = { s.pfx with imports := rest } ∧ t.bonded = s.bonded ∧
          (rest = [] → t.bit IMPORT_BUSY = false) ∧ (rest ≠ [] → t.bit IMPORT_BUSY = s.bit IMPORT_BUSY) ∧
          (same = false → t.stack = s.stack ∧ sameBits [IMPORT_BUSY] s t) ∧
          (e < 4096 → same = true → t.f (clPresent e) = o.pages % 2 ^ 27 ∧ t.bit (bitF PFX_CAUSE 6) = true ∧
            sameBits [IMPORT_BUSY, clPresent e, bitF PFX_CAUSE 6] s t ∧
            (∀ k, k < o.importBytes → o.base + k < stackBytes → t.stack.byte (o.base + k) =
              if frm + k < stackBytes then s.stack.byte (frm + k) else 0) ∧
            (o.end_ ≤ stackBytes → ∀ g, g < o.pages → t.pagePresent o g = true) ∧
            ∀ a, (a < o.base ∨ o.end_ ≤ a) → t.stack.byte a = s.stack.byte a))

/-- INSTALL_PAGE, INSTALL_SEAL and INSTALL_EVICT take the packet at the head of the install queue of a die; at a die,
where no down port leads to it, where no enabled pass takes part of it, with no entry waiting, or with a packet of a
KIND that the command does not take, nothing changes. A packet that is dropped counts in INSTALL_DROP, LAST_DROP
tells the reason, die and REF, PFX_CAUSE bit 2 is raised and no memory changes. A PAGE packet whose REF names no
clutch is dropped with reason 2 (how many entries it takes is free, log entry 25), and any other waits for all its
entries and takes them; a packet of another KIND takes its one entry, and a reserved KIND is dropped with reason 1,
a SEAL or EVICT packet whose REF names no clutch with 2. A layer, head or page beyond the layout drops with reason
3, another state of the clutch with 4, and a refused SEAL or EVICT, with its code, with 5. The write of an absent
page begins with its presence bit set and no other byte changed; a page that is present is only notified. SEAL of a
complete clutch makes it SEALED and EVICT of a SEALED one takes effect as the command does. A packet without
notification changes nothing more; one asks for an ADD to this node 36 ns later, or a CADD to another.
PAGE_WRITE_DONE with no write of the entry changes nothing, and of a former GEN only ends it; with an error the
clutch is bad, PFX_CAUSE bit 8 is raised and the step poisoned; otherwise the page and its scales lie at their
places and no other byte changes, PRESENT and PAGES_IN count it, and it is notified. The model's choices: the order
of the refusals, and a refused packet sets CMD_STATUS (log entry 77); a page takes the lowest free entry or run (log
entry 27); a command whose trigger does not hold changes nothing (log entry 8). (11_clutches.md) -/
def Obligations.InstallPackets : Prop :=
  ∀ s : State,
    (∀ k : Nat, let cmds := ([(.installPage k, [0, 1, 2, 3, 6, 7, 8, 9, 10, 11, 12, 13, 14, 15]), (.installSeal k, [4]), (.installEvict k, [5])] : List (Instr × List Nat));
      ((s.part.isK && (s.diePort k).isSome && s.installs k) = false → ∀ y ∈ cmds, exec y.1 s = .next s) ∧
      ∀ p, s.diePort k = some p → let q := s.f PFX_IQ
        let h := beNat ((s.peekRing p q 1).take 16)
        let kind := bitsOf h 124 4
        let ref := bitsOf h 100 24
        let have_ := s.waiting p q
        let i := ref % 4096
        let named := s.f (clGen i) == ref / 4096
        let c := s.clutch i
        let n := if kind = 3 then pageEntries c else 1
        let go := s.part.isK && s.installs k && decide (have_ ≠ 0)
        let ate := fun (n : Nat) => ((tget (fun _ => 0) s.pfx.eaten (64 * p + q)) + n) % 2 ^ 32
        let beyond := decide (c.layers ≤ bitsOf h 92 8) || decide (c.heads ≤ bitsOf h 86 6) ||
          decide (c.pph ≤ bitsOf h 74 12)
        let g := (bitsOf h 92 8 * c.heads + bitsOf h 86 6) * c.pph + bitsOf h 74 12
        let st := s.f (clSt i)
        let ntf := if bitOf h 73 then some (bitsOf h 53 20, bitsOf h 45 8, bitsOf h 39 6) else none
        let refuse := if kind = 4 then (if s.f (clPresent i) ≠ c.pages then 6 else if s.pfx.imports.isEmpty then 0 else 1)
          else if s.bit (clEvictPend i) then 1 else 0
        let why := if kind ≠ 3 ∧ kind ≠ 4 ∧ kind ≠ 5 then 1 else if named = false then 2 else if beyond then 3
          else if st ≠ (if kind = 5 then 2 else 1) then 4 else if kind ≠ 3 ∧ refuse ≠ 0 then 5 else 0;
        (have_ = 0 → ∀ y ∈ cmds, exec y.1 s = .next s) ∧ (∀ y ∈ cmds, kind ∉ y.2 → exec y.1 s = .next s) ∧
        (go = true → ∀ y ∈ cmds, kind ∈ y.2 → (named = true ∨ kind ≠ 3) →
          (have_ < n → exec y.1 s = .next s) ∧
          (n ≤ have_ → ∃ t, exec y.1 s = .next t ∧ tget (fun _ => 0) t.pfx.eaten (64 * p + q) = ate n ∧
              t.bonded = s.bonded ∧
            (why ≠ 0 → t.rn INSTALL_DROP = (s.rn INSTALL_DROP + 1) % 2 ^ 32 ∧
                t.rn LAST_DROP = why * 2 ^ 28 + k % 16 * 2 ^ 24 + ref ∧
              t.bit (bitF PFX_CAUSE 2) = true ∧ t.stack = s.stack ∧ t.pfx.writes = s.pfx.writes ∧ t.cnt = s.cnt ∧
              (why ≠ 5 → sameBits [wordF INSTALL_DROP, wordF LAST_DROP, bitF PFX_CAUSE 2] s t) ∧
              (why = 5 → t.f CMD_STATUS = refuse ∧ t.bit (bitF PFX_CAUSE 5) = true ∧
                  (kind = 4 → t.bit (bitF PFX_CAUSE 4) = true) ∧
                sameBits [wordF INSTALL_DROP, wordF LAST_DROP, bitF PFX_CAUSE 2, CMD_STATUS, bitF PFX_CAUSE 5,
                  bitF PFX_CAUSE 4] s t)) ∧
            (why = 0 → kind = 3 → s.pagePresent c g = true → t.pfx.writes = s.pfx.writes ∧ t.stack = s.stack ∧
                notified ntf s t ∧
              (ntf = none → sameRegs [] s t)) ∧
            (why = 0 → kind = 3 → s.pagePresent c g = false → sameRegs [] s t ∧ t.cnt = s.cnt ∧
              (c.end_ ≤ stackBytes → t.pagePresent c g = true) ∧
              (∀ a, a ≠ c.presentAt + g / 8 → t.stack.byte a = s.stack.byte a) ∧
              t.pfx.writes = s.pfx.writes ++
                [{ ent := i, gen := s.f (clGen i), page := g, data := ((s.peekRing p q n).drop 16).take (c.pd + c.ps), ntf := ntf }]) ∧
            (why = 0 → kind = 4 → t.f (clSt i) = 2 ∧ t.r64 (clSealStep i) = (if s.armed then s.step else 2 ^ 64 - 1) ∧
              t.bit (bitF PFX_CAUSE 3) = true ∧ t.stack = s.stack ∧ notified ntf s t) ∧
            (why = 0 → kind = 5 → t.stack = s.stack ∧ notified ntf s t ∧ (s.armed = false → freed i s t) ∧
              (s.armed = true → t.r64 (clEvictStep i) = s.step ∧ t.bit (clEvictPend i) = true)))) ∧
        (go = true → kind = 3 → named = false → ∃ t, exec (.installPage k) s = .next t ∧
          t.rn INSTALL_DROP = (s.rn INSTALL_DROP + 1) % 2 ^ 32 ∧ t.rn LAST_DROP = 2 * 2 ^ 28 + k % 16 * 2 ^ 24 + ref ∧
          t.bit (bitF PFX_CAUSE 2) = true ∧ sameMem s t ∧ t.cnt = s.cnt ∧
            sameBits [wordF INSTALL_DROP, wordF LAST_DROP, bitF PFX_CAUSE 2] s t)) ∧
    ∀ e : Nat, let me := fun (w : PageWr) => w.ent == e
      let c := s.clutch e;
      (∀ err, (s.part.isK = false ∨ s.pfx.writes.find? me = none) → exec (.pageWriteDone e err) s = .next s) ∧
      (s.part.isK = true → ∀ w, s.pfx.writes.find? me = some w → let a := c.base + w.page * c.pd
        let b := c.scalesAt + w.page * c.ps
        let rest := { s.pfx with writes := s.pfx.writes.eraseP me };
        (s.f (clGen e) ≠ w.gen → ∀ err, exec (.pageWriteDone e err) s = .next { s with pfx := rest }) ∧
        (s.f (clGen e) = w.gen → (∃ t, exec (.pageWriteDone e true) s = .next t ∧ t.bit (clBad e) = true ∧
            t.bit (bitF PFX_CAUSE 8) = true ∧
            t.flt.rpt.poison = true ∧ sameMem s t ∧ t.pfx = rest) ∧
          ∃ t, exec (.pageWriteDone e false) s = .next t ∧ t.pfx = rest ∧ t.bonded = s.bonded ∧ notified w.ntf s t ∧
            (e < 4096 → t.f (clPresent e) = (s.f (clPresent e) + 1) % 2 ^ 27 ∧
                t.rn PAGES_IN = (s.rn PAGES_IN + 1) % 2 ^ 32) ∧
            (e < 4096 → w.ntf = none → sameBits [clPresent e, wordF PAGES_IN] s t) ∧
            (w.page < c.pages → w.data.length = c.pd + c.ps →
              (∀ x, x < c.pd → a + x < stackBytes → t.stack.byte (a + x) = w.data.getD x 0) ∧
              (∀ x, x < c.ps → b + x < stackBytes → t.stack.byte (b + x) = w.data.getD (c.pd + x) 0) ∧
              ∀ x, (x < a ∨ a + c.pd ≤ x) → (x < b ∨ b + c.ps ≤ x) → t.stack.byte x = s.stack.byte x)))

/-- PASS_START of an enabled pass in an armed step, whose start has come, that no earlier enabled pass and no interval
holds back and whose queries have all come, runs it: the queries leave their rings, PASSES counts it, LATE_PASS with
PFX_CAUSE bit 0 counts a start that is past, PASS_RUN is 1, the next pass is one after it, and its replies, one for
each query in order, each of RF ring entries with the header of Table PFX-5, are due L later. Each query refused by
Table PFX-6 counts in REFUSED_PKTS, with PFX_CAUSE bit 1, and CL_READS of the clutch served counts the pass; no
memory changes. Where one of these fails, and at a die, nothing changes. PASS_REPLY_POST of a pass whose replies are
due and that waits for no refetch ends it and clears PASS_RUN where none is left; LATE_PASS with its cause counts
one that is late; each reply goes to its ring from the posted count on, and that count is to advance by its entries.
With none to post nothing changes. MIGRATION_SLOT changes nothing before the time of the oldest slot that has not
opened (R286), and nothing without a share; at it MIG_ACTIVE is 1, every CL_READS becomes 0, no other register and
no memory changes, and at most MIG_PAGES pages of the chosen clutch that are absent, and that no open slot copies,
are to be copied into cache blocks, by a time that SHARE[65] gives, counted from the end of the copies of the slots
before it (the model's choice, log entry 152). MIGRATION_COPY_DONE marks the copies of the oldest slot whose copies
have had that time and are not marked, and leaves MIG_ACTIVE 1 only where others are still to be marked; otherwise
it changes nothing. Also the model's choices: replies carry PLEN 240 but the last entry (log entry 74); the bytes of
a copy are written at the leap (log entry 76); the lowest free blocks (log entry 27); a command whose trigger does
not hold changes nothing (log entry 8). (11_clutches.md) -/
def Obligations.PassesAndMigration : Prop :=
  ∀ s : State,
    (∀ j : Nat, let spaced := s.pfx.lastStart.all (fun x => decide (x.2 + s.passI x.1 * 65536 ≤ s.now))
      let ok := s.part.isK && decide (j < 1024) && s.armed && s.pfx.inStep && s.passEn j && decide (s.pfx.nextJ ≤ j) &&
        (List.range (j - s.pfx.nextJ)).all (fun i => !s.passEn (s.pfx.nextJ + i)) && decide (s.passAt j ≤ s.now) &&
            spaced
      let late := decide (s.passAt j / 65536 < s.nowNs);
      ((ok = false ∨ s.queries j = none) → exec (.passStart j) s = .next s) ∧
      (ok = true → ∀ qs, s.queries j = some qs →
        let lead := qs.find? (fun x => !s.badHdr j x.hdr && decide (qRows x.hdr ≤ s.rowCap j) &&
          decide (0 < qRows x.hdr))
        let st := qs.map (fun x => (x, s.queryStatus j lead x))
        let bad := (st.filter (fun x => x.2 != 0)).length
        ∃ t, exec (.passStart j) s = .next t ∧ t.rn PASSES = (s.rn PASSES + 1) % 2 ^ 32 ∧ t.bit PASS_RUN = true ∧
          t.pfx.nextJ = j + 1 ∧ t.pfx.lastStart = some (j, s.now) ∧ sameMem s t ∧ t.cnt = s.cnt ∧ t.ports = s.ports ∧
            t.nst = s.nst ∧
          t.rn LATE_PASS = (s.rn LATE_PASS + b2n late) % 2 ^ 32 ∧ (late = true → t.bit (bitF PFX_CAUSE 0) = true) ∧
          t.rn REFUSED_PKTS = (s.rn REFUSED_PKTS + bad) % 2 ^ 32 ∧ (bad ≠ 0 → t.bit (bitF PFX_CAUSE 1) = true) ∧
          (∀ x ∈ qs, tget (fun _ => 0) t.pfx.eaten (64 * x.port + s.f PFX_QQ) =
            (tget (fun _ => 0) s.pfx.eaten (64 * x.port + s.f PFX_QQ) + s.passQf j) % 2 ^ 32) ∧
          (∀ i, lead.bind (fun y => s.leadEntry j y.hdr) = some i →
              t.rn (clReads i) = (s.rn (clReads i) + 1) % 2 ^ 32) ∧
          t.pfx.runs.map (fun r => (r.j, r.due)) = s.pfx.runs.map (fun r => (r.j, r.due)) ++
            [(j, s.now + s.passL j * 65536)] ∧
          ∀ r ∈ t.pfx.runs.drop s.pfx.runs.length, (∀ x ∈ r.replies, x.2.length = 240 * s.passRf j) ∧
            r.replies.map (fun x => (x.1, x.2.take 16)) =
              st.map (fun x => (x.1.port, s.replyHdr j x.1.hdr (if x.2 = 0 then qRows x.1.hdr else 0) x.2)))) ∧
    (∀ j : Nat, let me := fun (r : PassRun) => r.j == j && decide (r.due ≤ s.now) && !s.passHeld j
      let rest := s.pfx.runs.eraseP me;
      ((s.part.isK = false ∨ s.pfx.runs.find? me = none) → exec (.passReplyPost j) s = .next s) ∧
      (s.part.isK = true → ∀ r, s.pfx.runs.find? me = some r → let late := decide (r.due / 65536 < s.nowNs)
        let q := s.f PFX_RQ
        ∃ t, exec (.passReplyPost j) s = .next t ∧ t.pfx = { s.pfx with runs := rest } ∧
          (rest = [] → t.bit PASS_RUN = false) ∧ (rest ≠ [] → t.bit PASS_RUN = s.bit PASS_RUN) ∧
          t.rn LATE_PASS = (s.rn LATE_PASS + b2n late) % 2 ^ 32 ∧ (late = true → t.bit (bitF PFX_CAUSE 0) = true) ∧
          (r.replies.length = 1 → let x := r.replies.headD (0, [])
            let n := x.2.length / 240
            let post := s.rn (s.qa x.1 q 0x20)
            let v := s.refVal post
            let slots := s.rn (s.qa x.1 q 0x1C)
            let a := fun (i : Nat) => (s.rn (s.qa x.1 q 0x18) + (v + i) % slots) * 256;
            (s.hasCounter (bitsOf post 8 8) (bitsOf post 0 6) = true →
              t.cnt.adds = s.cnt.adds ++ [⟨s.now, bitsOf post 8 8, bitsOf post 0 6, n, false, 0⟩]) ∧
            (s.txSel x.1 q ≠ 0 → t.bonded = s.bonded ∧ ∀ i, i < n → (slots = 0 ∨ n ≤ i + slots) →
                a i + 256 ≤ stackBytes →
              t.stack.read (a i) 256 = (x.2.drop (240 * i)).take 240 ++ [240] ++ List.replicate 15 0) ∧
            (s.txSel x.1 q = 0 → t.stack = s.stack)))) ∧
    (let due := s.part.isK && s.bit MIG_EN && decide (1 ≤ s.share 65) &&
        s.pfx.slots.head?.any (fun x => decide (x + s.rn MIG_OFS * 65536 ≤ s.now))
      let from_ := s.pfx.migs.foldl (fun x m => if m.done then x else max x m.due) s.now;
      (due = false → exec .migrationSlot s = .next s) ∧
      (due = true → ∃ t, exec .migrationSlot s = .next t ∧ t.bit MIG_ACTIVE = true ∧
          (∀ i, i < 4096 → t.rn (clReads i) = 0) ∧
        (∀ a, isReads a = false → a ≠ MIG_ACTIVE.addr → t.r a = s.r a) ∧ t = { s with regs := t.regs, pfx := t.pfx } ∧
        t.pfx = { s.pfx with slots := s.pfx.slots.tail, migs := t.pfx.migs } ∧
          t.pfx.migs.length = s.pfx.migs.length + 1 ∧
        t.pfx.migs.take s.pfx.migs.length = s.pfx.migs ∧
        ∀ m ∈ t.pfx.migs.drop s.pfx.migs.length, m.done = false ∧ m.pages.length ≤ s.f MIG_PAGES ∧
            (m.pages = [] → m.due = from_) ∧
          (s.migPick = none → m.pages = []) ∧
          ∀ i, s.migPick = some i → (m.pages ≠ [] →
              m.due = from_ + transferNs true (s.share 65) (m.pages.length * (s.clutch i).pd) * 65536) ∧
            ∀ x ∈ m.pages, x.ent = i ∧ x.gen = s.f (clGen i) ∧ x.page < (s.clutch i).pages ∧
                x.block + s.pageBlocks i ≤ s.f CACHE_BLOCKS ∧
              (s.residents (m.drop ++ s.pfx.migs.flatMap (·.drop))).any (fun y => y.1 == i && y.2.1 == x.page) = false ∧
              (s.pfx.migs.flatMap (·.pages)).any (fun y => y.ent == i && y.page == x.page) = false)) ∧
    (let me := fun (m : Mig) => s.part.isK && !m.done && decide (m.due ≤ s.now);
      (s.pfx.migs.any me = false → exec .migrationCopyDone s = .next s) ∧
      ∀ i, s.pfx.migs.findIdx? me = some i → let l := s.pfx.migs.modify i (fun m => { m with done := true })
        ∃ t, exec .migrationCopyDone s = .next t ∧ t.bit MIG_ACTIVE = l.any (fun m => !m.done) ∧
            sameBits [MIG_ACTIVE] s t ∧
          t = { s with regs := t.regs, pfx := { s.pfx with migs := l } })

/-- At a die none of these commands changes anything, and at a Krasesta none of a region that does not exist.
LOOP_DECISION of a tile region that no pin and no trip holds and that has not switched in this cycle sets, with
f_perm the lowest of ceiling, thermal cap and power cap, but at least 1,500: above f_perm FREQ 25 MHz lower, with
the voltage of that frequency; below it, with the margin reached and no raise waiting, VSET of 25 MHz more, and FREQ
with it where that voltage is present, or else the raise waits; otherwise FREQ stays. TRIM moves by 5 mV up below
the lower margin and down above the upper one, within 50 mV, and VSET follows it; a raise that then waits for
nothing is taken. Of regions 9 to 11 it only trims. The caps are shown anew and nothing else of the block changes.
VOLTAGE_REACHED ends the wait of a region and takes the waiting raise. THERMAL_CAP_UPDATE stores MON_T; unless
TRIPPED, above the limit it lowers the cap of a tile region by 25 MHz with its cause, or at 1,500 holds an unpinned
region at the floor with its cause; below the limit less 3 degrees it raises the cap, to at most 2,000.
POWER_CAP_UPDATE stores PWR_IN and its peak; unless TRIPPED, above the effective limit it lowers CAP_MHZ by 25 with
its cause, or at 1,500 holds every unpinned tile region at the floor, and below 98 percent of it raises CAP_MHZ. The
model's choices: FLOOR_HOLD is raised at each update (log entry 62); the limit before a structure image is PWR_LIMIT
as reset (log entry 63); a switch of the same instant counts past 1 ns of hall time only (log entry 104); the
voltage of a frequency includes the trim (log entry 139). (12_regions_power.md) -/
def Obligations.RegionDecisions : Prop :=
  ∀ s : State,
    (s.part.isK = false → (∀ (r : Nat) (e : Int), exec (.loopDecision r e) s = .next s ∧
        exec (.voltageReached r) s = .next s ∧
      exec (.thermalCapUpdate r e) s = .next s) ∧ ∀ w : Nat, exec (.powerCapUpdate w) s = .next s) ∧
    (s.part.isK = true →
      (∀ (r : Nat) (e : Int), let just := s.r96 LAST_SWITCH = s.stamp ∧ 2 ^ 40 ≤ s.time
        let f := s.f (rgFreq r)
        let fp := max 1500 (min (s.f (profCeil (s.f PROFILE) r)) (min (s.region r).therm (s.f CAP_MHZ)))
        let v := s.f (rgVset r)
        let x := s.region r
        let tr := if e < Config.marginLo then min (s.trim r + 5) 50 else if Config.marginHi < e then max (s.trim r - 5) (-50) else s.trim r
        let up := decide (f < fp ∧ Config.marginLo ≤ e ∧ x.rising = false)
        let loop := fun (t : State) => sameBits [rgFreq r, rgVset r, rgTrim r, rgThermCapped r, rgPwrCapped r] s t ∧
          t.trim r = tr ∧ (∀ q, q ≠ r → t.region q = s.region q) ∧
          t.region r = { x with volt := (t.region r).volt, rising := (t.region r).rising, undo := (t.region r).undo } ∧
          onlyRegs { s with regions := t.regions } t;
        (r < 9 → s.unpinned r = true → ¬ just → ∃ t, exec (.loopDecision r e) s = .next t ∧ loop t ∧
          t.bit (rgThermCapped r) = decide (x.therm < 2000) ∧ t.bit (rgPwrCapped r) = t.pwrCapped r ∧
          (fp < f → t.f (rgFreq r) = f - 25 ∧ (t.region r).rising = false ∧ t.f (rgVset r) = t.vfor r (f - 25)) ∧
          (up = true → t.f (rgVset r) = t.vfor r (f + 25) ∧
            (t.vfor r (f + 25) ≤ s.voltNow r → t.f (rgFreq r) = (f + 25) % 2 ^ 16 ∧ (t.region r).rising = false) ∧
            (s.voltNow r < t.vfor r (f + 25) → t.f (rgFreq r) = f ∧ (t.region r).rising = true ∧
                (t.region r).volt = some (s.voltNow r))) ∧
          (f ≤ fp → up = false → (tr = s.trim r → t.f (rgFreq r) = f ∧ t.f (rgVset r) = v ∧
              (t.region r).rising = x.rising) ∧
            (tr ≠ s.trim r → t.f (rgVset r) = t.vfor r (s.fTarget r) ∧
              ((x.rising = false ∨ s.voltNow r < t.f (rgVset r)) → t.f (rgFreq r) = f ∧
                  (t.region r).rising = x.rising) ∧
              (x.rising = true → t.f (rgVset r) ≤ s.voltNow r → t.f (rgFreq r) = (f + 25) % 2 ^ 16 ∧
                  (t.region r).rising = false)))) ∧
        (r < 9 → (s.unpinned r = false ∨ just) → exec (.loopDecision r e) s = .next s) ∧
        (9 ≤ r → r < 12 → ∃ t, exec (.loopDecision r e) s = .next t ∧ loop t ∧ t.f (rgFreq r) = f ∧
            (t.region r).rising = x.rising ∧
          t.bit (rgThermCapped r) = s.bit (rgThermCapped r) ∧ t.bit (rgPwrCapped r) = s.bit (rgPwrCapped r) ∧
          t.f (rgVset r) = if tr = s.trim r then v else t.vneed r f) ∧
        (12 ≤ r → exec (.loopDecision r e) s = .next s)) ∧
      (∀ r : Nat, let x := s.region r
        let on := decide (r < 12) && x.volt.isSome;
        (on = true → ∃ t, exec (.voltageReached r) s = .next t ∧ t.region r = { x with volt := none, rising := false } ∧
          t.f (rgFreq r) = (if x.rising then (s.f (rgFreq r) + 25) % 2 ^ 16 else s.f (rgFreq r)) ∧
            (∀ q, q ≠ r → t.region q = s.region q) ∧
          (r < 9 → t.bit (rgThermCapped r) = decide (x.therm < 2000) ∧ t.bit (rgPwrCapped r) = t.pwrCapped r) ∧
          sameBits [rgFreq r, rgThermCapped r, rgPwrCapped r] s t ∧ onlyRegs { s with regions := t.regions } t) ∧
        (on = false → exec (.voltageReached r) s = .next s)) ∧
      (∀ (r : Nat) (c : Int), let lim : Int := 16 * (s.f T_LIMIT : Int)
        let x := s.region r
        let tile := decide (r < 9) && !s.bit TRIPPED
        let low := decide (lim < c) && decide (x.therm ≤ 1500)
        let cap := if lim < c then x.therm - 25 else if c < lim - 48 then min 2000 (x.therm + 25) else x.therm;
        (r < 12 → ∃ t, exec (.thermalCapUpdate r c) s = .next t ∧ t.rn (monT r) % 2 ^ 16 = unsignedOf 16 c ∧
          sameBits [⟨monT r, 0, 16⟩, rgFloorHold r, rgThermCapped r, rgPwrCapped r, bitF RGX_CAUSE 1,
            bitF RGX_CAUSE 2] s t ∧
          onlyRegsEv { s with regions := t.regions, flt := { s.flt with rpt := t.flt.rpt } } t ∧
          (let m := max c (signed 16 (s.rn (monT r))); t.flt.rpt = { s.flt.rpt with tempMax := some (max m (s.flt.rpt.tempMax.getD m)) }) ∧
          (∀ q, q ≠ r → t.region q = s.region q) ∧
          (tile = false → t.regions = s.regions ∧ t.bit (rgFloorHold r) = s.bit (rgFloorHold r) ∧
              t.bit (rgThermCapped r) = s.bit (rgThermCapped r) ∧
            t.bit (bitF RGX_CAUSE 1) = s.bit (bitF RGX_CAUSE 1) ∧ t.bit (bitF RGX_CAUSE 2) = s.bit (bitF RGX_CAUSE 2)) ∧
          (tile = true → low = false → t.region r =
              { x with therm := cap, floorT := false, undo := (t.region r).undo } ∧ t.bit (rgFloorHold r) = x.floorP ∧
            t.bit (rgThermCapped r) = decide (cap < 2000) ∧ t.bit (rgPwrCapped r) = t.pwrCapped r ∧
            t.bit (bitF RGX_CAUSE 1) = (decide (lim < c) || s.bit (bitF RGX_CAUSE 1))) ∧
          (tile = true → low = true → t.region r = { x with floorT := s.unpinned r, undo := (t.region r).undo } ∧
              t.bit (rgFloorHold r) = (s.unpinned r || x.floorP) ∧
            t.bit (bitF RGX_CAUSE 2) = (s.unpinned r || s.bit (bitF RGX_CAUSE 2)))) ∧
        (12 ≤ r → exec (.thermalCapUpdate r c) s = .next s)) ∧
      ∀ w : Nat, let eff := if s.bit STRUCT_VALID then min (s.f PWR_LIMIT) (s.f (profPcap (s.f PROFILE))) else s.f PWR_LIMIT
        let cap := s.f CAP_MHZ
        let above := decide (10 * eff < w)
        let p := min w 0xFFFF
        let low := above && decide (cap ≤ 1500)
        ∃ t, exec (.powerCapUpdate w) s = .next t ∧ t.f PWR_IN = p ∧ t.rn PWR_PEAK = max p (s.rn PWR_PEAK) ∧
          sameBits ([PWR_IN, wordF PWR_PEAK, CAP_MHZ, bitF RGX_CAUSE 0, bitF RGX_CAUSE 2] ++
            tileRegions.map rgFloorHold ++
            tileRegions.map rgThermCapped ++ tileRegions.map rgPwrCapped) s t ∧
          t = { s with regs := t.regs, beat := t.beat, perf := t.perf, regions := t.regions } ∧
          (s.bit TRIPPED = true → t.f CAP_MHZ = cap ∧ t.regions = s.regions ∧
              t.bit (bitF RGX_CAUSE 0) = s.bit (bitF RGX_CAUSE 0) ∧
            t.bit (bitF RGX_CAUSE 2) = s.bit (bitF RGX_CAUSE 2)) ∧
          (s.bit TRIPPED = false → t.f CAP_MHZ =
              (if above then max 1500 (cap - 25) else if 100 * w < 980 * eff then min 2000 (cap + 25) else cap) ∧
            t.bit (bitF RGX_CAUSE 0) = (above || s.bit (bitF RGX_CAUSE 0)) ∧
            t.bit (bitF RGX_CAUSE 2) = (low && tileRegions.any (fun r => s.unpinned r) || s.bit (bitF RGX_CAUSE 2)) ∧
            ∀ r, r < 9 → t.region r = { s.region r with floorP := low && s.unpinned r, undo := (t.region r).undo } ∧
              t.bit (rgFloorHold r) = ((s.region r).floorT || (low && s.unpinned r)) ∧
                t.bit (rgThermCapped r) = decide ((s.region r).therm < 2000) ∧
              t.bit (rgPwrCapped r) = t.pwrCapped r))

/-- THERMAL_TRIP at a tile sets TRIPPED with its cause, applies the gecko HALT, and leaves every tile region at 1,500
MHz with the voltage of it, no pin, and nothing waiting, and CAP_MHZ as it was before the cap updates of this cycle.
DROOP of a region lengthens one period of it by 1 to 1,000 thousandths (what it is, the spec leaves open):
STRETCH_COUNT is one more, so is the count since the last leap, and the cause is raised. RG_PIN_WRITE in a Krasesta
whose main part answers and is not loading: a legal pin of a tile region stores RG_PIN; where its voltage is the
higher one VSET takes it at once, and otherwise FREQ; a loop decision or switch of the same cycle is set aside. A
release clears PINNED and any pin under way, with the voltage of the present frequency; where nothing is pinned it
only stores RG_PIN. An illegal pin, and any write for regions 9 to 11, raises RGX_CAUSE bit 4 alone; for a tile
region while TRIPPED nothing changes; while a load runs CFG_LOCKED alone is raised; for a region that does not exist
nothing changes at any time. PIN_DONE of a pin under way sets FREQ, VSET and PINNED with its cause. At a die
STRETCH_CNT_STEP adds the lengthened periods since the last sample, modulo 256, and MON_TGL stores the monitor set.
Elsewhere nothing changes. The model's choices: how long a droop lengthens a period is free (log entry 22); the
voltage of a frequency includes the trim (log entry 139); a command whose trigger does not hold changes nothing (log
entry 8). (12_regions_power.md) -/
def Obligations.RegionEvents : Prop :=
  ∀ s : State,
    let others := fun (r : Nat) (t : State) => ∀ q, q ≠ r → t.region q = s.region q;
    (s.part.isK = true →
      (∀ t : Nat, (t < 72 → ∃ u, exec (.thermalTrip t) s = .next u ∧ u.bit TRIPPED = true ∧
          u.bit (bitF RGX_CAUSE 3) = true ∧
          u.bit GECKO_HALT = true ∧ u.bit (bitF GK_CAUSE 2) = true ∧ u.f CAP_MHZ = s.before.f CAP_MHZ ∧ sameMem s u ∧
            ((s.isRoot && s.armed) = false → u.armed = false) ∧
          ∀ r, r < 9 → u.f (rgFreq r) = 1500 ∧ u.f (rgVset r) = u.vneed r 1500 ∧ u.bit (rgPinned r) = false ∧
              u.bit (bitF (rgPin r) 31) = false ∧
            (u.region r).pin = none ∧ (u.region r).rising = false ∧ u.unpinned r = false) ∧
        (72 ≤ t → exec (.thermalTrip t) s = .next s)) ∧
      (∀ r : Nat, (r < 12 → ∃ u, exec (.droop r) s = .next u ∧
          u.rn (stretchCount r) = (s.rn (stretchCount r) + 1) % 2 ^ 32 ∧
          u.region r = { s.region r with since := (s.region r).since + 1 } ∧ others r u ∧
            u.bit (bitF REGION_CAUSE 1) = true ∧
          (u.regClk r).run = (s.regClk r).run ∧ (s.regClk r).debt < (u.regClk r).debt ∧
              (u.regClk r).debt ≤ (s.regClk r).debt + 1000 ∧
          sameBits [wordF (stretchCount r), bitF REGION_CAUSE 1] s u ∧
          onlyRegsEv { s with regions := u.regions, regClks := u.regClks, fresh := u.fresh } u) ∧
        (12 ≤ r → exec (.droop r) s = .next s)) ∧
      (s.mainOn = true → s.bit LOAD_BUSY = false → ∀ (r : Nat) (v : Word), let f := v.toNat % 2 ^ 16
        let mv := s.f ⟨rgPinv r, 0, 16⟩
        let on := bitOf v.toNat 31
        let bad := on && (decide (f < 1000) || decide (2000 < f) || decide (f % 25 ≠ 0) ||
          (decide (f < 1500) && s.armed) || decide (mv < 600) || decide (950 < mv))
        let may := decide (r < 9) && !s.bit TRIPPED && !bad
        let was := s.bit (rgPinned r) || (s.region r).pin.isSome
        let back := match (s.region r).undo with
          | some d => decide (d.at_ = s.beat.n)
          | none => false
        let vset := match (s.region r).undo with
          | some d => if back then d.vset % 2 ^ 16 else s.f (rgVset r)
          | none => s.f (rgVset r)
        let freq := match (s.region r).undo with
          | some d => if back then d.freq % 2 ^ 16 else s.f (rgFreq r)
          | none => s.f (rgFreq r);
        (may = true → on = true → ∃ u, exec (.rgPinWrite r v) s = .next u ∧ u.rn (rgPin r) = 2 ^ 31 + f ∧ others r u ∧
          (u.region r).pin = some (f, mv) ∧ (u.region r).rising = false ∧
          (vset < mv → u.f (rgVset r) = mv ∧ u.f (rgFreq r) = freq) ∧
          (mv ≤ vset → u.f (rgFreq r) = f ∧ u.f (rgVset r) = vset) ∧
          (back = false → u.trim r = s.trim r) ∧
              (∀ d, (s.region r).undo = some d → back = true → u.f (rgTrim r) = d.trim % 2 ^ 8) ∧
          sameBits [wordF (rgPin r), rgFreq r, rgVset r, rgTrim r, rgThermCapped r, rgPwrCapped r] s u ∧
            onlyRegs { s with regions := u.regions } u) ∧
        (may = true → on = false → ∃ u, exec (.rgPinWrite r v) s = .next u ∧ u.rn (rgPin r) = f ∧
          (was = true → u.bit (rgPinned r) = false ∧ (u.region r).pin = none ∧
              u.f (rgVset r) = s.vneed r (s.f (rgFreq r)) ∧ others r u) ∧
          (was = false → u.regions = s.regions ∧ sameRegs [rgPin r] s u) ∧
          sameBits [wordF (rgPin r), rgPinned r, rgVset r, rgThermCapped r, rgPwrCapped r] s u ∧
            onlyRegs { s with regions := u.regions } u) ∧
        ((r < 9 ∧ s.bit TRIPPED = false ∧ bad = true) ∨ (9 ≤ r ∧ r < 12) → ∃ u, exec (.rgPinWrite r v) s = .next u ∧
            u.bit (bitF RGX_CAUSE 4) = true ∧
          onlyRegs s u ∧ sameBits [bitF RGX_CAUSE 4] s u) ∧
        (s.bit TRIPPED = true → r < 9 → exec (.rgPinWrite r v) s = .next s)) ∧
      (∀ (r : Nat) (v : Word), ((s.mainOn = false ∨ 12 ≤ r) → exec (.rgPinWrite r v) s = .next s) ∧
        (s.mainOn = true → r < 12 → s.bit LOAD_BUSY = true →
            exec (.rgPinWrite r v) s = .next (s.raise LEAP_CAUSE 12))) ∧
      (∀ r f mv : Nat, r < 9 → (s.region r).pin = some (f, mv) → ∃ u, exec (.pinDone r) s = .next u ∧
          u.f (rgFreq r) = f % 2 ^ 16 ∧
        u.f (rgVset r) = mv % 2 ^ 16 ∧ u.bit (rgPinned r) = true ∧ u.bit (bitF RGX_CAUSE 5) = true ∧ others r u ∧
        u.region r = { s.region r with pin := none, volt := none } ∧
        sameBits [rgFreq r, rgVset r, rgPinned r, rgThermCapped r, rgPwrCapped r, bitF RGX_CAUSE 5] s u ∧
          onlyRegs { s with regions := u.regions } u) ∧
      (∀ r : Nat, (9 ≤ r ∨ (s.region r).pin = none) → exec (.pinDone r) s = .next s) ∧
      ∀ r : Nat, (∀ g, exec (.stretchCntStep r g) s = .next s) ∧ ∀ vf m, exec (.monTgl r vf m) s = .next s) ∧
    (s.part.isK = false → ∀ r : Nat,
      (r < s.part.numRegions → (∀ g : Nat, let n := (grayDecode g + 256 - (s.region r).cntLast) % 256
          ∃ u, exec (.stretchCntStep r g) s = .next u ∧
              u.region r = { s.region r with cntLast := grayDecode g, since := (s.region r).since + n } ∧
            u.rn (stretchCount r) = (s.rn (stretchCount r) + n) % 2 ^ 32 ∧
              (n ≠ 0 → u.bit (bitF REGION_CAUSE 1) = true) ∧
            (n = 0 → u.regs = s.regs) ∧ others r u ∧ sameBits [wordF (stretchCount r), bitF REGION_CAUSE 1] s u ∧
            onlyRegsEv { s with regions := u.regions } u) ∧
        ∀ vf m : Word, let c := signed 16 m.toNat
          let h := max c (signed 16 (s.rn (monT r)))
          ∃ u, exec (.monTgl r vf m) s = .next u ∧ u.r (monVf r) = vf ∧ u.rn (monT r) = m.toNat % 2 ^ 16 ∧
              sameRegs [monVf r, monT r] s u ∧
            u.flt.rpt = { s.flt.rpt with tempMax := some (max h (s.flt.rpt.tempMax.getD h)) } ∧
            onlyRegs { s with flt := { s.flt with rpt := u.flt.rpt } } u) ∧
      (s.part.numRegions ≤ r → (∀ g, exec (.stretchCntStep r g) s = .next s) ∧
          ∀ vf m, exec (.monTgl r vf m) s = .next s) ∧
      exec (.thermalTrip r) s = .next s ∧ exec (.droop r) s = .next s ∧ exec (.pinDone r) s = .next s ∧
        ∀ v, exec (.rgPinWrite r v) s = .next s)

/-- A SUBRESET that names no sub-block changes nothing. One that names some shows them in SUBRESET_BUSY, beside those
that were busy, keeps both memories and the hall time, and leaves nothing of what was under way in those it names:
the servo and its exchanges, measurements, leaps (a node in RUNNING stops, and ORPHAN stays), region loops (TRIPPED
stays), counters and watches, barriers, the port of a die, spawn, event counters, the step report. With leaps armed
and a sub-block named other than TDC, INT or PERF, the gecko HALT comes first; without one, every register of a
named sub-block takes its Reset value, but RWS fields and those of the structure image, which stand, and every
register outside them, the GECKO block, TIME_STATUS, LEAP_STATUS and RGX_STATUS is as before, but for CFG_CAUSE
where a run stops. SUBRESET_X does the same in a Krasesta: ports, tile units (which show their identities anew),
PREFIX (whose clutch entries become FREE, a used one with its next GEN), NET and stacks; any named one needs the
HALT. A die has none. SUBRESET_DONE of a busy sub-block clears its bit and, where none is left in its register,
raises GK_CAUSE bit 6; of one that is not busy it changes nothing. The model's choices: a node in RUNNING stops,
with its report (log entry 49); the image fields that stand, and GEN (log entry 50); a reset acts at its write (log
entry 51); hall time stays (log entry 120); UP_DEAD and FENCE_INFO stay (log entry 147); REGIONX resets with REGION,
and FAULTX from 0x400 with no bit (log entry 154). (13_faults.md) -/
def Obligations.SubResets : Prop :=
  ∀ s : State,
    (∀ v : Word, let on := fun (b : Nat) => bitOf v.toNat b
      let halts := s.armed && [0, 2, 3, 4, 5, 6, 7, 10].any on;
      (v.toNat % 2 ^ 11 = 0 → exec (.subreset v) s = .next s) ∧
      (v.toNat % 2 ^ 11 ≠ 0 → ∃ t, exec (.subreset v) s = .next t ∧
          t.rn SUBRESET_BUSY = s.rn SUBRESET_BUSY ||| v.toNat % 2 ^ 11 ∧
        sameMem s t ∧ t.time = s.time ∧ (halts = true → t.bit GECKO_HALT = true ∧ t.bit (bitF GK_CAUSE 2) = true) ∧
        (on 0 = true → t.servo = {} ∧ ∀ p ∈ s.allPorts, t.exch p = {}) ∧ (on 1 = true → t.chans = [] ∧ t.edges = []) ∧
        (on 2 = true → t.leap = { relay := t.leap.relay, planSinceStop := t.leap.planSinceStop } ∧ t.nst ≠ .running ∧
          t.bit ORPHAN = s.bit ORPHAN) ∧
        (on 3 = true → (∀ r, t.region r = { cntLast := (s.region r).cntLast }) ∧
            t.bit TRIPPED = (s.part.isK && s.bit TRIPPED)) ∧ (on 4 = true → t.cnt = {} ∧ t.unit = none) ∧
        (on 5 = true → t.bar = { dlSince := s.now }) ∧
            (on 6 = true → s.part.isK = false → t.port 0 = (s.port 0).cleared) ∧
        (on 7 = true → t.spawn = {}) ∧ (on 9 = true → t.perf = { t.perf with cnt := [], last := [], early := [] }) ∧
            (on 10 = true → t.flt.rpt = {}) ∧
        (halts = false →
          (∀ b a, b < 11 → on b = true → s.inSub b a = true → t.r a = s.resetWord true a (s.r a)) ∧
          (∀ a, (∀ b, b < 11 → on b = true → s.inSub b a = false) → ¬ (0x101000 ≤ a ∧ a < 0x102000) →
            a ∉ [TIME_STATUS, LEAP_STATUS, 0x3800000, CFG_CAUSE] → t.r a = s.r a) ∧
          (s.isRoot = true → t.bit ROOT = true) ∧ (on 0 = false → t.servo = s.servo) ∧
              (on 1 = false → t.chans = s.chans ∧ t.edges = s.edges) ∧
          (on 2 = false → t.leap = s.leap ∧ t.nst = s.nst ∧ t.r LEAP_STATUS = s.r LEAP_STATUS ∧
              t.r CFG_CAUSE = s.r CFG_CAUSE) ∧
          (on 3 = false → t.regions = s.regions) ∧ (on 4 = false → t.cnt = s.cnt) ∧ (on 5 = false → t.bar = s.bar) ∧
          (on 0 = false → on 6 = false → t.ports = s.ports) ∧ (on 7 = false → t.spawn = s.spawn) ∧
              (on 9 = false → t.perf = s.perf) ∧
          (on 10 = false → t.flt.rpt = s.flt.rpt) ∧ t.tiles = s.tiles ∧ t.pfx = s.pfx))) ∧
    (s.part.isK = true → ∀ v : Word, let on := fun (b : Nat) => bitOf v.toNat b;
      (v.toNat % 2 ^ 22 = 0 → exec (.subresetX v) s = .next s) ∧
      (v.toNat % 2 ^ 22 ≠ 0 → ∃ t, exec (.subresetX v) s = .next t ∧
          t.rn SUBRESET_X_BUSY = s.rn SUBRESET_X_BUSY ||| v.toNat % 2 ^ 22 ∧
        sameMem s t ∧ t.time = s.time ∧ (s.armed = true → t.bit GECKO_HALT = true ∧ t.bit (bitF GK_CAUSE 2) = true) ∧
        (∀ b p, b < 18 → on b = true → p / 4 = b → t.port p = (s.port p).cleared) ∧
        (on 18 = true → ∀ k, k < 72 → t.tile k = { cyc0 := s.regEdges (k / 8) } ∧
            t.bit (bitF (tileReg k 0) 11) = (s.logicalOf k).isNone ∧
          t.f ⟨tileReg k 0, 0, 7⟩ = ((s.logicalOf k).getD 0x7F) % 128) ∧
        (on 19 = true → t.pfx = {} ∧ ∀ i, i < 4096 → t.f (clSt i) = 0 ∧
          t.f (clGen i) = if s.clUsed.contains i then (s.f (clGen i) + 1) % 4096 else s.f (clGen i)) ∧
        (on 21 = true → t.stackHot = [] ∧ t.stackAt = s.regEdges 10) ∧
        (s.armed = false →
          (∀ b a, b < 22 → on b = true → inSubX b a = true → t.r a = s.resetWord true a (s.r a)) ∧
          (∀ a, (∀ b, b < 22 → on b = true → inSubX b a = false) → ¬ (0x101000 ≤ a ∧ a < 0x102000) →
              a ∉ [TIME_STATUS, SUBRESET_X_BUSY] →
            (on 18 = false ∨ ¬ (0x2000000 ≤ a ∧ a < 0x2900000)) →
                (on 19 = false ∨ ¬ (0x3010000 ≤ a ∧ a < 0x3050000)) → t.r a = s.r a) ∧
          ((∀ b, b < 18 → on b = false) → t.ports = s.ports) ∧ (on 18 = false → t.tiles = s.tiles) ∧
              (on 19 = false → t.pfx = s.pfx) ∧
          t.leap = s.leap ∧ t.nst = s.nst ∧ t.cnt = s.cnt ∧ t.bar = s.bar ∧ t.spawn = s.spawn ∧
            t.regions = s.regions ∧ t.perf = s.perf))) ∧
    (s.part.isK = false → ∀ v : Word, exec (.subresetX v) s = .next s) ∧
    (∀ b : Nat, 64 ≤ b → exec (.subresetDone b) s = .next s) ∧
    (∀ b : Nat, b < 64 → let F := if b < 32 then bitF SUBRESET_BUSY b else bitF SUBRESET_X_BUSY (b - 32);
      (s.bit F = false → exec (.subresetDone b) s = .next s) ∧
      (s.bit F = true → ∃ t, exec (.subresetDone b) s = .next t ∧ t.bit F = false ∧ onlyRegs s t ∧
          sameBits [F, bitF GK_CAUSE 6] s t ∧
        t.bit (bitF GK_CAUSE 6) = (decide (t.rn F.addr = 0) || s.bit (bitF GK_CAUSE 6))))

/-- In a node whose main part answers; elsewhere these writes change nothing. LOAD_STRUCT alone in TADPOLE, and
LOAD_PLAN alone in CHORUS or STOPPED, with no load in progress, begin a load: BUSY, phase 1, nothing fetched
(IMG_BYTES 0 in a Krasesta; a die reads the header over its bulk port), and nothing else. In another state, or while
a load runs, each is refused with cause 1 in CHECK_INFO and CFG_CAUSE bit 2, and nothing else. ABORT alone of a load
that is not in its apply phase ends it with cause 27, and in the fetch phase of a Krasesta the descriptor that it
holds completes with STATUS IO, or waits to do so while Bus Master Enable is 0; else it changes nothing. ABORT with
a LOAD bit acts first, and then the LOAD bits are judged; both LOAD bits together are refused with cause 1. RESTART
stands alone, whatever else the write says: it takes the node to TADPOLE without structure image, plan or load, with
leaps not armed, keeps both memories and the hall time and raises CFG_CAUSE bit 3. An IMAGE_DESCRIPTOR outside a
fetch that still takes bytes, or with no descriptor owned, and at a die, changes nothing; one of 0 bytes completes
with STATUS RANGE; a whole buffer adds the bytes that the image takes, counts them and completes (STATUS IO where
the header ends the fetch before its end); one whose data end early ends the load with cause 27. PCIE_RESET ends a
fetch with cause 27, resets HOSTIF and the rings and raises its cause. The model's choices: which registers a
restart keeps (log entry 33); both LOAD bits together record PLAN 1 (log entry 36); data that end early end with IO
(log entry 47); ABORT acts before a LOAD bit (log entry 5); a command whose trigger does not hold changes nothing
(log entry 8). (14_images_startup.md, 15_host_interface.md) -/
def Obligations.LoadCommands : Prop :=
  ∀ s : State,
    let shows_ := fun (t : State) (plan : Bool) (cause : Nat) => t.rn CHECK_INFO =
      2 ^ 31 + b2n plan * 2 ^ 30 + cause * 2 ^ 24 + noRecord ∧
      t.rn CHECK_OFS = 0 ∧ t.bit (bitF CFG_CAUSE 2) = true;
    let refused := fun (t : State) (plan : Bool) => shows_ t plan 1 ∧ onlyRegs s t ∧
      sameBits [wordF CHECK_INFO, wordF CHECK_OFS, bitF CFG_CAUSE 2] s t;
    let ended := fun (t : State) => shows_ t s.load.plan 27 ∧ t.bit LOAD_BUSY = false ∧ t.f PHASE = 0 ∧ t.load = {} ∧
      sameMem s t ∧ t.nst = s.nst ∧
      t.cnt = s.cnt ∧ t.ports = s.ports ∧ t.leap = s.leap;
    let io := fun (t : State) => wroteBack s t 0 ∧ t.host.wb.getD 5 0 = 2 ^ 24;
    let begun := fun (t : State) (plan : Bool) => t.bit LOAD_BUSY = true ∧ t.f PHASE = 1 ∧ t.load = { plan := plan } ∧
      (s.part.isK = true → t.rn 0x600000 = 0 ∧ sameBits [LOAD_BUSY, PHASE, wordF 0x600000] s t ∧
          onlyRegs { s with load := t.load } t) ∧
      (s.part.isK = false → sameBits [LOAD_BUSY, PHASE] s t ∧
        t = { (s.bulkRead (fun o => .image o) s.imgAddr 64) with regs := t.regs, beat := t.beat, load := t.load });
    (s.mainOn = false → ∀ v : Word, exec (.loadStruct v) s = .next s ∧ exec (.loadPlan v) s = .next s ∧
        exec (.loadAbort v) s = .next s ∧
      exec (.restart v) s = .next s) ∧
    (s.mainOn = true → ∀ v : Word, let on := fun (b : Nat) => bitOf v.toNat b;
      (on 1 = false → on 2 = false → on 3 = false →
        (s.bit LOAD_BUSY = false → s.nst = .tadpole → ∃ t, exec (.loadStruct v) s = .next t ∧ begun t false) ∧
        ((s.bit LOAD_BUSY = true ∨ s.nst ≠ .tadpole) → ∃ t, exec (.loadStruct v) s = .next t ∧ refused t false)) ∧
      (on 0 = false → on 2 = false → on 3 = false →
        (s.bit LOAD_BUSY = false → (s.nst = .chorus ∨ s.nst = .stopped) → ∃ t, exec (.loadPlan v) s = .next t ∧
            begun t true) ∧
        ((s.bit LOAD_BUSY = true ∨ (s.nst ≠ .chorus ∧ s.nst ≠ .stopped)) → ∃ t, exec (.loadPlan v) s = .next t ∧
            refused t true)) ∧
      (on 2 = false → on 3 = false → (on 1 = true → exec (.loadStruct v) s = exec (.loadPlan (v ||| 1)) s) ∧
        (on 0 = true → ∃ t, exec (.loadPlan v) s = .next t ∧ refused t true)) ∧
      (on 0 = false → on 1 = false → on 3 = false →
        (s.bit LOAD_BUSY = true → s.f PHASE ≠ 3 → ∃ t, exec (.loadAbort v) s = .next t ∧ ended t ∧
          (s.part.isK = true → s.f PHASE = 1 → (s.held 0).isSome = true →
            (s.bit BME = true → io t) ∧ (s.bit BME = false → t.held 0 = s.held 0 ∧
                t.host = { s.host with endTx0 := true }))) ∧
        ((s.bit LOAD_BUSY = false ∨ s.f PHASE = 3) → exec (.loadAbort v) s = .next s)) ∧
      (on 3 = false → (on 0 = true → exec (.loadAbort v) s = exec (.loadStruct (v ||| 4)) s) ∧
        (on 1 = true → exec (.loadAbort v) s = exec (.loadPlan (v ||| 4)) s) ∧
        (on 2 = true → ∃ u, exec (.loadAbort 4) s = .next u ∧ exec (.loadStruct v) s = exec (.loadStruct (v &&& 3)) u ∧
          exec (.loadPlan v) s = exec (.loadPlan (v &&& 3)) u)) ∧
      (on 3 = true → exec (.loadStruct v) s = exec (.restart v) s ∧ exec (.loadPlan v) s = exec (.restart v) s ∧
        exec (.loadAbort v) s = exec (.restart v) s) ∧
      (∃ t, exec (.restart v) s = .next t ∧ t.nst = .tadpole ∧ t.bit STRUCT_VALID = false ∧ t.bit PLAN_VALID = false ∧
          t.bit LEAPS_ARMED = false ∧
        t.bit LOAD_BUSY = false ∧ t.f PHASE = 0 ∧ t.load = {} ∧ t.bit (bitF CFG_CAUSE 3) = true ∧ sameMem s t ∧
          t.time = s.time ∧
        t.ports = [] ∧ t.cnt = {} ∧ t.spawn = {} ∧ t.tiles = [] ∧ t.pfx = {} ∧ t.part = s.part)) ∧
    (s.part.isK = true → ∀ desc data : List Byte,
      ((s.fetching = false ∨ s.takeDesc 0 desc = none) → exec (.imageDescriptor desc data) s = .next s) ∧
      (∀ d, s.takeDesc 0 desc = some d → s.fetching = true →
        (descLen d = 0 → ∃ t, exec (.imageDescriptor desc data) s = .next t ∧ wroteBack s t 0 ∧
            t.host.wb.getD 5 0 = 2 * 2 ^ 24 ∧ t.load = s.load ∧
          sameMem s t) ∧
        (0 < descLen d → data.length < descLen d → ∃ t, exec (.imageDescriptor desc data) s = .next t ∧ ended t ∧
            io t) ∧
        (0 < descLen d → descLen d ≤ data.length → ∃ t, exec (.imageDescriptor desc data) s = .next t ∧
            let r := s.takeBytes (data.take (descLen d))
          let ends := decide (r.2 < descLen d) && (t.hdrBad s.load.plan (t.load.bytes.take 64)).isSome &&
            decide (64 ≤ t.load.bytes.length)
          t.load = { s.load with bytes := t.load.bytes } ∧ t.load.bytes = s.load.bytes ++ data.take r.2 ∧
            r.2 ≤ descLen d ∧
          t.rn 0x600000 = (s.rn 0x600000 + r.2) % 2 ^ 32 ∧ wroteBack s t 0 ∧ t.host.wb.getD 0 0 = r.2 % 2 ^ 24 ∧
          t.host.wb.getD 5 0 = (if ends then 2 ^ 24 else 0) ∧ sameMem s t))) ∧
    (s.part.isK = true → ∃ t, exec .pcieReset s = .next t ∧ t.bit (bitF HST_CAUSE 13) = true ∧ sameMem s t ∧
        t.nst = s.nst ∧
      t.bit BME = false ∧ (∀ r, r < 8 → t.bit (ringEn r) = false ∧ t.held r = none) ∧
      (s.f PHASE = 1 → ended t) ∧ (s.f PHASE ≠ 1 → t.load = s.load ∧ t.r CHECK_INFO = s.r CHECK_INFO)) ∧
    (s.part.isK = false → (∀ desc data, exec (.imageDescriptor desc data) s = .next s) ∧ exec .pcieReset s = .next s)

/-- LOAD_FETCH_DONE when all that the load takes has been fetched: a header that does not keep cause 2 refuses the image
with cause 2 at its offset; otherwise the check phase begins, and a Krasesta keeps a plan image in its stacks at its
staging place and changes no other byte of memory. LOAD_CHECK_DONE in the check phase refuses with cause 27 where an
error lies in the staged copy (of a structure image in the buffer of a Krasesta it is any value, the model's choice,
log entry 165), else with the first cause, record and offset that the checker finds, and else begins the apply
phase, in which a die reads the image a second time. LOAD_APPLY_DONE in the apply phase, once a die has that second
reading: an error in the staged copy refuses with cause 27, and clears the plan where a plan was loading; a second
reading that differs refuses with cause 26. Otherwise the image is in force: every register that the records of the
image write over the Reset values reads so, PLAN_VALID or STRUCT_VALID is 1, the CRC and IMAGE_ID of the image are
shown, its cause is raised, CHECK_INFO shows no refusal, and the load ends. A plan clears PLAN_EDITED and COMPLETE
and keeps the node state; a structure image takes profile 0 without a strobe, makes a node of level 3 that is no
twin the root, and takes the node out of TADPOLE. In another phase none of them changes anything. Every refusal
leaves all other registers and both memories, and the end of an apply phase discards every word still staged. Also
the model's choices: LAST_COMMIT stands (log entry 34); CHECK_INFO.VALID clears (log entry 35); the rings stop (log
entry 48); the CRC of CHANGED (log entry 92); the least offset of one cause, and the offsets that no record carries
(log entries 46 and 144); a command whose trigger does not hold changes nothing (log entry 8).
(14_images_startup.md) -/
def Obligations.LoadStages : Prop :=
  ∀ s : State,
    let refused := fun (t : State) (x : Refused) => t.rn CHECK_INFO =
      2 ^ 31 + b2n s.load.plan * 2 ^ 30 + x.cause % 64 * 2 ^ 24 + x.record % 2 ^ 24 ∧
      t.rn CHECK_OFS = x.ofs % 2 ^ 32 ∧ t.bit (bitF CFG_CAUSE 2) = true ∧ t.bit LOAD_BUSY = false ∧ t.f PHASE = 0 ∧
        t.load = {} ∧ sameMem s t ∧
      t.nst = s.nst;
    let kept := fun (t : State) => sameBits [wordF CHECK_INFO, wordF CHECK_OFS, bitF CFG_CAUSE 2, LOAD_BUSY,
      PHASE] s t ∧
      onlyRegs { s with load := t.load, bulk := t.bulk, staged := if s.f PHASE = 3 then [] else s.staged } t;
    ((s.fetchedAll = false → exec .loadFetchDone s = .next s) ∧
      (s.fetchedAll = true →
        (∀ o, s.hdrBad s.load.plan (s.load.bytes.take 64) = some o → ∃ t, exec .loadFetchDone s = .next t ∧
            refused t ⟨2, noRecord, o⟩ ∧
          ((s.part.isK = false ∨ s.held 0 = none) → kept t) ∧
              (s.part.isK = true → (s.held 0).isSome = true → s.bit BME = true → wroteBack s t 0)) ∧
        (s.hdrBad s.load.plan (s.load.bytes.take 64) = none → ∃ t, exec .loadFetchDone s = .next t ∧ t.f PHASE = 2 ∧
            sameBits [PHASE] s t ∧
          onlyRegs { s with stack := t.stack, host := { s.host with bad := t.host.bad } } t ∧
          ((s.part.isK && s.load.plan) = false → t.stack = s.stack ∧ t.host.bad = s.host.bad) ∧
          ((s.part.isK && s.load.plan) = true → let b := s.stageBase
            (∀ i, i < s.load.bytes.length → t.stack.byte (b + i) = s.load.bytes.getD i 0) ∧
            ∀ a, (a < b ∨ b + s.load.bytes.length ≤ a) → t.stack.byte a = s.stack.byte a)))) ∧
    ((s.f PHASE ≠ 2 → exec .loadCheckDone s = .next s) ∧
      (s.f PHASE = 2 → s.stageBad = true → ∃ t, exec .loadCheckDone s = .next t ∧ refused t ioRefusal ∧ kept t) ∧
      (s.f PHASE = 2 → s.stageBad = false →
        (∀ x, s.checkImage s.load.plan s.image = some x → ∃ t, exec .loadCheckDone s = .next t ∧ refused t x ∧ kept t) ∧
        (s.checkImage s.load.plan s.image = none → ∃ t, exec .loadCheckDone s = .next t ∧ t.f PHASE = 3 ∧
            sameBits [PHASE] s t ∧ sameMem s t ∧
          (s.part.isK = true → onlyRegs s t) ∧ (s.part.isK = false → t.load = { s.load with got := 0, again := [] } ∧
            t = { (s.bulkRead (fun o => .image o) s.imgAddr (imgLength s.load.bytes)) with regs := t.regs, beat := t.beat, load := t.load })))) ∧
    (let bs := if s.part.isK then s.image else s.load.again
      let c := crcOfs s.load.bytes
      let read := s.part.isK || decide (imgLength s.load.bytes ≤ s.load.got)
      let same := s.part.isK || crc32c (bs.take c) == crc32c (s.load.bytes.take c)
      let go := decide (s.f PHASE = 3) && read;
      let done := fun (t : State) (crcA cause : Nat) => t.rn crcA = imgW bs (crcOfs bs) % 2 ^ 32 ∧
        t.rn (crcA + 4) = imgId bs % 2 ^ 32 ∧
        t.bit (bitF CFG_CAUSE cause) = true ∧ t.bit LOAD_BUSY = false ∧ t.f PHASE = 0 ∧ t.load = {} ∧
          t.bit (bitF CHECK_INFO 31) = false ∧
        t.time = s.time ∧ t.staged = [];
      (go = false → exec .loadApplyDone s = .next s) ∧
      (go = true → s.stageBad = true → ∃ t, exec .loadApplyDone s = .next t ∧ refused t ioRefusal ∧
          (s.load.plan = false → kept t) ∧
        (s.load.plan = true → t.bit PLAN_VALID = false ∧
          ∀ a, (loadRow s.part true a).any (fun r => r.lock != .rws) = true → t.r a = regReset s.part a)) ∧
      (go = true → s.stageBad = false → same = false → ∃ t, exec .loadApplyDone s = .next t ∧
          refused t ⟨26, noRecord, 0⟩ ∧ kept t) ∧
      (go = true → s.stageBad = false → same = true → s.load.plan = true → ∃ t, exec .loadApplyDone s = .next t ∧
          done t PLAN_CRC 1 ∧
        t.bit PLAN_VALID = true ∧ t.bit PLAN_EDITED = false ∧ t.bit COMPLETE = false ∧ t.nst = s.nst ∧
          t.bit STRUCT_VALID = s.bit STRUCT_VALID ∧
        ∀ a, (loadRow s.part true a).isSome = true → (a < 0x3200000 ∨ 0x3400000 ≤ a) →
            t.r a = (s.applied true bs).st.r a) ∧
      (go = true → s.stageBad = false → same = true → s.load.plan = false → ∃ t, exec .loadApplyDone s = .next t ∧
          done t STRUCT_CRC 0 ∧
        t.bit STRUCT_VALID = true ∧ t.f PROFILE = 0 ∧ t.outs.regionStb = false ∧ sameMem (s.applied false bs).st t ∧
        (t.nst = .armed ∨ t.nst = .live ∨ t.nst = .chorus) ∧ (t.level = 3 → t.isTwin = false → t.bit ROOT = true) ∧
        t.f NODE_ID = (s.applied false bs).st.f NODE_ID))

/-- REGISTER_WRITE where no part answers, in the block of a port that does not exist, or where no register lies, changes
nothing. Of four WHEEL entries: with leaps armed or a load in progress CFG_LOCKED alone is raised; else each takes
its byte, unless the structure image holds it as T or P or the byte is no legal entry, and a valid plan sets
PLAN_EDITED. Of a register whose write is a command (CFG_CTRL, GK_CTRL, LEAP_CTRL, EPOCH_CTRL, TIME_CTRL, CNT_CTRL,
SPAWN_CTRL, FLT_CTRL, INT_REARM, PERF_CTRL, TIME_INCR, SUBRESET, FORCE_DATA, FENCE_REQ, UNFENCE, TEST_CTRL,
CORE_MAP, PERF_SEL, CH_CTRL, LINK_CTRL; in a Krasesta also REF_SEL, PHASE_CTRL, PULSE_CTRL, NET_CTRL, SUBRESET_X,
PFX_CTRL, PERFX_CTRL, TILE_MAP, RG_PIN, the ring controls and EFT_CFG) it is that command where its bit is 1; else
the fields beside it are stored. Of RG_PINV of regions 9 to 11 it raises RGX_CAUSE bit 4. Of any other word: where a
load locks it, or it has a writable field and is locked, CFG_LOCKED is raised and, but for a low word, the staged
words of its register go; without a writable field nothing changes; where the spec lets the write pass without
report, nothing changes but those; a low word of a wide register is staged; the highest or only word takes effect
with the staged ones, each field by its access type, a plan register of a valid plan sets PLAN_EDITED, and no other
register changes where nothing follows it. PLAN_REGISTER_WRITE and WIDE_REGISTER_HIGH_WRITE are such a write at
their addresses only. At a die a write ends with REG_ACK 1, and REG_ERR for a misaligned or unserved address and for
FORCE_DATA without the main part. WIDE_REGISTER_LOW_READ answers what the register shows, a lowest word as this
cycle began, latching all words of its register, an upper word as last latched, 0 where no part serves it; nothing
else changes. PWR_PEAK_READ gives the peak as this cycle began and starts it anew. The model's choices: a WHEEL byte
that is no legal entry leaves the entry (log entry 40); a value outside a stated range leaves the field (log entry
41); PWR_PEAK starts anew at 0 with what the cycle brings (log entry 96); what a load locks (log entry 98); a
register with a command of its own is reached by its address too (log entry 109); an access ends in its command (log
entry 168). (00_scope.md, 12_regions_power.md, 14_images_startup.md, 17_address_map.md) -/
def Obligations.RegisterPorts : Prop :=
  ∀ (s : State) (a : Nat) (v : Word),
    let here := s.served a && !s.absentPort a
    let err := a % 4 != 0 || !s.served a || (a == 0x10101C && !s.mainOn)
    let fin := fun (t : State) => if s.part.isK then t
      else { t with outs := { t.outs with regAck := true, regErr := err, regData := if err then 0 else t.outs.regData } };
    (here = false → exec (.registerWrite a v) s = .next (fin s)) ∧
    (here = true → s.wheelPlace a = none → regRow s.part a = none → exec (.registerWrite a v) s = .next (fin s)) ∧
    (∀ p k, s.wheelPlace a = some (p, k) → here = true →
      let b := fun (i : Nat) => BitVec.ofNat 8 (v.toNat / 2 ^ (8 * i))
      let w := fun (t : State) (q e : Nat) => tget wheelDefault (t.port q).wheel e;
      ((s.bit LOAD_BUSY || s.armed) = true → exec (.registerWrite a v) s = .next (fin (s.raise LEAP_CAUSE 12))) ∧
      ((s.bit LOAD_BUSY || s.armed) = false → ∃ t, exec (.registerWrite a v) s = .next t ∧
        (∀ i, i < 4 → let c := entClass (tget wheelDefault (s.port p).wheel0 (4 * k + i))
          w t p (4 * k + i) = if c = 1 ∨ c = 2 ∨ entOk (b i) = false then w s p (4 * k + i) else b i) ∧
        (∀ q e, (q ≠ p ∨ e < 4 * k ∨ 4 * k + 4 ≤ e) → w t q e = w s q e) ∧
            t.port p = { s.port p with wheel := (t.port p).wheel } ∧
        t.bit PLAN_EDITED = (s.bit PLAN_VALID || s.bit PLAN_EDITED) ∧ sameBits [PLAN_EDITED] s t ∧
        onlyRegs { s with ports := t.ports, outs := (fin s).outs } t)) ∧
    (let cmd := fun (c : Instr) => ∃ u, exec c s = .next u ∧ exec (.registerWrite a v) s = .next (fin u)
      let on := fun (l : List (Nat × Nat × Instr)) => ∀ x ∈ l, a = x.1 → bitOf v.toNat x.2.1 = true → cmd x.2.2
      let off := fun (l : List (Nat × Nat)) => ∀ x ∈ l, a = x.1 → v.toNat &&& x.2 = 0 →
        exec (.registerWrite a v) s = .next (fin s);
      here = true → s.wheelPlace a = none → (regRow s.part a).isSome = true →
        (∀ c ∈ ([(0x101010, .subreset v), (0x10101C, .forceData v), (0x101030, .fenceReq v), (0x101034, .unfence v),
          (TIME_INCR + 4, .timeIncrWrite v), (0x100010, .testCtrlWrite v),
              (0x1C0000, .freeze false v)] : List (Nat × Instr)), a = c.1 → cmd c.2) ∧
        on [(0x1B0008, 3, .restart v), (0x1B0008, 2, .loadAbort v), (0x1B0008, 1, .loadPlan v),
          (0x1B0008, 0, .loadStruct v),
          (0x10100C, 0, .geckoHalt v), (0x10100C, 1, .logFreeze v), (0x10100C, 2, .logUnfreeze v),
              (0x120004, 0, .start v),
          (0x120004, 1, .stopReq v), (0x120004, 2, .haltReq v), (0x120004, 3, .cancelStop v),
              (0x1200AC, 8, .epochArm v),
          (0x1200AC, 9, .epochCancel v), (0x110040, 0, .secArm v), (0x150000, 0, .taskSwitch v),
              (0x190008, 0, .spawnArm v),
          (0x190008, 1, .spawnDisarm v), (0x1A000C, 0, .snapReq v), (0x102004, 0, .intRearm v),
              (0x1C0000, 1, .clearAll false v)] ∧
        off [(0x1B0008, 15), (0x10100C, 7), (0x120004, 15), (0x110040, 1), (0x150000, 1), (0x190008, 3),
          (0x1A000C, 1), (0x102004, 1)] ∧
        (a = 0x1200AC → s.bit LOAD_BUSY = false → bitOf v.toNat 8 = false → bitOf v.toNat 9 = false →
          ∃ t, exec (.registerWrite a v) s = .next t ∧ t.f EPOCH_PROF = v.toNat % 16 ∧ sameBits [EPOCH_PROF] s t ∧
            onlyRegs { s with outs := (fin s).outs } t) ∧
        (∀ l, l < 256 → a = 0x1A1000 + 4 * l → cmd (.coreMapWrite l v)) ∧
        (∀ c, c < s.numCh → a = s.ch c 4 → (bitOf v.toNat 7 = true → cmd (.chGo c v)) ∧
            (bitOf v.toNat 8 = true → cmd (.chAbort c v)) ∧
          (s.bit LOAD_BUSY = false → bitOf v.toNat 7 = false → bitOf v.toNat 8 = false →
              ∃ t, exec (.registerWrite a v) s = .next t ∧
            t.f ⟨s.ch c 4, 0, 5⟩ = (if v.toNat % 32 ≤ 20 then v.toNat % 32 else s.f ⟨s.ch c 4, 0, 5⟩) ∧
            t.bit (bitF (s.ch c 4) 9) = bitOf v.toNat 9 ∧ sameBits [⟨s.ch c 4, 0, 5⟩, bitF (s.ch c 4) 9] s t ∧
            onlyRegs { s with outs := (fin s).outs } t)) ∧
        (∀ p ∈ s.allPorts, a = s.pa p 4 → (bitOf v.toNat 0 = true → cmd (.retrain p v)) ∧
          (bitOf v.toNat 0 = false → exec (.registerWrite a v) s = .next (fin s))) ∧
        ((s.perfSelAt a).isSome = true → cmd (.perfSelWrite a v)) ∧
        (s.part.isK = true →
          (∀ c ∈ ([(0x200004, .refSelWrite v), (0x700020, .subresetX v),
              (0x800000, .freeze true v)] : List (Nat × Instr)), a = c.1 → cmd c.2) ∧
          on [(0x200058, 0, .phaseStepArm v), (0x200058, 1, .phaseStepCancel v), (PULSE_CTRL, 3, .align v),
            (NET_CTRL, 3, .utcClaimWrite v),
            (0x3000004, 0, .pfxOpen v), (0x3000004, 1, .pfxSeal v), (0x3000004, 2, .pfxEvict v),
                (0x3000004, 3, .pfxFree v),
            (0x3000004, 4, .pfxImport v), (0x800000, 1, .clearAll true v)] ∧
          off [(0x200058, 3), (0x3000004, 31)] ∧
          (s.bit LOAD_BUSY = false → bitOf v.toNat 3 = false →
            (a = PULSE_CTRL → ∃ t, exec (.registerWrite a v) s = .next t ∧ t.f ⟨PULSE_CTRL, 0, 3⟩ = v.toNat % 8 ∧
              sameBits [⟨PULSE_CTRL, 0, 3⟩] s t ∧ onlyRegs { s with pulse := t.pulse } t ∧
              let keep := fun (i w : Nat) => if bitOf v.toNat i then w else 0
              t.pulse = { s.pulse with pps := keep 0 s.pulse.pps, step := keep 1 s.pulse.step, tick := keep 2 s.pulse.tick }) ∧
            (a = NET_CTRL → let down := s.bit NET_LINK_UP && !bitOf v.toNat PORT_EN.lo
              ∃ t, exec (.registerWrite a v) s = .next t ∧ t.f ⟨NET_CTRL, 0, 3⟩ = v.toNat % 8 ∧
                  t.bit UTC_CLAIM = false ∧
              t.bit NET_LINK_UP = (s.bit NET_LINK_UP && !down) ∧ (down = true → t.bit (bitF NET_CAUSE 3) = true) ∧
                onlyRegs s t ∧
              (s.bit UTC_CLAIM = true → t.bit HT_UTC_VALID = false ∧ t.bit UTC_VALID = false) ∧
              sameBits ([⟨NET_CTRL, 0, 3⟩, UTC_CLAIM] ++ (if down then [NET_LINK_UP, bitF NET_CAUSE 3] else []) ++
                (if s.bit UTC_CLAIM then [HT_UTC_VALID, UTC_VALID] else [])) s t)) ∧
          (∀ l, l < 64 → a = 0x2F00000 + 4 * l → cmd (.tileMapWrite l v)) ∧
              (∀ r, r < 12 → a = rgPin r → cmd (.rgPinWrite r v)) ∧
          (∀ r, 9 ≤ r → r < 12 → a = rgPinv r →
              exec (.registerWrite a v) s = .next (s.raise (if s.bit LOAD_BUSY then LEAP_CAUSE else RGX_CAUSE)
            (if s.bit LOAD_BUSY then 12 else 4))) ∧
          (∀ r, r < 8 → a = 0x50010C + 0x20 * r → cmd (.ringCtrlWrite r v) ∧
              (bitOf v.toNat 1 = true → cmd (.ringReset r v))) ∧
          (∀ e, e < 2 → a = 0x700400 + 0x40 * e → cmd (.eftCfgWrite e v)))) ∧
    (∀ r : RRow, regRow s.part a = some r → here = true → s.wheelPlace a = none → s.ctrlWrite a v = none →
      let writes := r.fds.any (fun f => f.acc.writes)
      let lock := s.loadLocked r a || writes && s.locked r a
      let low := decide (r.wi + 1 < r.wn)
      let drop := if low then s else s.unstage (r.lows a)
      let go := writes && !lock && !s.ignored a v.toNat
      let follows := a == DL_EN.addr || a == EGG_COUNT.addr || s.part.isK &&
        (a == MSIX_MASKED.addr || inRange 0x200020 0x200034 a) ||
        (s.blockPort a).isSome || inRange 0x192000 0x193000 a;
      (lock = true → exec (.registerWrite a v) s = .next (fin (drop.raise LEAP_CAUSE 12))) ∧
      (lock = false → writes = false → exec (.registerWrite a v) s = .next (fin s)) ∧
      (writes = true → lock = false → s.ignored a v.toNat = true → exec (.registerWrite a v) s = .next (fin drop)) ∧
      (go = true → low = true → ∃ t, exec (.registerWrite a v) s = .next t ∧ tget (fun _ => none) t.staged a = some v ∧
        (∀ b, b ≠ a → tget (fun _ => none) t.staged b = tget (fun _ => none) s.staged b) ∧
            t = { fin s with staged := t.staged }) ∧
      (go = true → low = false → ∃ t, exec (.registerWrite a v) s = .next t ∧
        t.rn a = putFields r.fds (s.hardBits a) (s.rn a) v.toNat % 2 ^ 32 ∧
        (∀ b ∈ r.lows a, tget (fun _ => none) t.staged b = none) ∧
        (r.isPlan = true → s.bit PLAN_VALID = true → t.bit PLAN_EDITED = true) ∧ sameMem s t ∧
        (follows = false → (∀ b ∈ r.lows a, ∀ x, regRow s.part b = some x →
            t.rn b = putFields x.fds (s.hardBits b) (s.rn b) (s.stagedOr b) % 2 ^ 32) ∧
          sameBits ([wordF a, PLAN_EDITED] ++ (r.lows a).map wordF) s t ∧
          ((r.isPlan = false ∨ s.bit PLAN_VALID = false) → t.bit PLAN_EDITED = s.bit PLAN_EDITED) ∧
          t = { fin s with regs := t.regs, beat := s.beat.noted t.beat, staged := t.staged }))) ∧
    (s.planAt a = true → exec (.planRegisterWrite a v) s = exec (.registerWrite a v) s ∧
        ∃ t, exec (.planRegisterWrite a v) s = .next t) ∧
    (s.planAt a = false → exec (.planRegisterWrite a v) s = .next s) ∧
    (s.highAt a = true → exec (.wideRegisterHighWrite a v) s = exec (.registerWrite a v) s ∧
        ∃ t, exec (.wideRegisterHighWrite a v) s = .next t) ∧
    (s.highAt a = false → exec (.wideRegisterHighWrite a v) s = .next s) ∧
    ((s.part.isK = false ∨ a ≠ PWR_PEAK) → let bad := a % 4 != 0 || !s.served a
      ∃ t, exec (.wideRegisterLowRead a) s = .next t ∧ t = { s with latch := t.latch, outs := t.outs } ∧
        (here = true → (∀ b ∈ s.wideWords a, t.latched b = s.before.shows b) ∧ ∀ b, b ∉ s.wideWords a →
            t.latched b = s.latched b) ∧
        (here = false → t.latch = s.latch) ∧
        t.outs = (if s.part.isK then { s.outs with regData := t.outs.regData } else
          { s.outs with regAck := true, regErr := bad, regData := t.outs.regData }) ∧
        (s.served a = false → t.outs.regData = 0) ∧
        (bad = false → (∀ r, regRow s.part a = some r →
            (r.wi = 0 → r.wn ≤ 1 → t.outs.regData = s.shows a) ∧
                (r.wi = 0 → 1 < r.wn → t.outs.regData = s.before.shows a) ∧
            (r.wi ≠ 0 → t.outs.regData = if s.absentPort a then 0 else s.latched a)) ∧
          (regRow s.part a = none → t.outs.regData = s.shows a))) ∧
    (let peak := fun (c : Instr) => ∃ t, exec c s = .next t ∧ t.outs = { s.outs with peak := s.before.rn PWR_PEAK, regData := s.before.r PWR_PEAK } ∧
        t.rn PWR_PEAK = s.beat.peak % 2 ^ 32 ∧ sameRegs [PWR_PEAK] s t ∧ onlyRegs { s with outs := t.outs } t;
      (s.part.isK = true → s.served PWR_PEAK = true → peak .pwrPeakRead ∧ peak (.wideRegisterLowRead PWR_PEAK)) ∧
      ((s.part.isK = false ∨ s.served PWR_PEAK = false) → exec .pwrPeakRead s = .next s))

/-- In a Krasesta; at a die none of these commands changes anything. BAR0_BAD of a request that BAR0 does not take
(R368: one with a byte enable off, or no aligned DW, nor an aligned QW at the MSI-X table or its Pending Bit Array)
raises HST_CAUSE bit 14 alone; of another nothing changes. A read of it is answered with Unsupported Request.
BAR2_READ in the aperture answers the bytes of stack space at the aperture base, poisoned where an error was
reported in the 64-byte units that it meets; an error of the path is then past. BAR2_WRITE writes the bytes that it
enables, ends the errors of the units that it meets and changes no other byte; a poisoned one raises bit 11 alone. A
request beyond the aperture changes nothing. APER_TIMEOUT counts and raises bit 8 alone, and answers a read with
Completer Abort. BME_OFF clears Bus Master Enable and raises bit 12 where it was on, and only there changes
anything. BUS_MASTER_ENABLE sets it; an image descriptor that waits to end completes with STATUS IO, and each
message that waits is sent, or held back by a mask. MSIX_UNMASK sets MSIX_EN and removes the mask; a Pending Bit
sends its message, or lets it wait without Bus Master Enable. Either shows the link as trained, to a width and a
speed that the spec leaves open. INT_REARM while INT_SUMMARY is not 0 sends the message, sets the Pending Bit where
it is masked, or lets it wait; otherwise it changes nothing. None of them changes memory otherwise. The model's
choices: when the link comes up (log entry 86); how long an error spoils reads (log entry 87); MSIX_UNMASK removes
both masks (log entry 85); the status of a completion as the model shows it (log entry 145); a command whose trigger
does not hold changes nothing (log entry 8). (15_host_interface.md) -/
def Obligations.HostWindow : Prop :=
  ∀ s : State,
    (s.part.isK = false → (∀ (a len : Nat) (be : List Bool) (wr : Bool), exec (.bar0Bad a be wr) s = .next s ∧
        exec (.aperTimeout wr) s = .next s ∧
        exec (.bar2Read a len) s = .next s) ∧
          (∀ (a : Nat) (data : List (Option Byte)) (po : Bool), exec (.bar2Write a data po) s = .next s) ∧
      exec .bmeOff s = .next s ∧ exec .busMasterEnable s = .next s ∧ exec .msixUnmask s = .next s ∧
        ∀ v, exec (.intRearm v) s = .next s) ∧
    (s.part.isK = true →
      let linkUp := fun (t : State) => t.bit (bitF HST_STATUS 0) = true ∧
        (s.bit (bitF HST_STATUS 0) = true → t.f ⟨HST_STATUS, 8, 8⟩ = s.f ⟨HST_STATUS, 8, 8⟩) ∧
        (s.bit (bitF HST_STATUS 0) = false → t.f ⟨HST_STATUS, 12, 4⟩ ∈ [1, 2, 4] ∧ 1 ≤ t.f ⟨HST_STATUS, 8, 4⟩ ∧
            t.f ⟨HST_STATUS, 8, 4⟩ ≤ 5);
      let msg := fun (u t : State) => (u.msixOpen = false → t.outs = { u.outs with msixPend := true } ∧
        t.host = u.host) ∧
        (u.msixOpen = true → u.bit BME = true → t.host = u.host ∧
          t.outs = { u.outs with msix := u.outs.msix + 1, msixAt := u.r64 0x8000, msixData := u.rn 0x8008 }) ∧
        (u.msixOpen = true → u.bit BME = false → t.outs = u.outs ∧
            t.host = { u.host with msixWait := u.host.msixWait + 1 });
      (∀ (a : Nat) (be : List Bool) (wr : Bool), let len := be.length
        let ok := be.all (fun x => x) &&
          decide (len = 4 ∧ a % 4 = 0 ∨ len = 8 ∧ a % 8 = 0 ∧ (0x8000 ≤ a ∧ a < 0x8010 ∨ a = 0x9000))
        let answered := fun (n : Nat) => if wr then s else { s with host := { s.host with cpl := n } };
        (ok = true → exec (.bar0Bad a be wr) s = .next s) ∧
        (ok = false → ∃ t, exec (.bar0Bad a be wr) s = .next t ∧ t.bit (bitF HST_CAUSE 14) = true ∧
            onlyRegs (answered 1) t ∧
          sameBits [bitF HST_CAUSE 14] s t) ∧
        ∃ t, exec (.aperTimeout wr) s = .next t ∧ t.rn APER_TIMEOUTS = (s.rn APER_TIMEOUTS + 1) % 2 ^ 32 ∧
            t.bit (bitF HST_CAUSE 8) = true ∧
          onlyRegsEv (answered 4) t ∧ sameBits [wordF APER_TIMEOUTS, bitF HST_CAUSE 8] s t) ∧
      (∀ ofs len : Nat, let a := s.f APER_BASE * 2 ^ 28 + ofs
        let hit := fun (x : Nat) => decide (a / 64 ≤ x / 64) && decide (x / 64 * 64 < a + len);
        (1 ≤ len → ofs + len ≤ 2 ^ 28 → ∃ t, exec (.bar2Read ofs len) s = .next t ∧
            t = { s with perf := t.perf, host := { s.host with
          cpl := 0, rd := s.readSpace 1 a len, rdBad := s.host.bad.any (fun x => hit x.1),
          bad := s.host.bad.filter (fun x => !(x.2 && hit x.1)) } }) ∧
        ((len = 0 ∨ 2 ^ 28 < ofs + len) → exec (.bar2Read ofs len) s = .next s)) ∧
      (∀ (ofs : Nat) (data : List (Option Byte)), let a := s.f APER_BASE * 2 ^ 28 + ofs
        let hit := fun (x : Nat) => decide (a / 64 ≤ x / 64) &&
          decide (x / 64 * 64 < a + min data.length (stackBytes - a));
        (1 ≤ data.length → ofs + data.length ≤ 2 ^ 28 →
          (∃ t, exec (.bar2Write ofs data false) s = .next t ∧ (∀ i, i < data.length → a + i < stackBytes →
              t.stack.byte (a + i) = (data.getD i none).getD (s.stack.byte (a + i))) ∧
            (∀ b, (b < a ∨ a + data.length ≤ b) → t.stack.byte b = s.stack.byte b) ∧
            t = { s with stack := t.stack, perf := t.perf, host := { s.host with bad := s.host.bad.filter (fun x => !hit x.1) } }) ∧
          ∃ t, exec (.bar2Write ofs data true) s = .next t ∧ t.bit (bitF HST_CAUSE 11) = true ∧
              sameBits [bitF HST_CAUSE 11] s t ∧ onlyRegsEv s t) ∧
        ((data.length = 0 ∨ 2 ^ 28 < ofs + data.length) → ∀ po, exec (.bar2Write ofs data po) s = .next s)) ∧
      (s.bit BME = true → ∃ t, exec .bmeOff s = .next t ∧ t.bit BME = false ∧ t.bit (bitF HST_CAUSE 12) = true ∧
          onlyRegs s t ∧
        sameBits [BME, bitF HST_CAUSE 12] s t) ∧
      (s.bit BME = false → exec .bmeOff s = .next s) ∧
      (∃ t, exec .busMasterEnable s = .next t ∧ t.bit BME = true ∧ linkUp t ∧ t.host.msixWait = 0 ∧
        (s.host.msixWait = 0 → t.outs = s.outs) ∧
        (0 < s.host.msixWait → s.msixOpen = false → t.outs = { s.outs with msixPend := true }) ∧
        (0 < s.host.msixWait → s.msixOpen = true →
          t.outs = { s.outs with msix := s.outs.msix + s.host.msixWait, msixAt := s.r64 0x8000, msixData := s.rn 0x8008 }) ∧
        (s.host.endTx0 = false → t.host = { s.host with msixWait := 0 } ∧
            sameBits [BME, bitF HST_STATUS 0, ⟨HST_STATUS, 8, 8⟩] s t ∧
          onlyRegs { s with fresh := t.fresh, outs := t.outs, host := t.host } t) ∧
        (s.host.endTx0 = true → (s.held 0).isSome = true → wroteBack s t 0 ∧ t.host.wb.getD 5 0 = 2 ^ 24 ∧
            t.host.endTx0 = false ∧
          t.bit (bitF HST_CAUSE 11) = true ∧ sameMem s t)) ∧
      (∃ t, exec .msixUnmask s = .next t ∧ t.bit MSIX_EN = true ∧ t.bit MSIX_MASKED = false ∧ linkUp t ∧
        sameBits [MSIX_EN, MSIX_MASKED, bitF HST_STATUS 0, ⟨HST_STATUS, 8, 8⟩] s t ∧
        (s.outs.msixPend = true → msg ({ (s.setB MSIX_EN true).setB MSIX_MASKED false with outs := { s.outs with msixPend := false } }) t) ∧
        (s.outs.msixPend = false → t.outs = s.outs ∧ t.host = s.host) ∧
        onlyRegs { s with fresh := t.fresh, outs := t.outs, host := t.host } t) ∧
      ∀ v : Word, ((s.irq = false ∨ s.mainOn = false) → exec (.intRearm v) s = .next s) ∧
        (s.irq = true → s.mainOn = true → ∃ t, exec (.intRearm v) s = .next t ∧ msg s t ∧
            t = { s with outs := t.outs, host := t.host }))

/-- In a Krasesta; at a die none of these commands changes anything. RING_POLL of a ring that reads holds a descriptor
with OWN; another changes nothing. A command with no owned descriptor changes nothing, nor LOG_RECORD with no
record. Every completion advances HEAD within SIZE and DONE, raises the cause of the ring, gives back the held
descriptor and writes back words 2 to 7 with the bytes used, the status and the time, with DMA_ERR where the status
is not 0. LOG_RECORD takes the oldest record and writes as much of it as the buffer holds, with STATUS 6 where it is
cut. MGMT_SEND puts a good flit at the end of the queue of its port, and else completes with its status and sends
nothing. STACK_COPY_IN stores the data at the address of the descriptor and changes no other byte of memory, with
STATUS 1 where the data end early; STACK_COPY_OUT hands out those bytes and changes no memory, with STATUS 5 where
an error was reported in them, whose 64-byte units go out poisoned; a copy that breaks R378 completes with STATUS 2
and copies nothing. In a node whose main part answers and is not loading RING_CTRL_WRITE sets EN, and a receive ring
that is disabled gives back its descriptor, but for RX2, whose copy goes on; RING_RESET, which it is with bit 1, of
a ring that was disabled sets HEAD to 0 and drops the held descriptor; while a load runs they raise CFG_LOCKED
alone; a ring beyond the eighth has none, and nothing changes. The model's choices: RING_RESET is judged by EN
before the write (log entry 83); MGMT_SEND completes when its flit waits (log entry 84); the descriptor held acts
before the operand (log entry 89); a command whose trigger does not hold changes nothing (log entry 8).
(15_host_interface.md) -/
def Obligations.HostRings : Prop :=
  ∀ s : State,
    (s.part.isK = false → ∀ (r : Nat) (v : Word) (desc data : List Byte), exec (.ringPoll r desc) s = .next s ∧
        exec (.logRecord desc) s = .next s ∧
      exec (.mgmtSend desc data) s = .next s ∧ exec (.stackCopyIn desc data) s = .next s ∧
        exec (.stackCopyOut desc) s = .next s ∧
      exec (.ringCtrlWrite r v) s = .next s ∧ exec (.ringReset r v) s = .next s) ∧
    (s.part.isK = true →
      let done := fun (t : State) (r : Nat) (d : List Nat) (len st : Nat) (u : State) => wroteBack s t r ∧
        t.host.wb = [len % 2 ^ 24, d.getD 3 0, d.getD 4 0, 0, s.nsField, st * 2 ^ 24] ∧ t.host.dmaAt = descBuf d ∧
        t.bit (bitF HST_CAUSE 11) = (decide (st ≠ 0) || s.bit (bitF HST_CAUSE 11)) ∧
        sameBits [ringHead r, wordF (ringDone r), bitF HST_CAUSE r, bitF HST_CAUSE 11] s t ∧
          onlyRegsEv { u with host := t.host } t;
      (∀ (r : Nat) (desc : List Byte), let ok := s.ringReads r && descOwn (descWords desc);
        (ok = true → ∃ t, exec (.ringPoll r desc) s = .next t ∧ t.held r = some (descWords desc) ∧
            (∀ q, q ≠ r → t.held q = s.held q) ∧
          t = { s with host := { s.host with held := t.host.held } }) ∧
        (ok = false → exec (.ringPoll r desc) s = .next s)) ∧
      (∀ desc : List Byte, ((s.flt.logQ = [] ∨ s.takeDesc 4 desc = none) → exec (.logRecord desc) s = .next s) ∧
        (∀ d, s.takeDesc 4 desc = some d → s.flt.logQ ≠ [] → let n := min 32 (descLen d)
          let ws := s.flt.logQ.headD []
          ∃ t, exec (.logRecord desc) s = .next t ∧ t.host.dma = (ws.flatMap (leBytes 4)).take n ∧
            done t 4 d n (if descLen d < 32 then 6 else 0) { s with flt := { s.flt with logQ := s.flt.logQ.drop 1 } })) ∧
      (∀ desc data : List Byte,
        (s.takeDesc 1 desc = none → exec (.mgmtSend desc data) s = .next s) ∧
            (s.takeDesc 2 desc = none → exec (.stackCopyIn desc data) s = .next s) ∧
        (s.takeDesc 6 desc = none → exec (.stackCopyOut desc) s = .next s) ∧
        (∀ d, s.takeDesc 1 desc = some d → let p := d.getD 3 0 % 128
          let n := descLen d
          let refuse := if n = 0 ∨ 240 < n ∨
            s.portExists p = false then 2 else if data.length < n then 1 else if data.getD 0 0 = 0x46 then 4
            else if (!s.portUp p || s.reduced p) = true then 3 else 0
          ∃ t, exec (.mgmtSend desc data) s = .next t ∧ (refuse ≠ 0 → done t 1 d 0 refuse s) ∧
            (refuse = 0 → done t 1 d n 0 { s with ports := t.ports } ∧
              (t.port (s.chanOf p)) = { s.port (s.chanOf p) with mgmt := (s.port (s.chanOf p)).mgmt ++ [data.take n] } ∧
              ∀ q, q ≠ s.chanOf p → t.port q = s.port q)) ∧
        (∀ d, s.takeDesc 2 desc = some d → let n := min (descLen d) data.length
          ∃ t, exec (.stackCopyIn desc data) s = .next t ∧
            (copyOk d = false → done t 2 d 0 2 s) ∧
            (copyOk d = true → done t 2 d n (if n < descLen d then 1 else 0) { s with stack := t.stack } ∧
              (∀ i, i < n → t.stack.byte (copyAddr d + i) = data.getD i 0) ∧
              ∀ b, (b < copyAddr d ∨ copyAddr d + n ≤ b) → t.stack.byte b = s.stack.byte b)) ∧
        (∀ d, s.takeDesc 6 desc = some d → let a := copyAddr d
          let hit := fun (x : Nat) => decide (a / 64 ≤ x / 64) && decide (x / 64 * 64 < a + descLen d)
          ∃ t, exec (.stackCopyOut desc) s = .next t ∧ (copyOk d = false → done t 6 d 0 2 s) ∧
            (copyOk d = true → done t 6 d (descLen d) (if s.host.bad.any (fun x => hit x.1) then 5 else 0) s ∧
                t.host.dma = s.readSpace 1 a (descLen d) ∧
              t.host.dmaBad = (s.host.bad.filter (fun x => hit x.1)).map (fun x => x.1 / 64 * 64 - a)))) ∧
      (∀ (r : Nat) (v : Word), let was := s.bit (ringEn r)
        let en := bitOf v.toNat 0
        let ctrl := fun (t : State) => t.bit (ringEn r) = en ∧ sameBits [ringEn r, ringHead r] s t ∧
          (∀ q, q ≠ r → t.held q = s.held q) ∧
          onlyRegs { s with host := { s.host with held := t.host.held } } t
        let kept := fun (t : State) => t.f (ringHead r) = s.f (ringHead r) ∧ t.held r = if en = false ∧ 4 ≤ r ∧
          r ≠ 6 then none else s.held r;
        ((s.mainOn = false ∨ 8 ≤ r) → exec (.ringCtrlWrite r v) s = .next s ∧ exec (.ringReset r v) s = .next s) ∧
        (s.mainOn = true → r < 8 → s.bit LOAD_BUSY = true →
            exec (.ringCtrlWrite r v) s = .next (s.raise LEAP_CAUSE 12) ∧
          exec (.ringReset r v) s = .next (s.raise LEAP_CAUSE 12)) ∧
        (s.mainOn = true → s.bit LOAD_BUSY = false → r < 8 →
            (∃ t, exec (.ringReset r v) s = .next t ∧ ctrl t ∧
            (was = false → t.f (ringHead r) = 0 ∧ t.held r = none) ∧ (was = true → kept t)) ∧
            (bitOf v.toNat 1 = false → ∃ t, exec (.ringCtrlWrite r v) s = .next t ∧ ctrl t ∧ kept t) ∧
            (bitOf v.toNat 1 = true → exec (.ringCtrlWrite r v) s = exec (.ringReset r v) s))))

/-- In a node whose main part answers and is not loading. PERF_SEL_WRITE with a selection that the block accepts stores
it and clears the counter and its copy; any other word, or address, changes nothing. CLEAR_ALL clears every counter
of its block with its copy, sets FREEZE as written, and keeps the counters of the other block. Cleared counters
count no event of this cycle. FREEZE alone sets the bit as written, and with CLEAR set it is CLEAR_ALL. OVF of a
running counter that the events due in this cycle, those of 64 cycles ago (R384), take past its largest value adds
them modulo 2^48 and sets its overflow bit; otherwise nothing changes. A clear or a freeze that follows it in the
cycle takes that back (R386): the counter and its overflow bit are as if OVF had not been. The second block is only
in a Krasesta. Where the main part does not answer nothing changes; while a load runs, a write of one of these
registers raises CFG_LOCKED alone. OVF ahead of the end of its cycle is the model's choice (log entry 169).
(15_host_interface.md) -/
def Obligations.PerfCounters : Prop :=
  ∀ s : State,
    let cnt := fun (t : State) (j : Nat) => tget (fun _ => 0) t.perf.cnt j;
    let last := fun (t : State) (j : Nat) => tget (fun _ => 0) t.perf.last j;
    let ovf := fun (x : Bool) (k : Nat) => bitF (perfBase x + 4) k;
    let onlyPerf := fun (t : State) => onlyRegs { s with perf := { s.perf with cnt := t.perf.cnt, last := t.perf.last, shut := t.perf.shut, early := t.perf.early } } t;
    let took := fun (x : Bool) (k : Nat) => s.perf.early.find? (fun e => e.1 == perfKey x k);
    let back := fun (t : State) (x : Bool) (k : Nat) => t.bit (ovf x k) =
      (match took x k with | some e => e.2.2 | none => s.bit (ovf x k));
    let cleared := fun (t : State) (x : Bool) (k : Nat) => cnt t (perfKey x k) = 0 ∧ last t (perfKey x k) = 0 ∧
      perfKey x k ∈ t.perf.shut ∧ back t x k;
    let same := fun (t : State) (j : Nat) => cnt t j = cnt s j ∧ last t j = last s j;
    let ovfs := fun (x : Bool) => (List.range (perfCount x)).map (ovf x);
    (s.mainOn = true → s.bit LOAD_BUSY = false →
      (∀ (a : Nat) (v : Word), (∀ x k, s.perfSelAt a = some (x, k) →
          (selOk x v.toNat = true → ∃ t, exec (.perfSelWrite a v) s = .next t ∧
            t.rn a = selMode v.toNat * 2 ^ 30 + selEvent v.toNat * 2 ^ 16 + selInst v.toNat ∧ cleared t x k ∧
            sameBits [wordF a, ovf x k] s t ∧ onlyPerf t ∧ ∀ j, j ≠ perfKey x k → same t j) ∧
          (selOk x v.toNat = false → exec (.perfSelWrite a v) s = .next s)) ∧
        (s.perfSelAt a = none → exec (.perfSelWrite a v) s = .next s)) ∧
      (∀ (x : Bool) (v : Word), (x = false ∨ s.part.isK = true) →
        (∃ t, exec (.clearAll x v) s = .next t ∧ t.bit (bitF (perfBase x) 0) = bitOf v.toNat 0 ∧
            sameBits (bitF (perfBase x) 0 :: ovfs x) s t ∧
          onlyPerf t ∧ (∀ k, k < perfCount x → cleared t x k) ∧ ∀ k, k < perfCount (!x) → same t (perfKey (!x) k)) ∧
        (bitOf v.toNat 1 = false → ∃ t, exec (.freeze x v) s = .next t ∧ t.bit (bitF (perfBase x) 0) = bitOf v.toNat 0 ∧
          (bitOf v.toNat 0 = false → onlyRegs s t ∧ sameBits [bitF (perfBase x) 0] s t) ∧
          (bitOf v.toNat 0 = true → sameBits (bitF (perfBase x) 0 :: ovfs x) s t ∧ onlyPerf t ∧
            (∀ k, k < perfCount x → back t x k ∧ last t (perfKey x k) = last s (perfKey x k) ∧
                (took x k = none → same t (perfKey x k)) ∧
              ∀ e, took x k = some e → cnt t (perfKey x k) =
                  (cnt s (perfKey x k) + (2 ^ 48 - e.2.1 % 2 ^ 48)) % 2 ^ 48) ∧
            ∀ k, k < perfCount (!x) → same t (perfKey (!x) k))) ∧
        (bitOf v.toNat 1 = true → exec (.freeze x v) s = exec (.clearAll x v) s)) ∧
      (s.part.isK = false → ∀ v, exec (.clearAll true v) s = .next s ∧ exec (.freeze true v) s = .next s)) ∧
    (∀ (a : Nat) (x : Bool) (v : Word), let locked := s.raise LEAP_CAUSE 12;
      (s.mainOn = false → exec (.perfSelWrite a v) s = .next s ∧ exec (.clearAll x v) s = .next s ∧
          exec (.freeze x v) s = .next s) ∧
      (s.mainOn = true → s.bit LOAD_BUSY = true →
        exec (.perfSelWrite a v) s = .next (if (s.perfSelAt a).isSome then locked else s) ∧
        exec (.clearAll x v) s = .next (if x && !s.part.isK then s else locked) ∧
        exec (.freeze x v) s = .next (if x && !s.part.isK then s else locked))) ∧
    (∀ (x : Bool) (k : Nat), let w := s.rn (perfSelA x k)
      let j := perfKey x k
      let n := (s.perf.infl.filter (fun e => decide (e.at_ + 64 ≤ s.beat.n) &&
        s.perfHit w e.code e.inst)).foldl (fun m e => m + e.n) 0 +
        (if decide (64 ≤ s.perf.run) && s.perfHit w 1 0 then 1 else 0)
      let runs := decide (k < perfCount x) && (!x || s.part.isK) && s.mainOn && !s.perfFrozen x &&
        !s.perf.shut.contains j && decide (2 ^ 48 ≤ cnt s j + n);
      (runs = true → ∃ t, exec (.ovf x k) s = .next t ∧ cnt t j = (cnt s j + n) % 2 ^ 48 ∧ t.bit (ovf x k) = true ∧
        sameBits [ovf x k] s t ∧ t.perf.shut = j :: s.perf.shut ∧
          t.perf.early = (j, n, s.bit (ovf x k)) :: s.perf.early ∧
        t.perf.last = s.perf.last ∧ onlyPerf t ∧ ∀ i, i ≠ j → cnt t i = cnt s i) ∧
      (runs = false → exec (.ovf x k) s = .next s))

/-- STANDBY_SUPPLY_FAULT with the standby supply on loses everything: every register reads its Reset value.
MAIN_SUPPLY_FAULT with the main supply on switches it and the converters off, keeps both memories and, with the
standby supply on, applies the gecko HALT, ends leaps at once, at a root too, with every link down and what the main
part was doing lost (the model's choice, log entry 149), and drives the pulse outputs low. MAIN_SUPPLY_RETURN with
it off switches it on and, with the standby supply on, starts the main part afresh in TADPOLE without images, leaps,
trip or root PLL, with empty memories and hall time 0; the registers of the GECKO block from 0x020 on stay.
LCLK_WINDOW shows its count there and does no more. In a die: AON_POR puts every register of the gecko part,
LAST_COMMIT, DET_STATUS and FENCE_INFO at its Reset value (but for the power state), raises CFG_CAUSE bit 3 and, in
a block that is held in reset, changes no other word; in one that is not it is a restart too. RESET_ASSERT of one of
the four that is not asserted asserts it and holds the block; the first of them takes it to TADPOLE without images
or transfers, with both memories kept. RESET_RELEASE of an asserted one releases it, shows RST_ALONE where it is the
first and not all four were asserted, and with the last one releases the block, with RST_SKEW where the releases
spread over more than 16 cycles. LCLK_WINDOW out of reset shows its count; outside 9,900 to 10,100 edges it sets
LCLK_FAULT, applies the gecko HALT and holds the transmitter, once; a good window after a release ends that.
TEST_CTRL_WRITE sets the loopbacks, and a change of the loopback mode takes the uplink back to SIGNAL, or shows
LOOP_REFUSED alone; while a load runs CFG_LOCKED alone. LOOP_REQ_SEND of a block in loopback in UP sends one REQ, at
most every 1,000 ns. Each changes nothing where it does not apply. Also the model's choices: what standby power and
the main supply take away (log entry 52); when RST_ALONE is judged (log entry 53); the SEQ of LOOP_REQ_SEND is free
(log entry 54); what AON_POR resets (log entry 105); ROOTPLL_LOCK is 0 at the return (log entry 156); LCLK_WINDOW in
a Krasesta brings no action (log entry 166); a command whose trigger does not hold changes nothing (log entry 8).
(16_caertin_integration.md, 18_package.md, 02_clock_root.md) -/
def Obligations.PowerAndBlockResets : Prop :=
  ∀ s : State,
    let halted := fun (t : State) => t.bit GECKO_HALT = true ∧ t.bit (bitF GK_CAUSE 2) = true ∧ sameMem s t ∧
      t.time = s.time ∧
      ((s.isRoot && s.armed) = false → t.armed = false ∧ (s.nst = .running → t.nst = .stopped) ∧
          (s.nst ≠ .running → t.nst = s.nst));
    (s.part.isK = true →
      (s.power.standby = true → ∃ t, exec .standbySupplyFault s = .next t ∧
        t.power = { standby := false, main := s.power.main, heating := false, converters := false } ∧
          (∀ a, t.r a = regReset s.part a) ∧
        t.bonded = [] ∧ t.stack = [] ∧ t.nst = .tadpole ∧ t.time = 0 ∧ t.ports = [] ∧ t.cnt = {} ∧ t.tiles = [] ∧
          t.leap = {} ∧ t.pending = s.pending) ∧
      (s.power.standby = false → exec .standbySupplyFault s = .next s) ∧
      (s.power.main = true → let off : Power := { s.power with main := false, mainFault := true, converters := false }
        ∃ t, exec .mainSupplyFault s = .next t ∧ t.power = off ∧
            (s.power.standby = false → t = { s with power := off }) ∧
          (s.power.standby = true → t.bit GECKO_HALT = true ∧ t.bit (bitF GK_CAUSE 2) = true ∧ sameMem s t ∧
              t.time = s.time ∧
            t.armed = false ∧ t.nst = (if s.nst = .running then .stopped else s.nst) ∧
              (∀ p ∈ s.allPorts, t.tstate p = 0) ∧
            t.ports = [] ∧ t.cnt = {} ∧ t.tiles = [] ∧ t.spawn = {} ∧ t.pfx = {} ∧ t.load = {} ∧ t.bulk = {} ∧
              t.servo = {} ∧ t.chans = [] ∧
            t.pulse.pps = 0 ∧ t.pulse.step = 0 ∧ t.pulse.tick = 0)) ∧
      (s.power.main = false → exec .mainSupplyFault s = .next s) ∧
      (s.power.main = false → let up : Power := { s.power with main := true, mainFault := false, converters := s.power.standby }
        ∃ t, exec .mainSupplyReturn s = .next t ∧ t.power = up ∧
            (s.power.standby = false → t = { s with power := up }) ∧
          (s.power.standby = true → t.nst = .tadpole ∧ t.time = 0 ∧ t.bonded = [] ∧ t.stack = [] ∧
              t.bit TRIPPED = false ∧
            t.bit ROOTPLL_LOCK = false ∧ t.bit STRUCT_VALID = false ∧ t.bit PLAN_VALID = false ∧
              t.bit LEAPS_ARMED = false ∧
            t.ports = [] ∧ t.cnt = {} ∧ t.tiles = [] ∧ t.leap = { relay := s.leap.relay } ∧ t.load = {} ∧
              t.host = {} ∧ t.pfx = {} ∧
            ∀ a, 0x101020 ≤ a → a < 0x102000 → t.r a = s.r a)) ∧
      (s.power.main = true → exec .mainSupplyReturn s = .next s) ∧
      exec .aonPor s = .next s ∧ (∀ r c : Nat, exec (.resetAssert r) s = .next s ∧
        exec (.resetRelease r c) s = .next s) ∧
      (∀ n : Nat, (s.mainOn = false → exec (.lclkWindow n) s = .next s) ∧
        (s.mainOn = true → ∃ t, exec (.lclkWindow n) s = .next t ∧ t.f LCLK_MEAS = n % 2 ^ 16 ∧
          t.bit LCLK_OK = (decide (9900 ≤ n) && decide (n ≤ 10100)) ∧ sameBits [LCLK_MEAS, LCLK_OK] s t ∧
            t = { s with regs := t.regs })) ∧ ∀ v : Word, exec (.testCtrlWrite v) s = .next s) ∧
    (s.part.isK = false →
      (∃ t, exec .aonPor s = .next t ∧ t.bit (bitF 0x100008 1) = s.bit (bitF 0x100008 1) ∧
        (let gecko := fun (a : Nat) => inRange 0x100000 0x102000 a || [LAST_COMMIT, LAST_COMMIT + 4, DET_STATUS, FENCE_INFO].contains a;
          (∀ a, gecko a = true → a ≠ 0x100008 → t.r a = regReset s.part a) ∧ t.bit (bitF CFG_CAUSE 3) = true ∧
              t.outs.txHeld = false ∧
          t.flt.cseq = 0 ∧ t.flt.shadowAge = 0 ∧ t.leap.relay = false ∧ sameMem s t ∧ t.power = s.power ∧
          (s.power.held = true → (∀ a, gecko a = false → a ≠ CFG_CAUSE → t.r a = s.r a) ∧
            onlyRegs { s with latch := t.latch, staged := t.staged, flt := { s.flt with cseq := 0, shadowAge := 0 },
                              leap := { s.leap with relay := false }, outs := { s.outs with txHeld := false } } t) ∧
          (s.power.held = false → t.nst = .tadpole ∧ t.bit STRUCT_VALID = false ∧ t.bit PLAN_VALID = false ∧
              t.bit LEAPS_ARMED = false ∧
            t.load = {} ∧ t.ports = [] ∧ t.cnt = {}))) ∧
      (∀ r : Nat, let go := decide (r < 4) && !s.power.rstOn.contains r;
        (go = false → exec (.resetAssert r) s = .next s) ∧
        (go = true → ∃ t, exec (.resetAssert r) s = .next t ∧
            t.power = { s.power with rstOn := insNat r s.power.rstOn, held := true } ∧
          t.bit (bitF 0x100008 1) = false ∧ sameMem s t ∧
          (s.power.held = true → sameBits [bitF 0x100008 1] s t ∧ t = { s with regs := t.regs, power := t.power }) ∧
          (s.power.held = false → t.nst = .tadpole ∧ t.bulk = {} ∧ t.bit STRUCT_VALID = false ∧
              t.bit PLAN_VALID = false ∧
            t.bit LEAPS_ARMED = false ∧ t.load = {} ∧ t.ports = [] ∧ t.outs.cmapSeq = 0 ∧ t.outs.cmapPhys = 0 ∧
              t.outs.firePhase = 0 ∧ t.outs.fireStep = 0 ∧
            t.outs.fireStb = false ∧ t.outs.regionStb = false ∧ t.outs.lpbk = false))) ∧
      (∀ r c : Nat, let rel := c :: s.power.rstRel
        let left := s.power.rstOn.filter (· != r)
        let first := s.power.rstRel.isEmpty
        let alone := first && s.power.rstOn != allResets
        let skew := left.isEmpty && decide (16 < rel.foldl max 0 - rel.foldl min c);
        (r ∉ s.power.rstOn → exec (.resetRelease r c) s = .next s) ∧
        (r ∈ s.power.rstOn → ∃ t, exec (.resetRelease r c) s = .next t ∧ t.power.rstOn = left ∧
          t.bit (bitF 0x100008 3) = (alone || s.bit (bitF 0x100008 3)) ∧
            t.bit (bitF 0x100008 4) = (skew || s.bit (bitF 0x100008 4)) ∧
          sameBits [bitF 0x100008 1, bitF 0x100008 3, bitF 0x100008 4] s t ∧
            onlyRegs { s with power := t.power, rxLock := t.rxLock } t ∧
          (left = [] → t.rxLock = s.rxLock.map (fun x => (x.1, s.beat.n)) ∧ t.power.held = false ∧
              t.power.released = true ∧ t.power.rstRel = [] ∧ t.bit (bitF 0x100008 1) = true) ∧
          (left ≠ [] → t.rxLock = s.rxLock ∧ t.power = { s.power with rstOn := left, rstRel := rel } ∧
              t.bit (bitF 0x100008 1) = s.bit (bitF 0x100008 1)))) ∧
      (∀ n : Nat, let good := decide (9900 ≤ n) && decide (n ≤ 10100);
        (s.power.held = true → exec (.lclkWindow n) s = .next s) ∧
        (s.power.held = false → ∃ t, exec (.lclkWindow n) s = .next t ∧ t.f LCLK_MEAS = n % 2 ^ 16 ∧
            t.bit LCLK_OK = good ∧
          (good = true → t.bit LCLK_FAULT = (s.bit LCLK_FAULT && !s.power.released) ∧
              sameBits [LCLK_MEAS, LCLK_OK, LCLK_FAULT] s t ∧
            t = { s with regs := t.regs, outs := { s.outs with txHeld := s.outs.txHeld && !(s.bit LCLK_FAULT && s.power.released) } }) ∧
          (good = false → s.bit LCLK_FAULT = true → t.bit LCLK_FAULT = true ∧ sameBits [LCLK_MEAS, LCLK_OK] s t ∧
              t = { s with regs := t.regs }) ∧
          (good = false → s.bit LCLK_FAULT = false → t.bit LCLK_FAULT = true ∧ t.outs.txHeld = true ∧
              t.power.released = false ∧ halted t))) ∧
      (∀ v : Word, let on := bitOf v.toNat 0
        let pad := bitOf v.toNat 1
        let bad := (on && s.nst != .armed) || (pad && !on);
        (s.bit LOAD_BUSY = true → exec (.testCtrlWrite v) s = .next (s.raise LEAP_CAUSE 12)) ∧
        (s.bit LOAD_BUSY = false → bad = true → ∃ t, exec (.testCtrlWrite v) s = .next t ∧
            t.bit (bitF 0x100008 5) = true ∧ onlyRegs s t ∧
          sameBits [bitF 0x100008 5] s t) ∧
        (s.bit LOAD_BUSY = false → bad = false → ∃ t, exec (.testCtrlWrite v) s = .next t ∧ t.bit TEST_LOOP = on ∧
            t.bit PAD_LOOP = pad ∧
          t.outs.lpbk = pad ∧ t.outs.loop = on ∧ (on = s.outs.loop → sameBits [TEST_LOOP, PAD_LOOP] s t ∧
            t = { s with regs := t.regs, outs := { s.outs with loop := on, lpbk := pad } }) ∧
          (on ≠ s.outs.loop → t.tstate 0 = 1 ∧ (t.port 0).trainAt = s.now ∧ (t.port 0).replay = [] ∧
              (t.port 0).held = [] ∧
            sameMem s t ∧ t.nst = s.nst))) ∧
      exec .standbySupplyFault s = .next s ∧ exec .mainSupplyFault s = .next s ∧ exec .mainSupplyReturn s = .next s) ∧
    (let due := match (s.exch 0).sentAt with
        | some x => decide (x + 1000 ≤ s.beat.n)
        | none => true
      let go := s.looped && s.portUp 0 && due;
      (go = false → exec .loopReqSend s = .next s) ∧
      (go = true → ∃ t, exec .loopReqSend s = .next t ∧ (t.exch 0).sentAt = some s.beat.n ∧ t.regs = s.regs ∧
        (t.port 0).ctrl = (s.port 0).ctrl ++
            (if s.maySend 0 (timeMsg 1 0 s.freeNat 0) then [timeMsg 1 0 s.freeNat 0] else []) ∧
        t = { s with ports := t.ports, fresh := t.fresh } ∧ ∀ q, q ≠ 0 → t.port q = s.port q))

/-- While the count is below 2^24, each contribution adds 1 to CNT and then: a NaN sets NAN, an infinity sets PINF or
NINF, a negative zero changes nothing else, and any other value, a positive zero included, clears NZ and is added
exactly: a value of k units of 2^-149 adds k where the sum lies in the 320-bit range. The state after a list of
contributions within that count is that after any permutation of it. (R242) -/
def Obligations.AccumulatorContributions : Prop :=
  (∀ x : XAcc, x.cnt < 2 ^ 24 →
    (x.add .nan) = ({ x with cnt := x.cnt + 1, nan := true }, false) ∧
    (x.add (.inf false)) = ({ x with cnt := x.cnt + 1, pinf := true }, false) ∧
    (x.add (.inf true)) = ({ x with cnt := x.cnt + 1, ninf := true }, false) ∧
    (∀ e, (x.add (.fin true 0 e)) = ({ x with cnt := x.cnt + 1 }, false)) ∧
    ∀ (n : Bool) (m : Nat) (e : Int), ¬ (n = true ∧ m = 0) → -149 ≤ e →
      let k : Int := (if n then -1 else 1) * m * 2 ^ (e + 149).toNat
      (x.add (.fin n m e)).2 = false ∧
          (x.add (.fin n m e)).1 = { x with cnt := x.cnt + 1, nz := false, value := (x.add (.fin n m e)).1.value } ∧
        (-2 ^ 319 ≤ x.value.toInt + k → x.value.toInt + k < 2 ^ 319 →
            (x.add (.fin n m e)).1.value.toInt = x.value.toInt + k)) ∧
  ∀ (x : XAcc) (l l' : List Val), l.Perm l' → x.cnt + l.length ≤ 2 ^ 24 →
    l.foldl (fun a v => (a.add v).1) x = l'.foldl (fun a v => (a.add v).1) x

/-- At write-out an accumulator with NAN set, or with PINF and NINF both set, yields NaN; otherwise with PINF set
positive infinity, with NINF set negative infinity; otherwise, at value 0, negative zero where NZ is 1 and CNT is at
least 1 and else positive zero; otherwise the exact value in units of 2^-149. What a row of accumulators yields is
then converted once from the exact values to the output format, the scaled formats in blocks of 32. (R243) -/
def Obligations.AccumulatorWriteOut : Prop :=
  (∀ x : XAcc,
    (x.nan = true ∨ (x.pinf = true ∧ x.ninf = true) → x.out = .nan) ∧
    (x.nan = false → ¬ (x.pinf = true ∧ x.ninf = true) →
      (x.pinf = true → x.out = .inf false) ∧ (x.pinf = false → x.ninf = true → x.out = .inf true) ∧
      (x.pinf = false → x.ninf = false →
        (x.value = 0 → x.out = .fin (x.nz && decide (1 ≤ x.cnt)) 0 (-149)) ∧
        (x.value ≠ 0 → x.out = .fin (decide (x.value.toInt < 0)) x.value.toInt.natAbs (-149))))) ∧
  ∀ (s : State) (t c a sa : Nat) (l : List XAcc), let vs := l.map XAcc.out
    (isScaled c = false → (s.putRow t c a sa vs).bonded =
        (s.tWrite t a (packElems c (vs.map (fun v => (convert c v).code)))).bonded) ∧
    (isScaled c = true → let b := (blocksOf (ceilDiv vs.length 32) vs).map (convBlock c)
      (s.putRow t c a sa vs).bonded = ((s.tWrite t a (packElems c ((b.flatMap (·.2)).map (·.code)))).tWrite t sa
        (b.map (fun x => BitVec.ofNat 8 x.1))).bonded)
end

