-- ==== Sys2Proof/Laws/Tbl.lean ====
section
/-! SUPPORT. The laws of sparse tables and memories: read after write, what a write leaves alone, and that every
operation keeps the canonical form. -/

namespace Sys2Proof.Machine

variable {α : Type}

/-! ### Reading -/

theorem tget_tins_self (d : Nat → α) (t : Tbl α) (k : Nat) (v : α) (h : ∀ p ∈ t, p.1 ≠ k) :
    tget d (tins k v t) k = v := by
  induction t with
  | nil => simp [tins, tget]
  | cons p t ih =>
    obtain ⟨j, w⟩ := p
    have hj : j ≠ k := h (j, w) (by simp)
    unfold tins
    split
    · simp [tget]
    · simp [tget, hj, ih (fun p hp => h p (by simp [hp]))]

theorem tget_tins_other (d : Nat → α) (t : Tbl α) (j k : Nat) (v : α) (h : j ≠ k) :
    tget d (tins k v t) j = tget d t j := by
  induction t with
  | nil => simp [tins, tget, Ne.symm h]
  | cons p t ih =>
    unfold tins
    split
    · simp [tget, Ne.symm h]
    · simp [tget, ih]

theorem tget_tdel_self (d : Nat → α) (t : Tbl α) (k : Nat) : tget d (tdel k t) k = d k := by
  induction t with
  | nil => simp [tdel, tget]
  | cons p t ih =>
    obtain ⟨j, w⟩ := p
    by_cases hj : j = k
    · simpa [tdel, tget, hj] using ih
    · simpa [tdel, tget, hj] using ih

theorem tget_tdel_other (d : Nat → α) (t : Tbl α) (j k : Nat) (h : j ≠ k) :
    tget d (tdel k t) j = tget d t j := by
  induction t with
  | nil => simp [tdel, tget]
  | cons p t ih =>
    obtain ⟨i, w⟩ := p
    by_cases hi : i = k
    · have : i ≠ j := by omega
      simpa [tdel, tget, hi, hi ▸ this] using ih
    · by_cases hij : i = j
      · simp [tdel, tget, hij, h]
      · simpa [tdel, tget, hi, hij] using ih

theorem tdel_keys (t : Tbl α) (k : Nat) : ∀ p ∈ tdel k t, p.1 ≠ k := by
  intro p hp
  have := (List.mem_filter.mp hp).2
  simpa using this

/-- A read after a write to the same key gives the value written. -/
@[simp] theorem tget_tset_self [DecidableEq α] (d : Nat → α) (t : Tbl α) (k : Nat) (v : α) :
    tget d (tset d t k v) k = v := by
  unfold tset
  split
  · rename_i h
    rw [tget_tdel_self, h]
  · exact tget_tins_self d _ k v (tdel_keys t k)

/-- A write leaves every other key alone. -/
theorem tget_tset_other [DecidableEq α] (d : Nat → α) (t : Tbl α) (j k : Nat) (v : α) (h : j ≠ k) :
    tget d (tset d t k v) j = tget d t j := by
  unfold tset
  split
  · exact tget_tdel_other d t j k h
  · rw [tget_tins_other d _ j k v h, tget_tdel_other d t j k h]

/-- A read after a write, both cases at once. -/
theorem tget_tset [DecidableEq α] (d : Nat → α) (t : Tbl α) (j k : Nat) (v : α) :
    tget d (tset d t k v) j = if j = k then v else tget d t j := by
  split
  · rename_i h
    rw [h, tget_tset_self]
  · rename_i h
    exact tget_tset_other d t j k v h

/-- Reads outside a block of writes are as before. -/
theorem tget_tsetMany_other [DecidableEq α] (d : Nat → α) (vs : List α) (t : Tbl α) (j k : Nat)
    (h : j < k ∨ k + vs.length ≤ j) : tget d (tsetMany d t k vs) j = tget d t j := by
  induction vs generalizing t k with
  | nil => rfl
  | cons v vs ih =>
    simp only [List.length_cons] at h
    rw [tsetMany, ih (tset d t k v) (k + 1) (by omega), tget_tset_other d t j k v (by omega)]

/-- Reads inside a block of writes give the values written. -/
theorem tget_tsetMany_self [DecidableEq α] (d : Nat → α) (vs : List α) (t : Tbl α) (k i : Nat) (h : i < vs.length) :
    tget d (tsetMany d t k vs) (k + i) = vs[i] := by
  induction vs generalizing t k i with
  | nil => simp at h
  | cons v vs ih =>
    rw [tsetMany]
    cases i with
    | zero => rw [tget_tsetMany_other d vs _ _ _ (by omega)]; simp
    | succ i =>
      have := ih (tset d t k v) (k + 1) i (by simpa using h)
      rw [show k + 1 + i = k + (i + 1) by omega] at this
      simpa using this

/-! ### The canonical form -/

theorem twf_iff [DecidableEq α] (d : Nat → α) (t : Tbl α) :
    twf d t = true ↔ t.Pairwise (fun a b => a.1 < b.1) ∧ ∀ p ∈ t, p.2 ≠ d p.1 := by
  simp [twf]

@[simp] theorem twf_nil [DecidableEq α] (d : Nat → α) : twf d [] = true := by simp [twf]

theorem twf_filter [DecidableEq α] (d : Nat → α) (t : Tbl α) (q : Nat × α → Bool) (h : twf d t = true) :
    twf d (t.filter q) = true := by
  rw [twf_iff] at h ⊢
  exact ⟨h.1.filter q, fun p hp => h.2 p (List.mem_filter.mp hp).1⟩

theorem tins_pairwise (t : Tbl α) (k : Nat) (v : α) (h : t.Pairwise (fun a b => a.1 < b.1))
    (hk : ∀ p ∈ t, p.1 ≠ k) : (tins k v t).Pairwise (fun a b => a.1 < b.1) := by
  induction t with
  | nil => simp [tins]
  | cons p t ih =>
    obtain ⟨j, w⟩ := p
    rw [List.pairwise_cons] at h
    have hj : j ≠ k := hk (j, w) (by simp)
    unfold tins
    split
    · rename_i hlt
      refine List.Pairwise.cons ?_ (List.pairwise_cons.mpr h)
      intro b hb
      rcases List.mem_cons.mp hb with rfl | hb
      · exact hlt
      · exact lt_trans hlt (h.1 b hb)
    · refine List.Pairwise.cons ?_ (ih h.2 (fun p hp => hk p (by simp [hp])))
      intro b hb
      have : b = (k, v) ∨ b ∈ t := by
        clear ih h hk
        induction t with
        | nil => simpa [tins] using hb
        | cons q t iq =>
          unfold tins at hb
          split at hb
          · simpa using hb
          · rcases List.mem_cons.mp hb with rfl | hb
            · simp
            · rcases iq hb with h | h <;> simp [h]
      rcases this with rfl | hb
      · simpa using by omega
      · exact h.1 b hb

theorem mem_tins (t : Tbl α) (k : Nat) (v : α) (p : Nat × α) (h : p ∈ tins k v t) : p = (k, v) ∨ p ∈ t := by
  induction t with
  | nil => simpa [tins] using h
  | cons q t ih =>
    unfold tins at h
    split at h
    · simpa using h
    · rcases List.mem_cons.mp h with rfl | h
      · simp
      · rcases ih h with h | h <;> simp [h]

/-- A write keeps the canonical form. -/
theorem twf_tset [DecidableEq α] (d : Nat → α) (t : Tbl α) (k : Nat) (v : α) (h : twf d t = true) :
    twf d (tset d t k v) = true := by
  have hd : twf d (tdel k t) = true := twf_filter d t _ h
  unfold tset
  split
  · exact hd
  · rename_i hv
    rw [twf_iff] at hd ⊢
    refine ⟨tins_pairwise _ k v hd.1 (tdel_keys t k), fun p hp => ?_⟩
    rcases mem_tins _ k v p hp with rfl | hp
    · exact hv
    · exact hd.2 p hp

theorem twf_tsetMany [DecidableEq α] (d : Nat → α) (vs : List α) (t : Tbl α) (k : Nat) (h : twf d t = true) :
    twf d (tsetMany d t k vs) = true := by
  induction vs generalizing t k with
  | nil => exact h
  | cons v vs ih => exact ih _ _ (twf_tset d t k v h)

/-! ### Memory -/

theorem Memory.byte_setByte (m : Memory) (a b : Nat) (v : Byte) :
    (m.setByte a v).byte b = if b = a then v else m.byte b := tget_tset memDefault m b a v

theorem Memory.byte_write_other (m : Memory) (a : Nat) (bs : List Byte) (b : Nat) (h : b < a ∨ a + bs.length ≤ b) :
    (m.write a bs).byte b = m.byte b := tget_tsetMany_other memDefault bs m b a h

theorem Memory.byte_write_self (m : Memory) (a : Nat) (bs : List Byte) (i : Nat) (h : i < bs.length) :
    (m.write a bs).byte (a + i) = bs[i] := tget_tsetMany_self memDefault bs m a i h

theorem Memory.wf_setByte (m : Memory) (a : Nat) (v : Byte) (h : m.wf = true) : (m.setByte a v).wf = true :=
  twf_tset memDefault m a v h

theorem Memory.wf_write (m : Memory) (a : Nat) (bs : List Byte) (h : m.wf = true) : (m.write a bs).wf = true :=
  twf_tsetMany memDefault bs m a h

theorem Memory.wf_filter (m : Memory) (q : Nat × Byte → Bool) (h : m.wf = true) : Memory.wf (m.filter q) = true :=
  twf_filter memDefault m q h

end Sys2Proof.Machine
end

