-- ==== Sys2Proof/Laws/Regs.lean ====
section
/-! SUPPORT. The laws of register words and fields: what a read gives after a write of the same word or field, and that
every other word or field reads as before. -/

namespace Sys2Proof.Machine

/-- Two fields share no bit. -/
def Fld.apart (F G : Fld) : Bool :=
  F.addr != G.addr || decide (F.lo + F.w ≤ G.lo) || decide (G.lo + G.w ≤ F.lo)

/-- A field lies in its 32-bit word. -/
def Fld.fits (F : Fld) : Bool := decide (F.lo + F.w ≤ 32)

/-! ### Bits of numbers -/

theorem bitsOf_lt (x lo w : Nat) : bitsOf x lo w < 2 ^ w := Nat.mod_lt _ (by positivity)

/-- Bits [lo + w - 1 : lo] as part of the number. -/
theorem bitsOf_split (x lo w : Nat) :
    x = x % 2 ^ lo + 2 ^ lo * bitsOf x lo w + 2 ^ (lo + w) * (x / 2 ^ (lo + w)) := by
  unfold bitsOf
  have h1 := Nat.mod_add_div x (2 ^ lo)
  have h2 := Nat.mod_add_div (x / 2 ^ lo) (2 ^ w)
  rw [Nat.div_div_eq_div_mul, ← pow_add] at h2
  calc x = x % 2 ^ lo + 2 ^ lo * (x / 2 ^ lo) := h1.symm
    _ = x % 2 ^ lo + 2 ^ lo * (x / 2 ^ lo % 2 ^ w + 2 ^ w * (x / 2 ^ (lo + w))) := by rw [h2]
    _ = _ := by rw [pow_add]; ring

theorem insBits_eq (x lo w n : Nat) :
    insBits x lo w n = x % 2 ^ lo + 2 ^ lo * (n % 2 ^ w) + 2 ^ (lo + w) * (x / 2 ^ (lo + w)) := by
  have h := bitsOf_split x lo w
  unfold insBits
  have e : x - bitsOf x lo w * 2 ^ lo = x % 2 ^ lo + 2 ^ (lo + w) * (x / 2 ^ (lo + w)) := by
    have hc : bitsOf x lo w * 2 ^ lo = 2 ^ lo * bitsOf x lo w := Nat.mul_comm _ _
    omega
  rw [e]
  ring

theorem insBits_lt (x lo w n : Nat) (h : lo + w ≤ 32) (hx : x < 2 ^ 32) : insBits x lo w n < 2 ^ 32 := by
  have e := insBits_eq x lo w n
  have a : x % 2 ^ lo < 2 ^ lo := Nat.mod_lt _ (by positivity)
  have b : n % 2 ^ w + 1 ≤ 2 ^ w := Nat.mod_lt _ (by positivity)
  have c : x / 2 ^ (lo + w) + 1 ≤ 2 ^ (32 - (lo + w)) := by
    apply Nat.div_lt_of_lt_mul
    rw [← pow_add]
    convert hx using 2
    omega
  have b' := Nat.mul_le_mul_left (2 ^ lo) b
  have c' := Nat.mul_le_mul_left (2 ^ (lo + w)) c
  rw [← pow_add] at b' c'
  rw [show lo + w + (32 - (lo + w)) = 32 by omega] at c'
  have b'' : 2 ^ lo * (n % 2 ^ w) + 2 ^ lo ≤ 2 ^ (lo + w) := by rw [Nat.mul_add, Nat.mul_one] at b'; exact b'
  have c'' : 2 ^ (lo + w) * (x / 2 ^ (lo + w)) + 2 ^ (lo + w) ≤ 2 ^ 32 := by
    rw [Nat.mul_add, Nat.mul_one] at c'; exact c'
  omega

/-- The written field reads back. -/
theorem bitsOf_insBits (x lo w n : Nat) : bitsOf (insBits x lo w n) lo w = n % 2 ^ w := by
  have a : x % 2 ^ lo < 2 ^ lo := Nat.mod_lt _ (by positivity)
  rw [insBits_eq]
  unfold bitsOf
  have e : x % 2 ^ lo + 2 ^ lo * (n % 2 ^ w) + 2 ^ (lo + w) * (x / 2 ^ (lo + w)) =
      x % 2 ^ lo + 2 ^ lo * (n % 2 ^ w + 2 ^ w * (x / 2 ^ (lo + w))) := by rw [pow_add]; ring
  rw [e, Nat.add_mul_div_left _ _ (by positivity), Nat.div_eq_of_lt a, Nat.zero_add, Nat.add_mul_mod_self_left]
  exact Nat.mod_mod _ _

/-- Another field reads as before. -/
theorem bitsOf_insBits_apart (x lo w n l v : Nat) (h : lo + w ≤ l ∨ l + v ≤ lo) :
    bitsOf (insBits x lo w n) l v = bitsOf x l v := by
  have a : x % 2 ^ lo < 2 ^ lo := Nat.mod_lt _ (by positivity)
  have b : n % 2 ^ w < 2 ^ w := Nat.mod_lt _ (by positivity)
  rw [insBits_eq]
  rcases h with h | h
  · obtain ⟨k, rfl⟩ := Nat.exists_eq_add_of_le h
    unfold bitsOf
    have hlow : x % 2 ^ lo + 2 ^ lo * (n % 2 ^ w) < 2 ^ (lo + w) := by
      have : 2 ^ lo * (n % 2 ^ w) + 2 ^ lo ≤ 2 ^ lo * 2 ^ w := by
        have := Nat.mul_le_mul_left (2 ^ lo) (show n % 2 ^ w + 1 ≤ 2 ^ w from b)
        rw [Nat.mul_add, Nat.mul_one] at this
        exact this
      rw [pow_add]
      omega
    rw [pow_add 2 (lo + w) k, ← Nat.div_div_eq_div_mul, ← Nat.div_div_eq_div_mul,
      Nat.add_mul_div_left _ _ (by positivity), Nat.div_eq_of_lt hlow, Nat.zero_add]
  · obtain ⟨k, rfl⟩ := Nat.exists_eq_add_of_le h
    have e : ∀ y : Nat, bitsOf y l v = y % 2 ^ (l + v + k) / 2 ^ l % 2 ^ v := by
      intro y
      unfold bitsOf
      rw [show l + v + k = l + (v + k) by omega, pow_add, Nat.mod_mul_right_div_self, pow_add]
      exact (Nat.mod_mul_right_mod _ _ _).symm
    rw [e, e x]
    congr 2
    have e2 : x % 2 ^ (l + v + k) + 2 ^ (l + v + k) * (n % 2 ^ w) + 2 ^ (l + v + k + w) * (x / 2 ^ (l + v + k + w)) =
        x % 2 ^ (l + v + k) + 2 ^ (l + v + k) * (n % 2 ^ w + 2 ^ w * (x / 2 ^ (l + v + k + w))) := by
      rw [pow_add 2 (l + v + k) w]; ring
    rw [e2, Nat.add_mul_mod_self_left, Nat.mod_mod]

@[simp] theorem b2n_mod (b : Bool) : b2n b % 2 = b2n b := by cases b <;> rfl

/-! ### Words -/

@[simp] theorem State.r_setR (s : State) (a : Nat) (v : Word) : (s.setR a v).r a = v := by
  simp [State.r, State.setR]

theorem State.r_setR_other (s : State) (a b : Nat) (v : Word) (h : b ≠ a) : (s.setR a v).r b = s.r b := by
  simp [State.r, State.setR, tget_tset_other _ _ _ _ _ h]

theorem State.rn_lt (s : State) (a : Nat) : s.rn a < 2 ^ 32 := (s.r a).isLt

@[simp] theorem State.rn_setN (s : State) (a n : Nat) : (s.setN a n).rn a = n % 2 ^ 32 := by
  simp [State.rn, State.setN]

theorem State.rn_setN_other (s : State) (a b n : Nat) (h : b ≠ a) : (s.setN a n).rn b = s.rn b := by
  simp [State.rn, State.setN, State.r_setR_other _ _ _ _ h]

theorem State.r_setN_other (s : State) (a b n : Nat) (h : b ≠ a) : (s.setN a n).r b = s.r b :=
  State.r_setR_other _ _ _ _ h

theorem State.r_setF_other (s : State) (F : Fld) (b n : Nat) (h : b ≠ F.addr) : (s.setF F n).r b = s.r b :=
  State.r_setR_other _ _ _ _ h

theorem State.r_setB_other (s : State) (F : Fld) (v : Bool) (b : Nat) (h : b ≠ F.addr) : (s.setB F v).r b = s.r b :=
  State.r_setR_other _ _ _ _ h

/-- A bit set by hardware is a field write, and a note in the cycle. -/
theorem State.r_hit (s : State) (F : Fld) (a : Nat) : (s.hit F).r a = (s.setF F 1).r a := rfl

theorem State.f_hit (s : State) (F G : Fld) : (s.hit F).f G = (s.setF F 1).f G := rfl

theorem State.bit_hit (s : State) (F G : Fld) : (s.hit F).bit G = (s.setF F 1).bit G := rfl

theorem State.r_raise_other (s : State) (a i b : Nat) (h : b ≠ a) : (s.raise a i).r b = s.r b :=
  (State.r_hit _ _ _).trans (State.r_setR_other _ _ _ _ h)

theorem State.r_addN_other (s : State) (a n b : Nat) (h : b ≠ a) : (s.addN a n).r b = s.r b :=
  State.r_setR_other _ _ _ _ h

theorem State.r_inc_other (s : State) (a b : Nat) (h : b ≠ a) : (s.inc a).r b = s.r b :=
  State.r_setR_other _ _ _ _ h

theorem State.rn_setF_other (s : State) (F : Fld) (b n : Nat) (h : b ≠ F.addr) : (s.setF F n).rn b = s.rn b :=
  State.rn_setN_other _ _ _ _ h

theorem State.rn_setB_other (s : State) (F : Fld) (v : Bool) (b : Nat) (h : b ≠ F.addr) :
    (s.setB F v).rn b = s.rn b := State.rn_setN_other _ _ _ _ h

theorem State.rn_raise_other (s : State) (a i b : Nat) (h : b ≠ a) : (s.raise a i).rn b = s.rn b :=
  congrArg BitVec.toNat (State.r_raise_other _ _ _ _ h)

/-- A wrapping count after an addition. -/
@[simp] theorem State.rn_addN (s : State) (a n : Nat) : (s.addN a n).rn a = (s.rn a + n) % 2 ^ 32 := by
  simp [State.addN]

theorem State.rn_addN_other (s : State) (a n b : Nat) (h : b ≠ a) : (s.addN a n).rn b = s.rn b :=
  State.rn_setN_other _ _ _ _ h

@[simp] theorem State.rn_inc (s : State) (a : Nat) : (s.inc a).rn a = (s.rn a + 1) % 2 ^ 32 := by
  simp [State.inc]

theorem State.rn_inc_other (s : State) (a b : Nat) (h : b ≠ a) : (s.inc a).rn b = s.rn b :=
  State.rn_setN_other _ _ _ _ h

/-! ### Fields -/

theorem State.f_lt (s : State) (F : Fld) : s.f F < 2 ^ F.w := bitsOf_lt _ _ _

/-- A field reads back what was written, cut to its width. -/
theorem State.f_setF (s : State) (F : Fld) (n : Nat) (h : F.fits = true) : (s.setF F n).f F = n % 2 ^ F.w := by
  have hf : F.lo + F.w ≤ 32 := by simpa [Fld.fits] using h
  unfold State.f State.setF
  rw [State.rn_setN, Nat.mod_eq_of_lt (insBits_lt _ _ _ _ hf (s.rn_lt _)), bitsOf_insBits]

/-- A write of one field leaves a field apart from it alone. -/
theorem State.f_setF_apart (s : State) (F G : Fld) (n : Nat) (h : F.fits = true) (hg : F.apart G = true) :
    (s.setF F n).f G = s.f G := by
  have hf : F.lo + F.w ≤ 32 := by simpa [Fld.fits] using h
  unfold State.f State.setF
  by_cases ha : G.addr = F.addr
  · rw [ha, State.rn_setN, Nat.mod_eq_of_lt (insBits_lt _ _ _ _ hf (s.rn_lt _))]
    apply bitsOf_insBits_apart
    simp only [Fld.apart, ha, bne_self_eq_false, Bool.false_or, Bool.or_eq_true, decide_eq_true_eq] at hg
    exact hg
  · rw [State.rn_setN_other _ _ _ _ ha]

theorem State.f_setN_other (s : State) (F : Fld) (a n : Nat) (h : F.addr ≠ a) : (s.setN a n).f F = s.f F := by
  unfold State.f
  rw [State.rn_setN_other _ _ _ _ h]

theorem State.f_addN_other (s : State) (F : Fld) (a n : Nat) (h : F.addr ≠ a) : (s.addN a n).f F = s.f F :=
  State.f_setN_other _ _ _ _ h

theorem State.f_inc_other (s : State) (F : Fld) (a : Nat) (h : F.addr ≠ a) : (s.inc a).f F = s.f F :=
  State.f_setN_other _ _ _ _ h

theorem State.f_setB (s : State) (F : Fld) (b : Bool) (h : F.fits = true) (hw : F.w = 1) : (s.setB F b).f F = b2n b := by
  unfold State.setB
  rw [State.f_setF _ _ _ h, hw]
  cases b <;> rfl

theorem State.f_setB_apart (s : State) (F G : Fld) (b : Bool) (h : F.fits = true) (hg : F.apart G = true) :
    (s.setB F b).f G = s.f G := State.f_setF_apart _ _ _ _ h hg

theorem State.f_raise_apart (s : State) (a i : Nat) (G : Fld) (h : (bitF a i).fits = true)
    (hg : (bitF a i).apart G = true) : (s.raise a i).f G = s.f G :=
  (State.f_hit _ _ _).trans (State.f_setF_apart _ _ _ _ h hg)

theorem State.bit_setB (s : State) (F : Fld) (b : Bool) (h : F.fits = true) (hw : F.w = 1) : (s.setB F b).bit F = b := by
  unfold State.bit
  rw [State.f_setB _ _ _ h hw]
  cases b <;> rfl

theorem State.bit_setB_apart (s : State) (F G : Fld) (b : Bool) (h : F.fits = true) (hg : F.apart G = true) :
    (s.setB F b).bit G = s.bit G := by
  unfold State.bit
  rw [State.f_setB_apart _ _ _ _ h hg]

theorem State.bit_setF_apart (s : State) (F G : Fld) (n : Nat) (h : F.fits = true) (hg : F.apart G = true) :
    (s.setF F n).bit G = s.bit G := by
  unfold State.bit
  rw [State.f_setF_apart _ _ _ _ h hg]

theorem State.bit_setN_other (s : State) (F : Fld) (a n : Nat) (h : F.addr ≠ a) : (s.setN a n).bit F = s.bit F := by
  unfold State.bit
  rw [State.f_setN_other _ _ _ _ h]

theorem State.bit_addN_other (s : State) (F : Fld) (a n : Nat) (h : F.addr ≠ a) : (s.addN a n).bit F = s.bit F :=
  State.bit_setN_other _ _ _ _ h

theorem State.bit_inc_other (s : State) (F : Fld) (a : Nat) (h : F.addr ≠ a) : (s.inc a).bit F = s.bit F :=
  State.bit_setN_other _ _ _ _ h

/-- The raised bit of a CAUSE register is set. -/
theorem State.bit_raise (s : State) (a i : Nat) (h : (bitF a i).fits = true) : (s.raise a i).bit (bitF a i) = true := by
  unfold State.raise
  rw [State.bit_hit, State.bit, State.f_setF _ _ _ h]
  rfl

theorem State.bit_raise_apart (s : State) (a i : Nat) (G : Fld) (h : (bitF a i).fits = true)
    (hg : (bitF a i).apart G = true) : (s.raise a i).bit G = s.bit G := by
  unfold State.bit
  rw [State.f_raise_apart _ _ _ _ h hg]

/-! ### Wide registers -/

/-- A 64-bit register reads back. -/
@[simp] theorem State.r64_setR64 (s : State) (a n : Nat) : (s.setR64 a n).r64 a = n % 2 ^ 64 := by
  unfold State.r64 State.setR64
  rw [State.rn_setN_other _ _ _ _ (by omega), State.rn_setN, State.rn_setN]
  omega

theorem State.r_setR64_other (s : State) (a b n : Nat) (h : b ≠ a) (h4 : b ≠ a + 4) : (s.setR64 a n).r b = s.r b := by
  unfold State.setR64
  rw [State.r_setN_other _ _ _ _ h4, State.r_setN_other _ _ _ _ h]

theorem State.rn_setR64_other (s : State) (a b n : Nat) (h : b ≠ a) (h4 : b ≠ a + 4) : (s.setR64 a n).rn b = s.rn b := by
  unfold State.rn
  rw [State.r_setR64_other _ _ _ _ h h4]

/-- A 96-bit register reads back. -/
@[simp] theorem State.r96_setR96 (s : State) (a n : Nat) : (s.setR96 a n).r96 a = n % 2 ^ 96 := by
  unfold State.r96 State.setR96
  have h : ((s.setR64 a n).setN (a + 8) (n / 2 ^ 64)).r64 a = n % 2 ^ 64 := by
    rw [← State.r64_setR64 s a n]
    unfold State.r64
    rw [State.rn_setN_other _ _ _ _ (by omega), State.rn_setN_other _ _ _ _ (by omega)]
  rw [h, State.rn_setN]
  omega

end Sys2Proof.Machine
end

