-- ==== Sys2Proof/Laws/Ops.lean ====
section
/-! SUPPORT. Laws of the guards that most commands stand under, and of the command bits of a written word. -/

namespace Sys2Proof.Machine

theorem bitOf_eq_testBit (x i : Nat) : bitOf x i = x.testBit i := by
  rw [Nat.testBit_eq_decide_div_mod_eq]
  rfl

/-- A command bit of a word in which other command bits were forced. -/
theorem bitOf_forceBits (v : Word) (m i : Nat) (h : m < 2 ^ 32) :
    bitOf (forceBits v m) i = (bitOf v.toNat i || bitOf m i) := by
  simp only [bitOf_eq_testBit, forceBits, BitVec.toNat_or, BitVec.toNat_ofNat, Nat.testBit_or, Nat.mod_eq_of_lt h]

/-- A field of a word below which, or above which, bits were forced. -/
theorem bitsOf_forceBits_lt (v : Word) (m lo w : Nat) (h : m < 2 ^ 32) (hm : bitsOf m lo w = 0) :
    bitsOf (forceBits v m) lo w = bitsOf v.toNat lo w := by
  apply Nat.eq_of_testBit_eq
  intro i
  have e : (bitsOf m lo w).testBit i = false := by rw [hm]; simp
  simp only [bitsOf, Nat.testBit_mod_two_pow, Nat.testBit_div_two_pow] at e ⊢
  simp only [forceBits, BitVec.toNat_or, BitVec.toNat_ofNat, Nat.testBit_or, Nat.mod_eq_of_lt h]
  by_cases hi : i < w
  · simp [hi] at e ⊢; simp [e]
  · simp [hi]

theorem State.onK_pos (s : State) (g : State → State) (h : s.part.isK = true) : s.onK g = g s := by simp [State.onK, h]

theorem State.onDie_pos (s : State) (g : State → State) (h : s.part.isK = false) : s.onDie g = g s := by
  simp [State.onDie, h]

theorem State.inMain_pos (s : State) (g : State → State) (h : s.mainOn = true) : s.inMain g = g s := by
  simp [State.inMain, h]

theorem State.unlocked_pos (s : State) (g : State → State) (h : s.mainOn = true) (hl : s.bit LOAD_BUSY = false) :
    s.unlocked g = g s := by
  simp [State.unlocked, State.loadFree, State.inMain, h, hl]

/-- While a load runs, a locked write only raises CFG_LOCKED (R348). -/
theorem State.unlocked_busy (s : State) (g : State → State) (h : s.mainOn = true) (hl : s.bit LOAD_BUSY = true) :
    s.unlocked g = s.raise LEAP_CAUSE 12 := by
  simp [State.unlocked, State.loadFree, State.inMain, h, hl]

/-- While the main part does not answer, a locked write does nothing (R406). -/
theorem State.unlocked_off (s : State) (g : State → State) (h : s.mainOn = false) : s.unlocked g = s := by
  simp [State.unlocked, State.inMain, h]

end Sys2Proof.Machine
end

