-- ==== Sys2Proof/Laws/Frames.lean ====
section
/-! SUPPORT. The laws of the words that statements use for what a command leaves alone: `sameBits` and `onlyRegs` for each
register update and for one update after another, and `sent` for the messages made ready to leave. -/

namespace Sys2Proof.Machine

/-! ### sameBits -/

theorem sameBits.refl (Fs : List Fld) (s : State) : sameBits Fs s s := fun _ _ _ _ => rfl

/-- An update of anything but register words. -/
theorem sameBits.of_regs {Fs : List Fld} {s t u : State} (h : sameBits Fs s t) (hr : ∀ a, u.r a = t.r a) :
    sameBits Fs s u := by
  intro a i hi hF
  rw [show u.rn a = t.rn a from congrArg BitVec.toNat (hr a)]
  exact h a i hi hF

/-- More fields may change. -/
theorem sameBits.mono {Fs Gs : List Fld} {s t : State} (h : sameBits Fs s t) (hs : ∀ F ∈ Fs, F ∈ Gs) : sameBits Gs s t :=
  fun a i hi hG => h a i hi (fun F hF => hG F (hs F hF))

/-- One update after another changes the fields of both. -/
theorem sameBits.trans {Fs Gs : List Fld} {s t u : State} (h : sameBits Fs s t) (g : sameBits Gs t u) :
    sameBits (Fs ++ Gs) s u := fun a i hi hF =>
  (g a i hi (fun F hF' => hF F (List.mem_append_right _ hF'))).trans
    (h a i hi (fun F hF' => hF F (List.mem_append_left _ hF')))

/-- One update after another of the same fields. -/
theorem sameBits.trans_same {Fs : List Fld} {s t u : State} (h : sameBits Fs s t) (g : sameBits Fs t u) : sameBits Fs s u :=
  fun a i hi hF => (g a i hi hF).trans (h a i hi hF)

theorem bitOf_eq_bitsOf (x i : Nat) : bitOf x i = (bitsOf x i 1 == 1) := by simp [bitOf, bitsOf]

/-- A bit of a word outside the bits replaced in it. -/
theorem bitOf_insBits (x lo w n i : Nat) (h : ¬ (lo ≤ i ∧ i < lo + w)) : bitOf (insBits x lo w n) i = bitOf x i := by
  rw [bitOf_eq_bitsOf, bitOf_eq_bitsOf, bitsOf_insBits_apart _ _ _ _ _ _ (by omega)]

/-- The write of a field leaves every bit outside it. -/
theorem sameBits_setF (s : State) (F : Fld) (n : Nat) (Fs : List Fld) (h : F.fits = true) (hF : F ∈ Fs) :
    sameBits Fs s (s.setF F n) := by
  intro a i hi hs
  have hf : F.lo + F.w ≤ 32 := by simpa [Fld.fits] using h
  by_cases ha : a = F.addr
  · subst ha
    have e : (s.setF F n).rn F.addr = insBits (s.rn F.addr) F.lo F.w n := by
      unfold State.setF
      rw [State.rn_setN, Nat.mod_eq_of_lt (insBits_lt _ _ _ _ hf (State.rn_lt _ _))]
    rw [e]
    exact bitOf_insBits _ _ _ _ _ (fun hb => hs F hF ⟨rfl, hb.1, hb.2⟩)
  · rw [State.rn_setF_other _ _ _ _ ha]

theorem sameBits_setB (s : State) (F : Fld) (b : Bool) (Fs : List Fld) (h : F.fits = true) (hF : F ∈ Fs) :
    sameBits Fs s (s.setB F b) := sameBits_setF s F _ Fs h hF

theorem sameBits_hit (s : State) (F : Fld) (Fs : List Fld) (h : F.fits = true) (hF : F ∈ Fs) : sameBits Fs s (s.hit F) :=
  (sameBits_setF s F 1 Fs h hF).of_regs (State.r_hit s F)

theorem sameBits_raise (s : State) (a i : Nat) (Fs : List Fld) (h : (bitF a i).fits = true) (hF : bitF a i ∈ Fs) :
    sameBits Fs s (s.raise a i) := sameBits_hit s _ Fs h hF

/-- The write of a word leaves every other word. -/
theorem sameBits_setN (s : State) (a n : Nat) (Fs : List Fld) (hF : ⟨a, 0, 32⟩ ∈ Fs) : sameBits Fs s (s.setN a n) := by
  intro b i hi hs
  have hb : b ≠ a := fun e => hs _ hF ⟨e.symm, Nat.zero_le _, by simpa using hi⟩
  rw [State.rn_setN_other _ _ _ _ hb]

theorem sameBits_inc (s : State) (a : Nat) (Fs : List Fld) (hF : ⟨a, 0, 32⟩ ∈ Fs) : sameBits Fs s (s.inc a) :=
  sameBits_setN s a _ Fs hF

/-- A field none of whose bits may change reads as before. -/
theorem sameBits.f {Fs : List Fld} {s t : State} (h : sameBits Fs s t) (G : Fld) (hG : G.fits = true)
    (ha : ∀ F ∈ Fs, F.apart G = true) : t.f G = s.f G := by
  have hg : G.lo + G.w ≤ 32 := by simpa [Fld.fits] using hG
  unfold State.f
  apply Nat.eq_of_testBit_eq
  intro i
  simp only [bitsOf, Nat.testBit_mod_two_pow, Nat.testBit_div_two_pow]
  by_cases hi : i < G.w
  · have e := h G.addr (i + G.lo) (by omega) (fun F hF hc => by
      have := ha F hF
      simp only [Fld.apart, Bool.or_eq_true, bne_iff_ne, decide_eq_true_eq] at this
      omega)
    simp only [bitOf_eq_testBit] at e
    simp [hi, e]
  · simp [hi]

/-- A flag that may not change reads as before. -/
theorem sameBits.bit {Fs : List Fld} {s t : State} (h : sameBits Fs s t) (G : Fld) (hG : G.fits = true)
    (ha : ∀ F ∈ Fs, F.apart G = true) : t.bit G = s.bit G := by
  unfold State.bit
  rw [h.f G hG ha]

/-! ### onlyRegs -/

theorem Beat.noted_self (b : Beat) : b.noted b = b := rfl

theorem onlyRegs.refl (s : State) : onlyRegs s s := rfl

theorem onlyRegs.trans {s t u : State} (h : onlyRegs s t) (g : onlyRegs t u) : onlyRegs s u := by
  unfold onlyRegs at *
  rw [g, h]
  rfl

theorem onlyRegs_setR (s : State) (a : Nat) (v : Word) : onlyRegs s (s.setR a v) := rfl

theorem onlyRegs_setN (s : State) (a n : Nat) : onlyRegs s (s.setN a n) := rfl

theorem onlyRegs_setF (s : State) (F : Fld) (n : Nat) : onlyRegs s (s.setF F n) := rfl

theorem onlyRegs_setB (s : State) (F : Fld) (b : Bool) : onlyRegs s (s.setB F b) := rfl

theorem onlyRegs_inc (s : State) (a : Nat) : onlyRegs s (s.inc a) := rfl

theorem onlyRegs_addN (s : State) (a n : Nat) : onlyRegs s (s.addN a n) := rfl

theorem onlyRegs_setR64 (s : State) (a n : Nat) : onlyRegs s (s.setR64 a n) := rfl

theorem onlyRegs_setR96 (s : State) (a n : Nat) : onlyRegs s (s.setR96 a n) := rfl

theorem onlyRegs_hit (s : State) (F : Fld) : onlyRegs s (s.hit F) := rfl

theorem onlyRegs_raise (s : State) (a i : Nat) : onlyRegs s (s.raise a i) := rfl

theorem onlyRegs_ite (c : Prop) [Decidable c] {s t u : State} (ht : onlyRegs s t) (hu : onlyRegs s u) :
    onlyRegs s (if c then t else u) := by
  split
  · exact ht
  · exact hu

theorem onlyRegs.toEv {s t : State} (h : onlyRegs s t) : onlyRegsEv s t := by
  have hp : t.perf = s.perf := by rw [h]
  unfold onlyRegsEv
  rw [hp]
  exact h

theorem onlyRegsEv.trans {s t u : State} (h : onlyRegsEv s t) (g : onlyRegsEv t u) : onlyRegsEv s u := by
  unfold onlyRegsEv at *
  rw [g, h]
  rfl

theorem onlyRegsEv_evN (s : State) (c i n : Nat) : onlyRegsEv s (s.evN c i n) := rfl

theorem onlyRegsEv_ev (s : State) (c i : Nat) : onlyRegsEv s (s.ev c i) := rfl

/-! ### Messages -/

theorem sent_nil (s : State) : sent (fun _ => []) s s := by
  intro p
  simp

@[simp] theorem State.port_setPort (s : State) (p q : Nat) (x : Port) :
    (s.setPort p x).port q = if q = p then x else s.port q := tget_tset (fun _ => ({} : Port)) s.ports q p x

@[simp] theorem State.port_modPort (s : State) (p q : Nat) (g : Port → Port) :
    (s.modPort p g).port q = if q = p then g (s.port p) else s.port q := State.port_setPort s p q _

/-- One message on one port. -/
theorem sent_sendCtrl (s : State) (p : Nat) (m : Msg) : sent (fun q => if q = p then [m] else []) s (s.sendCtrl p m) := by
  intro q
  unfold State.sendCtrl
  by_cases hq : q = p
  · subst hq
    by_cases hu : s.portUp q = true <;> by_cases hm : s.maySend q m = true <;> simp [hu, hm, List.filter]
  · have hs : ∀ b : Bool, (if b then s.modPort p (fun x => { x with ctrl := x.ctrl ++ [m] }) else s).port q = s.port q := by
      intro b
      cases b <;> simp [hq]
    rw [hs]
    simp [hq]

end Sys2Proof.Machine
end

