-- ==== Sys2Proof/Laws/State.lean ====
section
/-! SUPPORT. For each primitive update, the fields of State that it leaves alone (one lemma per update, which simp reads
as one rule per field), and reads of registers through updates of other fields. -/

namespace Sys2Proof.Machine

@[simp] theorem State.setR_frame (s : State) (a : Nat) (v : Word) :
    (s.setR a v).part = s.part ∧ (s.setR a v).pending = s.pending ∧ (s.setR a v).imgRegs = s.imgRegs ∧
    (s.setR a v).latch = s.latch ∧ (s.setR a v).staged = s.staged ∧ (s.setR a v).time = s.time ∧
    (s.setR a v).beat = s.beat ∧ (s.setR a v).nst = s.nst ∧ (s.setR a v).layout = s.layout ∧
    (s.setR a v).power = s.power ∧ (s.setR a v).pulse = s.pulse ∧ (s.setR a v).clk = s.clk ∧
    (s.setR a v).servo = s.servo ∧ (s.setR a v).chans = s.chans ∧ (s.setR a v).edges = s.edges ∧
    (s.setR a v).leap = s.leap ∧ (s.setR a v).flt = s.flt ∧ (s.setR a v).ports = s.ports ∧
    (s.setR a v).regions = s.regions ∧ (s.setR a v).regClks = s.regClks ∧ (s.setR a v).cnt = s.cnt ∧
    (s.setR a v).bar = s.bar ∧ (s.setR a v).spawn = s.spawn ∧ (s.setR a v).bulk = s.bulk ∧
    (s.setR a v).bonded = s.bonded ∧ (s.setR a v).stack = s.stack ∧ (s.setR a v).stackHot = s.stackHot ∧
    (s.setR a v).tiles = s.tiles ∧ (s.setR a v).pfx = s.pfx ∧ (s.setR a v).perf = s.perf ∧
    (s.setR a v).host = s.host ∧ (s.setR a v).load = s.load ∧ (s.setR a v).outs = s.outs ∧
    (s.setR a v).fresh = s.fresh :=
  ⟨rfl, rfl, rfl, rfl, rfl, rfl, rfl, rfl, rfl, rfl, rfl, rfl, rfl, rfl, rfl, rfl, rfl, rfl, rfl, rfl, rfl, rfl, rfl, rfl, rfl, rfl, rfl, rfl, rfl, rfl, rfl, rfl, rfl, rfl⟩

@[simp] theorem State.setN_frame (s : State) (a n : Nat) :
    (s.setN a n).part = s.part ∧ (s.setN a n).pending = s.pending ∧ (s.setN a n).imgRegs = s.imgRegs ∧
    (s.setN a n).latch = s.latch ∧ (s.setN a n).staged = s.staged ∧ (s.setN a n).time = s.time ∧
    (s.setN a n).beat = s.beat ∧ (s.setN a n).nst = s.nst ∧ (s.setN a n).layout = s.layout ∧
    (s.setN a n).power = s.power ∧ (s.setN a n).pulse = s.pulse ∧ (s.setN a n).clk = s.clk ∧
    (s.setN a n).servo = s.servo ∧ (s.setN a n).chans = s.chans ∧ (s.setN a n).edges = s.edges ∧
    (s.setN a n).leap = s.leap ∧ (s.setN a n).flt = s.flt ∧ (s.setN a n).ports = s.ports ∧
    (s.setN a n).regions = s.regions ∧ (s.setN a n).regClks = s.regClks ∧ (s.setN a n).cnt = s.cnt ∧
    (s.setN a n).bar = s.bar ∧ (s.setN a n).spawn = s.spawn ∧ (s.setN a n).bulk = s.bulk ∧
    (s.setN a n).bonded = s.bonded ∧ (s.setN a n).stack = s.stack ∧ (s.setN a n).stackHot = s.stackHot ∧
    (s.setN a n).tiles = s.tiles ∧ (s.setN a n).pfx = s.pfx ∧ (s.setN a n).perf = s.perf ∧
    (s.setN a n).host = s.host ∧ (s.setN a n).load = s.load ∧ (s.setN a n).outs = s.outs ∧
    (s.setN a n).fresh = s.fresh :=
  ⟨rfl, rfl, rfl, rfl, rfl, rfl, rfl, rfl, rfl, rfl, rfl, rfl, rfl, rfl, rfl, rfl, rfl, rfl, rfl, rfl, rfl, rfl, rfl, rfl, rfl, rfl, rfl, rfl, rfl, rfl, rfl, rfl, rfl, rfl⟩

@[simp] theorem State.setF_frame (s : State) (F : Fld) (n : Nat) :
    (s.setF F n).part = s.part ∧ (s.setF F n).pending = s.pending ∧ (s.setF F n).imgRegs = s.imgRegs ∧
    (s.setF F n).latch = s.latch ∧ (s.setF F n).staged = s.staged ∧ (s.setF F n).time = s.time ∧
    (s.setF F n).beat = s.beat ∧ (s.setF F n).nst = s.nst ∧ (s.setF F n).layout = s.layout ∧
    (s.setF F n).power = s.power ∧ (s.setF F n).pulse = s.pulse ∧ (s.setF F n).clk = s.clk ∧
    (s.setF F n).servo = s.servo ∧ (s.setF F n).chans = s.chans ∧ (s.setF F n).edges = s.edges ∧
    (s.setF F n).leap = s.leap ∧ (s.setF F n).flt = s.flt ∧ (s.setF F n).ports = s.ports ∧
    (s.setF F n).regions = s.regions ∧ (s.setF F n).regClks = s.regClks ∧ (s.setF F n).cnt = s.cnt ∧
    (s.setF F n).bar = s.bar ∧ (s.setF F n).spawn = s.spawn ∧ (s.setF F n).bulk = s.bulk ∧
    (s.setF F n).bonded = s.bonded ∧ (s.setF F n).stack = s.stack ∧ (s.setF F n).stackHot = s.stackHot ∧
    (s.setF F n).tiles = s.tiles ∧ (s.setF F n).pfx = s.pfx ∧ (s.setF F n).perf = s.perf ∧
    (s.setF F n).host = s.host ∧ (s.setF F n).load = s.load ∧ (s.setF F n).outs = s.outs ∧
    (s.setF F n).fresh = s.fresh :=
  ⟨rfl, rfl, rfl, rfl, rfl, rfl, rfl, rfl, rfl, rfl, rfl, rfl, rfl, rfl, rfl, rfl, rfl, rfl, rfl, rfl, rfl, rfl, rfl, rfl, rfl, rfl, rfl, rfl, rfl, rfl, rfl, rfl, rfl, rfl⟩

@[simp] theorem State.setB_frame (s : State) (F : Fld) (b : Bool) :
    (s.setB F b).part = s.part ∧ (s.setB F b).pending = s.pending ∧ (s.setB F b).imgRegs = s.imgRegs ∧
    (s.setB F b).latch = s.latch ∧ (s.setB F b).staged = s.staged ∧ (s.setB F b).time = s.time ∧
    (s.setB F b).beat = s.beat ∧ (s.setB F b).nst = s.nst ∧ (s.setB F b).layout = s.layout ∧
    (s.setB F b).power = s.power ∧ (s.setB F b).pulse = s.pulse ∧ (s.setB F b).clk = s.clk ∧
    (s.setB F b).servo = s.servo ∧ (s.setB F b).chans = s.chans ∧ (s.setB F b).edges = s.edges ∧
    (s.setB F b).leap = s.leap ∧ (s.setB F b).flt = s.flt ∧ (s.setB F b).ports = s.ports ∧
    (s.setB F b).regions = s.regions ∧ (s.setB F b).regClks = s.regClks ∧ (s.setB F b).cnt = s.cnt ∧
    (s.setB F b).bar = s.bar ∧ (s.setB F b).spawn = s.spawn ∧ (s.setB F b).bulk = s.bulk ∧
    (s.setB F b).bonded = s.bonded ∧ (s.setB F b).stack = s.stack ∧ (s.setB F b).stackHot = s.stackHot ∧
    (s.setB F b).tiles = s.tiles ∧ (s.setB F b).pfx = s.pfx ∧ (s.setB F b).perf = s.perf ∧
    (s.setB F b).host = s.host ∧ (s.setB F b).load = s.load ∧ (s.setB F b).outs = s.outs ∧
    (s.setB F b).fresh = s.fresh :=
  ⟨rfl, rfl, rfl, rfl, rfl, rfl, rfl, rfl, rfl, rfl, rfl, rfl, rfl, rfl, rfl, rfl, rfl, rfl, rfl, rfl, rfl, rfl, rfl, rfl, rfl, rfl, rfl, rfl, rfl, rfl, rfl, rfl, rfl, rfl⟩

@[simp] theorem State.hit_frame (s : State) (F : Fld) :
    (s.hit F).part = s.part ∧ (s.hit F).pending = s.pending ∧ (s.hit F).imgRegs = s.imgRegs ∧
    (s.hit F).latch = s.latch ∧ (s.hit F).staged = s.staged ∧ (s.hit F).time = s.time ∧ (s.hit F).nst = s.nst ∧
    (s.hit F).layout = s.layout ∧ (s.hit F).power = s.power ∧ (s.hit F).pulse = s.pulse ∧ (s.hit F).clk = s.clk ∧
    (s.hit F).servo = s.servo ∧ (s.hit F).chans = s.chans ∧ (s.hit F).edges = s.edges ∧ (s.hit F).leap = s.leap ∧
    (s.hit F).flt = s.flt ∧ (s.hit F).ports = s.ports ∧ (s.hit F).regions = s.regions ∧
    (s.hit F).regClks = s.regClks ∧ (s.hit F).cnt = s.cnt ∧ (s.hit F).bar = s.bar ∧ (s.hit F).spawn = s.spawn ∧
    (s.hit F).bulk = s.bulk ∧ (s.hit F).bonded = s.bonded ∧ (s.hit F).stack = s.stack ∧
    (s.hit F).stackHot = s.stackHot ∧ (s.hit F).tiles = s.tiles ∧ (s.hit F).pfx = s.pfx ∧ (s.hit F).perf = s.perf ∧
    (s.hit F).host = s.host ∧ (s.hit F).load = s.load ∧ (s.hit F).outs = s.outs ∧ (s.hit F).fresh = s.fresh :=
  ⟨rfl, rfl, rfl, rfl, rfl, rfl, rfl, rfl, rfl, rfl, rfl, rfl, rfl, rfl, rfl, rfl, rfl, rfl, rfl, rfl, rfl, rfl, rfl, rfl, rfl, rfl, rfl, rfl, rfl, rfl, rfl, rfl, rfl⟩

@[simp] theorem State.raise_frame (s : State) (a i : Nat) :
    (s.raise a i).part = s.part ∧ (s.raise a i).pending = s.pending ∧ (s.raise a i).imgRegs = s.imgRegs ∧
    (s.raise a i).latch = s.latch ∧ (s.raise a i).staged = s.staged ∧ (s.raise a i).time = s.time ∧
    (s.raise a i).nst = s.nst ∧ (s.raise a i).layout = s.layout ∧ (s.raise a i).power = s.power ∧
    (s.raise a i).pulse = s.pulse ∧ (s.raise a i).clk = s.clk ∧ (s.raise a i).servo = s.servo ∧
    (s.raise a i).chans = s.chans ∧ (s.raise a i).edges = s.edges ∧ (s.raise a i).leap = s.leap ∧
    (s.raise a i).flt = s.flt ∧ (s.raise a i).ports = s.ports ∧ (s.raise a i).regions = s.regions ∧
    (s.raise a i).regClks = s.regClks ∧ (s.raise a i).cnt = s.cnt ∧ (s.raise a i).bar = s.bar ∧
    (s.raise a i).spawn = s.spawn ∧ (s.raise a i).bulk = s.bulk ∧ (s.raise a i).bonded = s.bonded ∧
    (s.raise a i).stack = s.stack ∧ (s.raise a i).stackHot = s.stackHot ∧ (s.raise a i).tiles = s.tiles ∧
    (s.raise a i).pfx = s.pfx ∧ (s.raise a i).perf = s.perf ∧ (s.raise a i).host = s.host ∧
    (s.raise a i).load = s.load ∧ (s.raise a i).outs = s.outs ∧ (s.raise a i).fresh = s.fresh :=
  ⟨rfl, rfl, rfl, rfl, rfl, rfl, rfl, rfl, rfl, rfl, rfl, rfl, rfl, rfl, rfl, rfl, rfl, rfl, rfl, rfl, rfl, rfl, rfl, rfl, rfl, rfl, rfl, rfl, rfl, rfl, rfl, rfl, rfl⟩

@[simp] theorem State.settle_frame (s : State) (a : Nat) :
    (s.settle a).part = s.part ∧ (s.settle a).pending = s.pending ∧ (s.settle a).regs = s.regs ∧
    (s.settle a).imgRegs = s.imgRegs ∧ (s.settle a).latch = s.latch ∧ (s.settle a).staged = s.staged ∧
    (s.settle a).time = s.time ∧ (s.settle a).nst = s.nst ∧ (s.settle a).layout = s.layout ∧
    (s.settle a).power = s.power ∧ (s.settle a).pulse = s.pulse ∧ (s.settle a).clk = s.clk ∧
    (s.settle a).servo = s.servo ∧ (s.settle a).chans = s.chans ∧ (s.settle a).edges = s.edges ∧
    (s.settle a).leap = s.leap ∧ (s.settle a).flt = s.flt ∧ (s.settle a).ports = s.ports ∧
    (s.settle a).regions = s.regions ∧ (s.settle a).regClks = s.regClks ∧ (s.settle a).cnt = s.cnt ∧
    (s.settle a).bar = s.bar ∧ (s.settle a).spawn = s.spawn ∧ (s.settle a).bulk = s.bulk ∧
    (s.settle a).bonded = s.bonded ∧ (s.settle a).stack = s.stack ∧ (s.settle a).stackHot = s.stackHot ∧
    (s.settle a).tiles = s.tiles ∧ (s.settle a).pfx = s.pfx ∧ (s.settle a).perf = s.perf ∧
    (s.settle a).host = s.host ∧ (s.settle a).load = s.load ∧ (s.settle a).outs = s.outs ∧
    (s.settle a).fresh = s.fresh :=
  ⟨rfl, rfl, rfl, rfl, rfl, rfl, rfl, rfl, rfl, rfl, rfl, rfl, rfl, rfl, rfl, rfl, rfl, rfl, rfl, rfl, rfl, rfl, rfl, rfl, rfl, rfl, rfl, rfl, rfl, rfl, rfl, rfl, rfl, rfl⟩

@[simp] theorem State.settle_r (s : State) (a : Nat) (k : Nat) : (s.settle a).r k = s.r k := rfl

@[simp] theorem State.settle_rn (s : State) (a : Nat) (k : Nat) : (s.settle a).rn k = s.rn k := rfl

@[simp] theorem State.settle_f (s : State) (a : Nat) (G : Fld) : (s.settle a).f G = s.f G := rfl

@[simp] theorem State.settle_bit (s : State) (a : Nat) (G : Fld) : (s.settle a).bit G = s.bit G := rfl

@[simp] theorem State.addN_frame (s : State) (a n : Nat) :
    (s.addN a n).part = s.part ∧ (s.addN a n).pending = s.pending ∧ (s.addN a n).imgRegs = s.imgRegs ∧
    (s.addN a n).latch = s.latch ∧ (s.addN a n).staged = s.staged ∧ (s.addN a n).time = s.time ∧
    (s.addN a n).beat = s.beat ∧ (s.addN a n).nst = s.nst ∧ (s.addN a n).layout = s.layout ∧
    (s.addN a n).power = s.power ∧ (s.addN a n).pulse = s.pulse ∧ (s.addN a n).clk = s.clk ∧
    (s.addN a n).servo = s.servo ∧ (s.addN a n).chans = s.chans ∧ (s.addN a n).edges = s.edges ∧
    (s.addN a n).leap = s.leap ∧ (s.addN a n).flt = s.flt ∧ (s.addN a n).ports = s.ports ∧
    (s.addN a n).regions = s.regions ∧ (s.addN a n).regClks = s.regClks ∧ (s.addN a n).cnt = s.cnt ∧
    (s.addN a n).bar = s.bar ∧ (s.addN a n).spawn = s.spawn ∧ (s.addN a n).bulk = s.bulk ∧
    (s.addN a n).bonded = s.bonded ∧ (s.addN a n).stack = s.stack ∧ (s.addN a n).stackHot = s.stackHot ∧
    (s.addN a n).tiles = s.tiles ∧ (s.addN a n).pfx = s.pfx ∧ (s.addN a n).perf = s.perf ∧
    (s.addN a n).host = s.host ∧ (s.addN a n).load = s.load ∧ (s.addN a n).outs = s.outs ∧
    (s.addN a n).fresh = s.fresh :=
  ⟨rfl, rfl, rfl, rfl, rfl, rfl, rfl, rfl, rfl, rfl, rfl, rfl, rfl, rfl, rfl, rfl, rfl, rfl, rfl, rfl, rfl, rfl, rfl, rfl, rfl, rfl, rfl, rfl, rfl, rfl, rfl, rfl, rfl, rfl⟩

@[simp] theorem State.inc_frame (s : State) (a : Nat) :
    (s.inc a).part = s.part ∧ (s.inc a).pending = s.pending ∧ (s.inc a).imgRegs = s.imgRegs ∧
    (s.inc a).latch = s.latch ∧ (s.inc a).staged = s.staged ∧ (s.inc a).time = s.time ∧ (s.inc a).beat = s.beat ∧
    (s.inc a).nst = s.nst ∧ (s.inc a).layout = s.layout ∧ (s.inc a).power = s.power ∧ (s.inc a).pulse = s.pulse ∧
    (s.inc a).clk = s.clk ∧ (s.inc a).servo = s.servo ∧ (s.inc a).chans = s.chans ∧ (s.inc a).edges = s.edges ∧
    (s.inc a).leap = s.leap ∧ (s.inc a).flt = s.flt ∧ (s.inc a).ports = s.ports ∧ (s.inc a).regions = s.regions ∧
    (s.inc a).regClks = s.regClks ∧ (s.inc a).cnt = s.cnt ∧ (s.inc a).bar = s.bar ∧ (s.inc a).spawn = s.spawn ∧
    (s.inc a).bulk = s.bulk ∧ (s.inc a).bonded = s.bonded ∧ (s.inc a).stack = s.stack ∧
    (s.inc a).stackHot = s.stackHot ∧ (s.inc a).tiles = s.tiles ∧ (s.inc a).pfx = s.pfx ∧ (s.inc a).perf = s.perf ∧
    (s.inc a).host = s.host ∧ (s.inc a).load = s.load ∧ (s.inc a).outs = s.outs ∧ (s.inc a).fresh = s.fresh :=
  ⟨rfl, rfl, rfl, rfl, rfl, rfl, rfl, rfl, rfl, rfl, rfl, rfl, rfl, rfl, rfl, rfl, rfl, rfl, rfl, rfl, rfl, rfl, rfl, rfl, rfl, rfl, rfl, rfl, rfl, rfl, rfl, rfl, rfl, rfl⟩

@[simp] theorem State.resetR_frame (s : State) (a : Nat) :
    (s.resetR a).part = s.part ∧ (s.resetR a).pending = s.pending ∧ (s.resetR a).imgRegs = s.imgRegs ∧
    (s.resetR a).latch = s.latch ∧ (s.resetR a).staged = s.staged ∧ (s.resetR a).time = s.time ∧
    (s.resetR a).beat = s.beat ∧ (s.resetR a).nst = s.nst ∧ (s.resetR a).layout = s.layout ∧
    (s.resetR a).power = s.power ∧ (s.resetR a).pulse = s.pulse ∧ (s.resetR a).clk = s.clk ∧
    (s.resetR a).servo = s.servo ∧ (s.resetR a).chans = s.chans ∧ (s.resetR a).edges = s.edges ∧
    (s.resetR a).leap = s.leap ∧ (s.resetR a).flt = s.flt ∧ (s.resetR a).ports = s.ports ∧
    (s.resetR a).regions = s.regions ∧ (s.resetR a).regClks = s.regClks ∧ (s.resetR a).cnt = s.cnt ∧
    (s.resetR a).bar = s.bar ∧ (s.resetR a).spawn = s.spawn ∧ (s.resetR a).bulk = s.bulk ∧
    (s.resetR a).bonded = s.bonded ∧ (s.resetR a).stack = s.stack ∧ (s.resetR a).stackHot = s.stackHot ∧
    (s.resetR a).tiles = s.tiles ∧ (s.resetR a).pfx = s.pfx ∧ (s.resetR a).perf = s.perf ∧
    (s.resetR a).host = s.host ∧ (s.resetR a).load = s.load ∧ (s.resetR a).outs = s.outs ∧
    (s.resetR a).fresh = s.fresh :=
  ⟨rfl, rfl, rfl, rfl, rfl, rfl, rfl, rfl, rfl, rfl, rfl, rfl, rfl, rfl, rfl, rfl, rfl, rfl, rfl, rfl, rfl, rfl, rfl, rfl, rfl, rfl, rfl, rfl, rfl, rfl, rfl, rfl, rfl, rfl⟩

@[simp] theorem State.setR64_frame (s : State) (a n : Nat) :
    (s.setR64 a n).part = s.part ∧ (s.setR64 a n).pending = s.pending ∧ (s.setR64 a n).imgRegs = s.imgRegs ∧
    (s.setR64 a n).latch = s.latch ∧ (s.setR64 a n).staged = s.staged ∧ (s.setR64 a n).time = s.time ∧
    (s.setR64 a n).beat = s.beat ∧ (s.setR64 a n).nst = s.nst ∧ (s.setR64 a n).layout = s.layout ∧
    (s.setR64 a n).power = s.power ∧ (s.setR64 a n).pulse = s.pulse ∧ (s.setR64 a n).clk = s.clk ∧
    (s.setR64 a n).servo = s.servo ∧ (s.setR64 a n).chans = s.chans ∧ (s.setR64 a n).edges = s.edges ∧
    (s.setR64 a n).leap = s.leap ∧ (s.setR64 a n).flt = s.flt ∧ (s.setR64 a n).ports = s.ports ∧
    (s.setR64 a n).regions = s.regions ∧ (s.setR64 a n).regClks = s.regClks ∧ (s.setR64 a n).cnt = s.cnt ∧
    (s.setR64 a n).bar = s.bar ∧ (s.setR64 a n).spawn = s.spawn ∧ (s.setR64 a n).bulk = s.bulk ∧
    (s.setR64 a n).bonded = s.bonded ∧ (s.setR64 a n).stack = s.stack ∧ (s.setR64 a n).stackHot = s.stackHot ∧
    (s.setR64 a n).tiles = s.tiles ∧ (s.setR64 a n).pfx = s.pfx ∧ (s.setR64 a n).perf = s.perf ∧
    (s.setR64 a n).host = s.host ∧ (s.setR64 a n).load = s.load ∧ (s.setR64 a n).outs = s.outs ∧
    (s.setR64 a n).fresh = s.fresh :=
  ⟨rfl, rfl, rfl, rfl, rfl, rfl, rfl, rfl, rfl, rfl, rfl, rfl, rfl, rfl, rfl, rfl, rfl, rfl, rfl, rfl, rfl, rfl, rfl, rfl, rfl, rfl, rfl, rfl, rfl, rfl, rfl, rfl, rfl, rfl⟩

@[simp] theorem State.setR96_frame (s : State) (a n : Nat) :
    (s.setR96 a n).part = s.part ∧ (s.setR96 a n).pending = s.pending ∧ (s.setR96 a n).imgRegs = s.imgRegs ∧
    (s.setR96 a n).latch = s.latch ∧ (s.setR96 a n).staged = s.staged ∧ (s.setR96 a n).time = s.time ∧
    (s.setR96 a n).beat = s.beat ∧ (s.setR96 a n).nst = s.nst ∧ (s.setR96 a n).layout = s.layout ∧
    (s.setR96 a n).power = s.power ∧ (s.setR96 a n).pulse = s.pulse ∧ (s.setR96 a n).clk = s.clk ∧
    (s.setR96 a n).servo = s.servo ∧ (s.setR96 a n).chans = s.chans ∧ (s.setR96 a n).edges = s.edges ∧
    (s.setR96 a n).leap = s.leap ∧ (s.setR96 a n).flt = s.flt ∧ (s.setR96 a n).ports = s.ports ∧
    (s.setR96 a n).regions = s.regions ∧ (s.setR96 a n).regClks = s.regClks ∧ (s.setR96 a n).cnt = s.cnt ∧
    (s.setR96 a n).bar = s.bar ∧ (s.setR96 a n).spawn = s.spawn ∧ (s.setR96 a n).bulk = s.bulk ∧
    (s.setR96 a n).bonded = s.bonded ∧ (s.setR96 a n).stack = s.stack ∧ (s.setR96 a n).stackHot = s.stackHot ∧
    (s.setR96 a n).tiles = s.tiles ∧ (s.setR96 a n).pfx = s.pfx ∧ (s.setR96 a n).perf = s.perf ∧
    (s.setR96 a n).host = s.host ∧ (s.setR96 a n).load = s.load ∧ (s.setR96 a n).outs = s.outs ∧
    (s.setR96 a n).fresh = s.fresh :=
  ⟨rfl, rfl, rfl, rfl, rfl, rfl, rfl, rfl, rfl, rfl, rfl, rfl, rfl, rfl, rfl, rfl, rfl, rfl, rfl, rfl, rfl, rfl, rfl, rfl, rfl, rfl, rfl, rfl, rfl, rfl, rfl, rfl, rfl, rfl⟩

@[simp] theorem State.took_frame (s : State)  :
    s.took.part = s.part ∧ s.took.pending = s.pending ∧ s.took.regs = s.regs ∧ s.took.imgRegs = s.imgRegs ∧
    s.took.latch = s.latch ∧ s.took.staged = s.staged ∧ s.took.time = s.time ∧ s.took.beat = s.beat ∧
    s.took.nst = s.nst ∧ s.took.layout = s.layout ∧ s.took.power = s.power ∧ s.took.pulse = s.pulse ∧
    s.took.clk = s.clk ∧ s.took.servo = s.servo ∧ s.took.chans = s.chans ∧ s.took.edges = s.edges ∧
    s.took.leap = s.leap ∧ s.took.flt = s.flt ∧ s.took.ports = s.ports ∧ s.took.regions = s.regions ∧
    s.took.regClks = s.regClks ∧ s.took.cnt = s.cnt ∧ s.took.bar = s.bar ∧ s.took.spawn = s.spawn ∧
    s.took.bulk = s.bulk ∧ s.took.bonded = s.bonded ∧ s.took.stack = s.stack ∧ s.took.stackHot = s.stackHot ∧
    s.took.tiles = s.tiles ∧ s.took.pfx = s.pfx ∧ s.took.perf = s.perf ∧ s.took.host = s.host ∧
    s.took.load = s.load ∧ s.took.outs = s.outs :=
  ⟨rfl, rfl, rfl, rfl, rfl, rfl, rfl, rfl, rfl, rfl, rfl, rfl, rfl, rfl, rfl, rfl, rfl, rfl, rfl, rfl, rfl, rfl, rfl, rfl, rfl, rfl, rfl, rfl, rfl, rfl, rfl, rfl, rfl, rfl⟩

@[simp] theorem State.took_r (s : State)  (k : Nat) : s.took.r k = s.r k := rfl

@[simp] theorem State.took_rn (s : State)  (k : Nat) : s.took.rn k = s.rn k := rfl

@[simp] theorem State.took_f (s : State)  (G : Fld) : s.took.f G = s.f G := rfl

@[simp] theorem State.took_bit (s : State)  (G : Fld) : s.took.bit G = s.bit G := rfl

@[simp] theorem State.addTime_frame (s : State) (d : Int) :
    (s.addTime d).part = s.part ∧ (s.addTime d).pending = s.pending ∧ (s.addTime d).regs = s.regs ∧
    (s.addTime d).imgRegs = s.imgRegs ∧ (s.addTime d).latch = s.latch ∧ (s.addTime d).staged = s.staged ∧
    (s.addTime d).beat = s.beat ∧ (s.addTime d).nst = s.nst ∧ (s.addTime d).layout = s.layout ∧
    (s.addTime d).power = s.power ∧ (s.addTime d).pulse = s.pulse ∧ (s.addTime d).clk = s.clk ∧
    (s.addTime d).servo = s.servo ∧ (s.addTime d).chans = s.chans ∧ (s.addTime d).edges = s.edges ∧
    (s.addTime d).leap = s.leap ∧ (s.addTime d).flt = s.flt ∧ (s.addTime d).ports = s.ports ∧
    (s.addTime d).regions = s.regions ∧ (s.addTime d).regClks = s.regClks ∧ (s.addTime d).cnt = s.cnt ∧
    (s.addTime d).bar = s.bar ∧ (s.addTime d).spawn = s.spawn ∧ (s.addTime d).bulk = s.bulk ∧
    (s.addTime d).bonded = s.bonded ∧ (s.addTime d).stack = s.stack ∧ (s.addTime d).stackHot = s.stackHot ∧
    (s.addTime d).tiles = s.tiles ∧ (s.addTime d).pfx = s.pfx ∧ (s.addTime d).perf = s.perf ∧
    (s.addTime d).host = s.host ∧ (s.addTime d).load = s.load ∧ (s.addTime d).outs = s.outs ∧
    (s.addTime d).fresh = s.fresh :=
  ⟨rfl, rfl, rfl, rfl, rfl, rfl, rfl, rfl, rfl, rfl, rfl, rfl, rfl, rfl, rfl, rfl, rfl, rfl, rfl, rfl, rfl, rfl, rfl, rfl, rfl, rfl, rfl, rfl, rfl, rfl, rfl, rfl, rfl, rfl⟩

@[simp] theorem State.addTime_r (s : State) (d : Int) (k : Nat) : (s.addTime d).r k = s.r k := rfl

@[simp] theorem State.addTime_rn (s : State) (d : Int) (k : Nat) : (s.addTime d).rn k = s.rn k := rfl

@[simp] theorem State.addTime_f (s : State) (d : Int) (G : Fld) : (s.addTime d).f G = s.f G := rfl

@[simp] theorem State.addTime_bit (s : State) (d : Int) (G : Fld) : (s.addTime d).bit G = s.bit G := rfl

@[simp] theorem State.setPort_frame (s : State) (p : Nat) (x : Port) :
    (s.setPort p x).part = s.part ∧ (s.setPort p x).pending = s.pending ∧ (s.setPort p x).regs = s.regs ∧
    (s.setPort p x).imgRegs = s.imgRegs ∧ (s.setPort p x).latch = s.latch ∧ (s.setPort p x).staged = s.staged ∧
    (s.setPort p x).time = s.time ∧ (s.setPort p x).beat = s.beat ∧ (s.setPort p x).nst = s.nst ∧
    (s.setPort p x).layout = s.layout ∧ (s.setPort p x).power = s.power ∧ (s.setPort p x).pulse = s.pulse ∧
    (s.setPort p x).clk = s.clk ∧ (s.setPort p x).servo = s.servo ∧ (s.setPort p x).chans = s.chans ∧
    (s.setPort p x).edges = s.edges ∧ (s.setPort p x).leap = s.leap ∧ (s.setPort p x).flt = s.flt ∧
    (s.setPort p x).regions = s.regions ∧ (s.setPort p x).regClks = s.regClks ∧ (s.setPort p x).cnt = s.cnt ∧
    (s.setPort p x).bar = s.bar ∧ (s.setPort p x).spawn = s.spawn ∧ (s.setPort p x).bulk = s.bulk ∧
    (s.setPort p x).bonded = s.bonded ∧ (s.setPort p x).stack = s.stack ∧ (s.setPort p x).stackHot = s.stackHot ∧
    (s.setPort p x).tiles = s.tiles ∧ (s.setPort p x).pfx = s.pfx ∧ (s.setPort p x).perf = s.perf ∧
    (s.setPort p x).host = s.host ∧ (s.setPort p x).load = s.load ∧ (s.setPort p x).outs = s.outs ∧
    (s.setPort p x).fresh = s.fresh :=
  ⟨rfl, rfl, rfl, rfl, rfl, rfl, rfl, rfl, rfl, rfl, rfl, rfl, rfl, rfl, rfl, rfl, rfl, rfl, rfl, rfl, rfl, rfl, rfl, rfl, rfl, rfl, rfl, rfl, rfl, rfl, rfl, rfl, rfl, rfl⟩

@[simp] theorem State.setPort_r (s : State) (p : Nat) (x : Port) (k : Nat) : (s.setPort p x).r k = s.r k := rfl

@[simp] theorem State.setPort_rn (s : State) (p : Nat) (x : Port) (k : Nat) : (s.setPort p x).rn k = s.rn k := rfl

@[simp] theorem State.setPort_f (s : State) (p : Nat) (x : Port) (G : Fld) : (s.setPort p x).f G = s.f G := rfl

@[simp] theorem State.setPort_bit (s : State) (p : Nat) (x : Port) (G : Fld) : (s.setPort p x).bit G = s.bit G := rfl

@[simp] theorem State.modPort_frame (s : State) (p : Nat) (g : Port → Port) :
    (s.modPort p g).part = s.part ∧ (s.modPort p g).pending = s.pending ∧ (s.modPort p g).regs = s.regs ∧
    (s.modPort p g).imgRegs = s.imgRegs ∧ (s.modPort p g).latch = s.latch ∧ (s.modPort p g).staged = s.staged ∧
    (s.modPort p g).time = s.time ∧ (s.modPort p g).beat = s.beat ∧ (s.modPort p g).nst = s.nst ∧
    (s.modPort p g).layout = s.layout ∧ (s.modPort p g).power = s.power ∧ (s.modPort p g).pulse = s.pulse ∧
    (s.modPort p g).clk = s.clk ∧ (s.modPort p g).servo = s.servo ∧ (s.modPort p g).chans = s.chans ∧
    (s.modPort p g).edges = s.edges ∧ (s.modPort p g).leap = s.leap ∧ (s.modPort p g).flt = s.flt ∧
    (s.modPort p g).regions = s.regions ∧ (s.modPort p g).regClks = s.regClks ∧ (s.modPort p g).cnt = s.cnt ∧
    (s.modPort p g).bar = s.bar ∧ (s.modPort p g).spawn = s.spawn ∧ (s.modPort p g).bulk = s.bulk ∧
    (s.modPort p g).bonded = s.bonded ∧ (s.modPort p g).stack = s.stack ∧ (s.modPort p g).stackHot = s.stackHot ∧
    (s.modPort p g).tiles = s.tiles ∧ (s.modPort p g).pfx = s.pfx ∧ (s.modPort p g).perf = s.perf ∧
    (s.modPort p g).host = s.host ∧ (s.modPort p g).load = s.load ∧ (s.modPort p g).outs = s.outs ∧
    (s.modPort p g).fresh = s.fresh :=
  ⟨rfl, rfl, rfl, rfl, rfl, rfl, rfl, rfl, rfl, rfl, rfl, rfl, rfl, rfl, rfl, rfl, rfl, rfl, rfl, rfl, rfl, rfl, rfl, rfl, rfl, rfl, rfl, rfl, rfl, rfl, rfl, rfl, rfl, rfl⟩

@[simp] theorem State.modPort_r (s : State) (p : Nat) (g : Port → Port) (k : Nat) : (s.modPort p g).r k = s.r k := rfl

@[simp] theorem State.modPort_rn (s : State) (p : Nat) (g : Port → Port) (k : Nat) : (s.modPort p g).rn k = s.rn k := rfl

@[simp] theorem State.modPort_f (s : State) (p : Nat) (g : Port → Port) (G : Fld) : (s.modPort p g).f G = s.f G := rfl

@[simp] theorem State.modPort_bit (s : State) (p : Nat) (g : Port → Port) (G : Fld) : (s.modPort p g).bit G = s.bit G := rfl

@[simp] theorem State.evN_frame (s : State) (c i n : Nat) :
    (s.evN c i n).part = s.part ∧ (s.evN c i n).pending = s.pending ∧ (s.evN c i n).regs = s.regs ∧
    (s.evN c i n).imgRegs = s.imgRegs ∧ (s.evN c i n).latch = s.latch ∧ (s.evN c i n).staged = s.staged ∧
    (s.evN c i n).time = s.time ∧ (s.evN c i n).beat = s.beat ∧ (s.evN c i n).nst = s.nst ∧
    (s.evN c i n).layout = s.layout ∧ (s.evN c i n).power = s.power ∧ (s.evN c i n).pulse = s.pulse ∧
    (s.evN c i n).clk = s.clk ∧ (s.evN c i n).servo = s.servo ∧ (s.evN c i n).chans = s.chans ∧
    (s.evN c i n).edges = s.edges ∧ (s.evN c i n).leap = s.leap ∧ (s.evN c i n).flt = s.flt ∧
    (s.evN c i n).ports = s.ports ∧ (s.evN c i n).regions = s.regions ∧ (s.evN c i n).regClks = s.regClks ∧
    (s.evN c i n).cnt = s.cnt ∧ (s.evN c i n).bar = s.bar ∧ (s.evN c i n).spawn = s.spawn ∧
    (s.evN c i n).bulk = s.bulk ∧ (s.evN c i n).bonded = s.bonded ∧ (s.evN c i n).stack = s.stack ∧
    (s.evN c i n).stackHot = s.stackHot ∧ (s.evN c i n).tiles = s.tiles ∧ (s.evN c i n).pfx = s.pfx ∧
    (s.evN c i n).host = s.host ∧ (s.evN c i n).load = s.load ∧ (s.evN c i n).outs = s.outs ∧
    (s.evN c i n).fresh = s.fresh :=
  ⟨rfl, rfl, rfl, rfl, rfl, rfl, rfl, rfl, rfl, rfl, rfl, rfl, rfl, rfl, rfl, rfl, rfl, rfl, rfl, rfl, rfl, rfl, rfl, rfl, rfl, rfl, rfl, rfl, rfl, rfl, rfl, rfl, rfl, rfl⟩

@[simp] theorem State.evN_r (s : State) (c i n : Nat) (k : Nat) : (s.evN c i n).r k = s.r k := rfl

@[simp] theorem State.evN_rn (s : State) (c i n : Nat) (k : Nat) : (s.evN c i n).rn k = s.rn k := rfl

@[simp] theorem State.evN_f (s : State) (c i n : Nat) (G : Fld) : (s.evN c i n).f G = s.f G := rfl

@[simp] theorem State.evN_bit (s : State) (c i n : Nat) (G : Fld) : (s.evN c i n).bit G = s.bit G := rfl

@[simp] theorem State.ev_frame (s : State) (c i : Nat) :
    (s.ev c i).part = s.part ∧ (s.ev c i).pending = s.pending ∧ (s.ev c i).regs = s.regs ∧
    (s.ev c i).imgRegs = s.imgRegs ∧ (s.ev c i).latch = s.latch ∧ (s.ev c i).staged = s.staged ∧
    (s.ev c i).time = s.time ∧ (s.ev c i).beat = s.beat ∧ (s.ev c i).nst = s.nst ∧ (s.ev c i).layout = s.layout ∧
    (s.ev c i).power = s.power ∧ (s.ev c i).pulse = s.pulse ∧ (s.ev c i).clk = s.clk ∧ (s.ev c i).servo = s.servo ∧
    (s.ev c i).chans = s.chans ∧ (s.ev c i).edges = s.edges ∧ (s.ev c i).leap = s.leap ∧ (s.ev c i).flt = s.flt ∧
    (s.ev c i).ports = s.ports ∧ (s.ev c i).regions = s.regions ∧ (s.ev c i).regClks = s.regClks ∧
    (s.ev c i).cnt = s.cnt ∧ (s.ev c i).bar = s.bar ∧ (s.ev c i).spawn = s.spawn ∧ (s.ev c i).bulk = s.bulk ∧
    (s.ev c i).bonded = s.bonded ∧ (s.ev c i).stack = s.stack ∧ (s.ev c i).stackHot = s.stackHot ∧
    (s.ev c i).tiles = s.tiles ∧ (s.ev c i).pfx = s.pfx ∧ (s.ev c i).host = s.host ∧ (s.ev c i).load = s.load ∧
    (s.ev c i).outs = s.outs ∧ (s.ev c i).fresh = s.fresh :=
  ⟨rfl, rfl, rfl, rfl, rfl, rfl, rfl, rfl, rfl, rfl, rfl, rfl, rfl, rfl, rfl, rfl, rfl, rfl, rfl, rfl, rfl, rfl, rfl, rfl, rfl, rfl, rfl, rfl, rfl, rfl, rfl, rfl, rfl, rfl⟩

@[simp] theorem State.ev_r (s : State) (c i : Nat) (k : Nat) : (s.ev c i).r k = s.r k := rfl

@[simp] theorem State.ev_rn (s : State) (c i : Nat) (k : Nat) : (s.ev c i).rn k = s.rn k := rfl

@[simp] theorem State.ev_f (s : State) (c i : Nat) (G : Fld) : (s.ev c i).f G = s.f G := rfl

@[simp] theorem State.ev_bit (s : State) (c i : Nat) (G : Fld) : (s.ev c i).bit G = s.bit G := rfl

/-! Reads of registers through an update of any other fields. -/

@[simp ↓] theorem State.r_mk (s : State) (x0 x1 x2 x3 x4 x5 x6 x7 x8 x9 x10 x11 x12 x13 x14 x15 x16 x17 x18 x19 x20 x21 x22 x23 x24 x25 x26 x27 x28 x29 x30 x31 x32) (k : Nat) :
    State.r
      { s with pending := x0, imgRegs := x1, latch := x2, staged := x3, time := x4, beat := x5, nst
                := x6, layout := x7, power := x8, pulse := x9, clk := x10, servo := x11, chans := x12, edges :=
                x13, leap := x14, flt := x15, ports := x16, regions := x17, regClks := x18, cnt := x19, bar :=
                x20, spawn := x21, bulk := x22, bonded := x23, stack := x24, stackHot := x25, tiles := x26, pfx
                := x27, perf := x28, host := x29, load := x30, outs := x31, fresh := x32 } k = s.r k := rfl

@[simp ↓] theorem State.rn_mk (s : State) (x0 x1 x2 x3 x4 x5 x6 x7 x8 x9 x10 x11 x12 x13 x14 x15 x16 x17 x18 x19 x20 x21 x22 x23 x24 x25 x26 x27 x28 x29 x30 x31 x32) (k : Nat) :
    State.rn
      { s with pending := x0, imgRegs := x1, latch := x2, staged := x3, time := x4, beat := x5, nst
                := x6, layout := x7, power := x8, pulse := x9, clk := x10, servo := x11, chans := x12, edges :=
                x13, leap := x14, flt := x15, ports := x16, regions := x17, regClks := x18, cnt := x19, bar :=
                x20, spawn := x21, bulk := x22, bonded := x23, stack := x24, stackHot := x25, tiles := x26, pfx
                := x27, perf := x28, host := x29, load := x30, outs := x31, fresh := x32 } k = s.rn k := rfl

@[simp ↓] theorem State.f_mk (s : State) (x0 x1 x2 x3 x4 x5 x6 x7 x8 x9 x10 x11 x12 x13 x14 x15 x16 x17 x18 x19 x20 x21 x22 x23 x24 x25 x26 x27 x28 x29 x30 x31 x32) (G : Fld) :
    State.f
      { s with pending := x0, imgRegs := x1, latch := x2, staged := x3, time := x4, beat := x5, nst
                := x6, layout := x7, power := x8, pulse := x9, clk := x10, servo := x11, chans := x12, edges :=
                x13, leap := x14, flt := x15, ports := x16, regions := x17, regClks := x18, cnt := x19, bar :=
                x20, spawn := x21, bulk := x22, bonded := x23, stack := x24, stackHot := x25, tiles := x26, pfx
                := x27, perf := x28, host := x29, load := x30, outs := x31, fresh := x32 } G = s.f G := rfl

@[simp ↓] theorem State.bit_mk (s : State) (x0 x1 x2 x3 x4 x5 x6 x7 x8 x9 x10 x11 x12 x13 x14 x15 x16 x17 x18 x19 x20 x21 x22 x23 x24 x25 x26 x27 x28 x29 x30 x31 x32) (G : Fld) :
    State.bit
      { s with pending := x0, imgRegs := x1, latch := x2, staged := x3, time := x4, beat := x5, nst
                := x6, layout := x7, power := x8, pulse := x9, clk := x10, servo := x11, chans := x12, edges :=
                x13, leap := x14, flt := x15, ports := x16, regions := x17, regClks := x18, cnt := x19, bar :=
                x20, spawn := x21, bulk := x22, bonded := x23, stack := x24, stackHot := x25, tiles := x26, pfx
                := x27, perf := x28, host := x29, load := x30, outs := x31, fresh := x32 } G = s.bit G := rfl

end Sys2Proof.Machine
end

