-- ==== Sys2Proof/Laws/Kept.lean ====
section
/-! SUPPORT. What no operation of a command changes: the part and the queue of waiting commands; and, for every operation
that writes no memory, bonded memory and stack space. One lemma per operation, which simp reads as one rule per field. -/

set_option maxRecDepth 4000

namespace Sys2Proof.Machine

/-! ### Base -/

@[simp] theorem State.part_ite (c : Prop) [Decidable c] (a b : State) :
    (if c then a else b).part = if c then a.part else b.part := by split <;> rfl
@[simp] theorem State.pending_ite (c : Prop) [Decidable c] (a b : State) :
    (if c then a else b).pending = if c then a.pending else b.pending := by split <;> rfl
@[simp] theorem State.bonded_ite (c : Prop) [Decidable c] (a b : State) :
    (if c then a else b).bonded = if c then a.bonded else b.bonded := by split <;> rfl
@[simp] theorem State.stack_ite (c : Prop) [Decidable c] (a b : State) :
    (if c then a else b).stack = if c then a.stack else b.stack := by split <;> rfl
@[simp] theorem Cyc.s_ite (c : Prop) [Decidable c] (a b : Cyc) :
    (if c then a else b).s = if c then a.s else b.s := by split <;> rfl
@[simp] theorem State.each_part {α : Type} (s : State) (l : List α) (g : State → α → State)
    (h : ∀ x a, (g x a).part = x.part) : (s.each l g).part = s.part := by
  unfold State.each
  induction l generalizing s with
  | nil => rfl
  | cons a l ih => rw [List.foldl_cons, ih, h]
@[simp] theorem State.each_pending {α : Type} (s : State) (l : List α) (g : State → α → State)
    (h : ∀ x a, (g x a).pending = x.pending) : (s.each l g).pending = s.pending := by
  unfold State.each
  induction l generalizing s with
  | nil => rfl
  | cons a l ih => rw [List.foldl_cons, ih, h]
@[simp] theorem State.each_bonded {α : Type} (s : State) (l : List α) (g : State → α → State)
    (h : ∀ x a, (g x a).bonded = x.bonded) : (s.each l g).bonded = s.bonded := by
  unfold State.each
  induction l generalizing s with
  | nil => rfl
  | cons a l ih => rw [List.foldl_cons, ih, h]
@[simp] theorem State.each_stack {α : Type} (s : State) (l : List α) (g : State → α → State)
    (h : ∀ x a, (g x a).stack = x.stack) : (s.each l g).stack = s.stack := by
  unfold State.each
  induction l generalizing s with
  | nil => rfl
  | cons a l ih => rw [List.foldl_cons, ih, h]
@[simp] theorem State.foldl_part {α : Type} (s : State) (l : List α) (g : State → α → State)
    (h : ∀ x a, (g x a).part = x.part) : (l.foldl g s).part = s.part := by
  induction l generalizing s with
  | nil => rfl
  | cons a l ih => rw [List.foldl_cons, ih, h]
@[simp] theorem Cyc.foldl_part {α : Type} (y : Cyc) (l : List α) (g : Cyc → α → Cyc)
    (h : ∀ x a, (g x a).s.part = x.s.part) : (l.foldl g y).s.part = y.s.part := by
  induction l generalizing y with
  | nil => rfl
  | cons a l ih => rw [List.foldl_cons, ih, h]
@[simp] theorem State.foldl_fst_part {α β : Type} (y : State × β) (l : List α) (g : State × β → α → State × β)
    (h : ∀ x a, (g x a).1.part = x.1.part) : (l.foldl g y).1.part = y.1.part := by
  induction l generalizing y with
  | nil => rfl
  | cons a l ih => rw [List.foldl_cons, ih, h]
@[simp] theorem State.foldl_pending {α : Type} (s : State) (l : List α) (g : State → α → State)
    (h : ∀ x a, (g x a).pending = x.pending) : (l.foldl g s).pending = s.pending := by
  induction l generalizing s with
  | nil => rfl
  | cons a l ih => rw [List.foldl_cons, ih, h]
@[simp] theorem Cyc.foldl_pending {α : Type} (y : Cyc) (l : List α) (g : Cyc → α → Cyc)
    (h : ∀ x a, (g x a).s.pending = x.s.pending) : (l.foldl g y).s.pending = y.s.pending := by
  induction l generalizing y with
  | nil => rfl
  | cons a l ih => rw [List.foldl_cons, ih, h]
@[simp] theorem State.foldl_fst_pending {α β : Type} (y : State × β) (l : List α) (g : State × β → α → State × β)
    (h : ∀ x a, (g x a).1.pending = x.1.pending) : (l.foldl g y).1.pending = y.1.pending := by
  induction l generalizing y with
  | nil => rfl
  | cons a l ih => rw [List.foldl_cons, ih, h]
@[simp] theorem State.foldl_bonded {α : Type} (s : State) (l : List α) (g : State → α → State)
    (h : ∀ x a, (g x a).bonded = x.bonded) : (l.foldl g s).bonded = s.bonded := by
  induction l generalizing s with
  | nil => rfl
  | cons a l ih => rw [List.foldl_cons, ih, h]
@[simp] theorem Cyc.foldl_bonded {α : Type} (y : Cyc) (l : List α) (g : Cyc → α → Cyc)
    (h : ∀ x a, (g x a).s.bonded = x.s.bonded) : (l.foldl g y).s.bonded = y.s.bonded := by
  induction l generalizing y with
  | nil => rfl
  | cons a l ih => rw [List.foldl_cons, ih, h]
@[simp] theorem State.foldl_fst_bonded {α β : Type} (y : State × β) (l : List α) (g : State × β → α → State × β)
    (h : ∀ x a, (g x a).1.bonded = x.1.bonded) : (l.foldl g y).1.bonded = y.1.bonded := by
  induction l generalizing y with
  | nil => rfl
  | cons a l ih => rw [List.foldl_cons, ih, h]
@[simp] theorem State.foldl_stack {α : Type} (s : State) (l : List α) (g : State → α → State)
    (h : ∀ x a, (g x a).stack = x.stack) : (l.foldl g s).stack = s.stack := by
  induction l generalizing s with
  | nil => rfl
  | cons a l ih => rw [List.foldl_cons, ih, h]
@[simp] theorem Cyc.foldl_stack {α : Type} (y : Cyc) (l : List α) (g : Cyc → α → Cyc)
    (h : ∀ x a, (g x a).s.stack = x.s.stack) : (l.foldl g y).s.stack = y.s.stack := by
  induction l generalizing y with
  | nil => rfl
  | cons a l ih => rw [List.foldl_cons, ih, h]
@[simp] theorem State.foldl_fst_stack {α β : Type} (y : State × β) (l : List α) (g : State × β → α → State × β)
    (h : ∀ x a, (g x a).1.stack = x.1.stack) : (l.foldl g y).1.stack = y.1.stack := by
  induction l generalizing y with
  | nil => rfl
  | cons a l ih => rw [List.foldl_cons, ih, h]

/-! ### Ops -/

@[simp] theorem State.hit_kept (s : State) (F : Fld) :
    (State.hit s F).part = s.part ∧ (State.hit s F).pending = s.pending ∧ (State.hit s F).bonded = s.bonded ∧
    (State.hit s F).stack = s.stack := by
  simp [State.hit]

@[simp] theorem State.settle_kept (s : State) (a : Nat) :
    (State.settle s a).part = s.part ∧ (State.settle s a).pending = s.pending ∧
    (State.settle s a).bonded = s.bonded ∧ (State.settle s a).stack = s.stack := by
  simp [State.settle]

@[simp] theorem State.before_kept (s : State) :
    (State.before s).part = s.part ∧ (State.before s).pending = s.pending ∧ (State.before s).bonded = s.bonded ∧
    (State.before s).stack = s.stack := by
  simp [State.before]

@[simp] theorem State.sendCtrl_kept (s : State) (p : Nat) (m : Msg) :
    (State.sendCtrl s p m).part = s.part ∧ (State.sendCtrl s p m).pending = s.pending ∧
    (State.sendCtrl s p m).bonded = s.bonded ∧ (State.sendCtrl s p m).stack = s.stack := by
  simp [State.sendCtrl]

@[simp] theorem State.sendAll_kept (s : State) (ps : List Nat) (m : Msg) :
    (State.sendAll s ps m).part = s.part ∧ (State.sendAll s ps m).pending = s.pending ∧
    (State.sendAll s ps m).bonded = s.bonded ∧ (State.sendAll s ps m).stack = s.stack := by
  simp [State.sendAll]

@[simp] theorem State.sendDown_kept (s : State) (m : Msg) :
    (State.sendDown s m).part = s.part ∧ (State.sendDown s m).pending = s.pending ∧
    (State.sendDown s m).bonded = s.bonded ∧ (State.sendDown s m).stack = s.stack := by
  simp [State.sendDown]

@[simp] theorem State.sendUp_kept (s : State) (m : Msg) :
    (State.sendUp s m).part = s.part ∧ (State.sendUp s m).pending = s.pending ∧
    (State.sendUp s m).bonded = s.bonded ∧ (State.sendUp s m).stack = s.stack := by
  simp [State.sendUp]

@[simp] theorem State.sendNotice_kept (s : State) (p : Nat) (nkind : Nat) (cause : Nat) :
    (State.sendNotice s p nkind cause).part = s.part ∧ (State.sendNotice s p nkind cause).pending = s.pending ∧
    (State.sendNotice s p nkind cause).bonded = s.bonded ∧
    (State.sendNotice s p nkind cause).stack = s.stack := by
  simp [State.sendNotice]

@[simp] theorem State.logDma_kept (s : State) (rkind : Nat) (idx : Nat) (ws : List Nat) :
    (State.logDma s rkind idx ws).part = s.part ∧ (State.logDma s rkind idx ws).pending = s.pending ∧
    (State.logDma s rkind idx ws).bonded = s.bonded ∧ (State.logDma s rkind idx ws).stack = s.stack := by
  simp [State.logDma]

@[simp] theorem State.log_kept (s : State) (code : Nat) (arg : Nat) :
    (State.log s code arg).part = s.part ∧ (State.log s code arg).pending = s.pending ∧
    (State.log s code arg).bonded = s.bonded ∧ (State.log s code arg).stack = s.stack := by
  simp [State.log]

@[simp] theorem State.enter_kept (s : State) (n : NodeState) :
    (State.enter s n).part = s.part ∧ (State.enter s n).pending = s.pending ∧ (State.enter s n).bonded = s.bonded ∧
    (State.enter s n).stack = s.stack := by
  simp [State.enter]

/-! ### Tdc -/

@[simp] theorem State.setChan_kept (s : State) (c : Nat) (x : Chan) :
    (State.setChan s c x).part = s.part ∧ (State.setChan s c x).pending = s.pending ∧
    (State.setChan s c x).bonded = s.bonded ∧ (State.setChan s c x).stack = s.stack := by
  simp [State.setChan]

@[simp] theorem State.clearBlock_kept (s : State) (c : Nat) :
    (State.clearBlock s c).part = s.part ∧ (State.clearBlock s c).pending = s.pending ∧
    (State.clearBlock s c).bonded = s.bonded ∧ (State.clearBlock s c).stack = s.stack := by
  simp [State.clearBlock]

@[simp] theorem State.tdcDrop_kept (s : State) (c : Nat) (lo : Nat) :
    (State.tdcDrop s c lo).part = s.part ∧ (State.tdcDrop s c lo).pending = s.pending ∧
    (State.tdcDrop s c lo).bonded = s.bonded ∧ (State.tdcDrop s c lo).stack = s.stack := by
  simp [State.tdcDrop]

@[simp] theorem State.endBlock_kept (s : State) (c : Nat) (n : Nat) :
    (State.endBlock s c n).part = s.part ∧ (State.endBlock s c n).pending = s.pending ∧
    (State.endBlock s c n).bonded = s.bonded ∧ (State.endBlock s c n).stack = s.stack := by
  simp [State.endBlock]

@[simp] theorem State.sample_kept (s : State) (c : Nat) (v : Int) :
    (State.sample s c v).part = s.part ∧ (State.sample s c v).pending = s.pending ∧
    (State.sample s c v).bonded = s.bonded ∧ (State.sample s c v).stack = s.stack := by
  simp [State.sample]

@[simp] theorem State.chEdge_kept (s : State) (src : Nat) (t : Int) (c : Nat) :
    (State.chEdge s src t c).part = s.part ∧ (State.chEdge s src t c).pending = s.pending ∧
    (State.chEdge s src t c).bonded = s.bonded ∧ (State.chEdge s src t c).stack = s.stack := by
  unfold State.chEdge
  refine ⟨?_, ?_, ?_, ?_⟩ <;> repeat' first | split | simp

@[simp] theorem State.tdcEdge_kept (s : State) (src : Nat) (t : Int) :
    (State.tdcEdge s src t).part = s.part ∧ (State.tdcEdge s src t).pending = s.pending ∧
    (State.tdcEdge s src t).bonded = s.bonded ∧ (State.tdcEdge s src t).stack = s.stack := by
  simp [State.tdcEdge]

@[simp] theorem State.tdcOffset_kept (s : State) (src : Nat) (v : Int) :
    (State.tdcOffset s src v).part = s.part ∧ (State.tdcOffset s src v).pending = s.pending ∧
    (State.tdcOffset s src v).bonded = s.bonded ∧ (State.tdcOffset s src v).stack = s.stack := by
  simp [State.tdcOffset]

@[simp] theorem State.tdcNow_kept (s : State) (src : Nat) :
    (State.tdcNow s src).part = s.part ∧ (State.tdcNow s src).pending = s.pending ∧
    (State.tdcNow s src).bonded = s.bonded ∧ (State.tdcNow s src).stack = s.stack := by
  simp [State.tdcNow]

@[simp] theorem State.chCtrlWrite_kept (s : State) (c : Nat) (v : Nat) :
    (State.chCtrlWrite s c v).part = s.part ∧ (State.chCtrlWrite s c v).pending = s.pending ∧
    (State.chCtrlWrite s c v).bonded = s.bonded ∧ (State.chCtrlWrite s c v).stack = s.stack := by
  simp [State.chCtrlWrite]

/-! ### RegionOps -/

@[simp] theorem State.setRegion_kept (s : State) (r : Nat) (x : Region) :
    (State.setRegion s r x).part = s.part ∧ (State.setRegion s r x).pending = s.pending ∧
    (State.setRegion s r x).bonded = s.bonded ∧ (State.setRegion s r x).stack = s.stack := by
  simp [State.setRegion]

@[simp] theorem State.setRegClk_kept (s : State) (r : Nat) (x : RegClk) :
    (State.setRegClk s r x).part = s.part ∧ (State.setRegClk s r x).pending = s.pending ∧
    (State.setRegClk s r x).bonded = s.bonded ∧ (State.setRegClk s r x).stack = s.stack := by
  simp [State.setRegClk]

@[simp] theorem State.runRegion_kept (s : State) (r : Nat) :
    (State.runRegion s r).part = s.part ∧ (State.runRegion s r).pending = s.pending ∧
    (State.runRegion s r).bonded = s.bonded ∧ (State.runRegion s r).stack = s.stack := by
  simp [State.runRegion]

@[simp] theorem State.runRegions_kept (s : State) :
    (State.runRegions s).part = s.part ∧ (State.runRegions s).pending = s.pending ∧
    (State.runRegions s).bonded = s.bonded ∧ (State.runRegions s).stack = s.stack := by
  simp [State.runRegions]

@[simp] theorem State.setFreq_kept (s : State) (r : Nat) (f : Nat) :
    (State.setFreq s r f).part = s.part ∧ (State.setFreq s r f).pending = s.pending ∧
    (State.setFreq s r f).bonded = s.bonded ∧ (State.setFreq s r f).stack = s.stack := by
  simp [State.setFreq]

@[simp] theorem State.monitor_kept (s : State) :
    (State.monitor s).part = s.part ∧ (State.monitor s).pending = s.pending ∧ (State.monitor s).bonded = s.bonded ∧
    (State.monitor s).stack = s.stack := by
  simp [State.monitor]

@[simp] theorem State.setVset_kept (s : State) (r : Nat) (v : Nat) :
    (State.setVset s r v).part = s.part ∧ (State.setVset s r v).pending = s.pending ∧
    (State.setVset s r v).bonded = s.bonded ∧ (State.setVset s r v).stack = s.stack := by
  simp [State.setVset]

@[simp] theorem State.markCaps_kept (s : State) (r : Nat) :
    (State.markCaps s r).part = s.part ∧ (State.markCaps s r).pending = s.pending ∧
    (State.markCaps s r).bonded = s.bonded ∧ (State.markCaps s r).stack = s.stack := by
  simp [State.markCaps]

@[simp] theorem State.noteRegion_kept (s : State) (r : Nat) :
    (State.noteRegion s r).part = s.part ∧ (State.noteRegion s r).pending = s.pending ∧
    (State.noteRegion s r).bonded = s.bonded ∧ (State.noteRegion s r).stack = s.stack := by
  simp [State.noteRegion]

@[simp] theorem State.dropMoves_kept (s : State) (r : Nat) :
    (State.dropMoves s r).part = s.part ∧ (State.dropMoves s r).pending = s.pending ∧
    (State.dropMoves s r).bonded = s.bonded ∧ (State.dropMoves s r).stack = s.stack := by
  unfold State.dropMoves
  refine ⟨?_, ?_, ?_, ?_⟩ <;> repeat' first | split | simp

@[simp] theorem State.dropCap_kept (s : State) (r : Nat) :
    (State.dropCap s r).part = s.part ∧ (State.dropCap s r).pending = s.pending ∧
    (State.dropCap s r).bonded = s.bonded ∧ (State.dropCap s r).stack = s.stack := by
  unfold State.dropCap
  refine ⟨?_, ?_, ?_, ?_⟩ <;> repeat' first | split | simp

@[simp] theorem State.dropCaps_kept (s : State) :
    (State.dropCaps s).part = s.part ∧ (State.dropCaps s).pending = s.pending ∧
    (State.dropCaps s).bonded = s.bonded ∧ (State.dropCaps s).stack = s.stack := by
  simp [State.dropCaps]

@[simp] theorem State.switchRegion_kept (s : State) (p : Nat) (r : Nat) :
    (State.switchRegion s p r).part = s.part ∧ (State.switchRegion s p r).pending = s.pending ∧
    (State.switchRegion s p r).bonded = s.bonded ∧ (State.switchRegion s p r).stack = s.stack := by
  simp [State.switchRegion]

@[simp] theorem State.switchProfile_kept (s : State) (p : Nat) :
    (State.switchProfile s p).part = s.part ∧ (State.switchProfile s p).pending = s.pending ∧
    (State.switchProfile s p).bonded = s.bonded ∧ (State.switchProfile s p).stack = s.stack := by
  simp [State.switchProfile]

@[simp] theorem State.driveSwitch_kept (s : State) (p : Nat) (t : Nat) (h : Nat) :
    (State.driveSwitch s p t h).part = s.part ∧ (State.driveSwitch s p t h).pending = s.pending ∧
    (State.driveSwitch s p t h).bonded = s.bonded ∧ (State.driveSwitch s p t h).stack = s.stack := by
  simp [State.driveSwitch]

@[simp] theorem State.switchStrobe_kept (s : State) (p : Nat) (t : Nat) :
    (State.switchStrobe s p t).part = s.part ∧ (State.switchStrobe s p t).pending = s.pending ∧
    (State.switchStrobe s p t).bonded = s.bonded ∧ (State.switchStrobe s p t).stack = s.stack := by
  simp [State.switchStrobe]

@[simp] theorem State.voltReached_kept (s : State) (r : Nat) :
    (State.voltReached s r).part = s.part ∧ (State.voltReached s r).pending = s.pending ∧
    (State.voltReached s r).bonded = s.bonded ∧ (State.voltReached s r).stack = s.stack := by
  simp [State.voltReached]

@[simp] theorem State.settleRise_kept (s : State) (r : Nat) :
    (State.settleRise s r).part = s.part ∧ (State.settleRise s r).pending = s.pending ∧
    (State.settleRise s r).bonded = s.bonded ∧ (State.settleRise s r).stack = s.stack := by
  simp [State.settleRise]

@[simp] theorem State.holdVolts_kept (s : State) :
    (State.holdVolts s).part = s.part ∧ (State.holdVolts s).pending = s.pending ∧
    (State.holdVolts s).bonded = s.bonded ∧ (State.holdVolts s).stack = s.stack := by
  simp [State.holdVolts]

@[simp] theorem State.unpin_kept (s : State) (r : Nat) :
    (State.unpin s r).part = s.part ∧ (State.unpin s r).pending = s.pending ∧ (State.unpin s r).bonded = s.bonded ∧
    (State.unpin s r).stack = s.stack := by
  simp [State.unpin]

@[simp] theorem State.latchStretch_kept (s : State) :
    (State.latchStretch s).part = s.part ∧ (State.latchStretch s).pending = s.pending ∧
    (State.latchStretch s).bonded = s.bonded ∧ (State.latchStretch s).stack = s.stack := by
  simp [State.latchStretch]

@[simp] theorem State.addStretch_kept (s : State) (r : Nat) (n : Nat) :
    (State.addStretch s r n).part = s.part ∧ (State.addStretch s r n).pending = s.pending ∧
    (State.addStretch s r n).bonded = s.bonded ∧ (State.addStretch s r n).stack = s.stack := by
  simp [State.addStretch]

/-! ### Fence -/

@[simp] theorem State.snapshot_kept (s : State) (kind : Nat) (source : Nat) :
    (State.snapshot s kind source).part = s.part ∧ (State.snapshot s kind source).pending = s.pending ∧
    (State.snapshot s kind source).bonded = s.bonded ∧ (State.snapshot s kind source).stack = s.stack := by
  simp [State.snapshot]

@[simp] theorem State.setRpt_kept (s : State) (g : StepFlags → StepFlags) :
    (State.setRpt s g).part = s.part ∧ (State.setRpt s g).pending = s.pending ∧
    (State.setRpt s g).bonded = s.bonded ∧ (State.setRpt s g).stack = s.stack := by
  simp [State.setRpt]

@[simp] theorem State.stepReport_kept (s : State) (halted : Bool) :
    (State.stepReport s halted).part = s.part ∧ (State.stepReport s halted).pending = s.pending ∧
    (State.stepReport s halted).bonded = s.bonded ∧ (State.stepReport s halted).stack = s.stack := by
  simp [State.stepReport]

@[simp] theorem State.sendFail_kept (s : State) (cause : Nat) (lo : Nat) (node : Nat) :
    (State.sendFail s cause lo node).part = s.part ∧ (State.sendFail s cause lo node).pending = s.pending ∧
    (State.sendFail s cause lo node).bonded = s.bonded ∧ (State.sendFail s cause lo node).stack = s.stack := by
  simp [State.sendFail]

@[simp] theorem State.formFailAt_kept (s : State) (cause : Nat) (lo : Nat) (node : Nat) :
    (State.formFailAt s cause lo node).part = s.part ∧ (State.formFailAt s cause lo node).pending = s.pending ∧
    (State.formFailAt s cause lo node).bonded = s.bonded ∧
    (State.formFailAt s cause lo node).stack = s.stack := by
  simp [State.formFailAt]

@[simp] theorem State.formFail_kept (s : State) (cause : Nat) (node : Nat) :
    (State.formFail s cause node).part = s.part ∧ (State.formFail s cause node).pending = s.pending ∧
    (State.formFail s cause node).bonded = s.bonded ∧ (State.formFail s cause node).stack = s.stack := by
  simp [State.formFail]

@[simp] theorem State.combineCack_kept (s : State) :
    (State.combineCack s).part = s.part ∧ (State.combineCack s).pending = s.pending ∧
    (State.combineCack s).bonded = s.bonded ∧ (State.combineCack s).stack = s.stack := by
  simp [State.combineCack]

@[simp] theorem State.recordsDue_kept (s : State) :
    (State.recordsDue s).part = s.part ∧ (State.recordsDue s).pending = s.pending ∧
    (State.recordsDue s).bonded = s.bonded ∧ (State.recordsDue s).stack = s.stack := by
  simp [State.recordsDue]

@[simp] theorem State.spawnReport_kept (s : State) :
    (State.spawnReport s).part = s.part ∧ (State.spawnReport s).pending = s.pending ∧
    (State.spawnReport s).bonded = s.bonded ∧ (State.spawnReport s).stack = s.stack := by
  simp [State.spawnReport]

@[simp] theorem State.dropResid_kept (s : State) (i : Nat) :
    (State.dropResid s i).part = s.part ∧ (State.dropResid s i).pending = s.pending ∧
    (State.dropResid s i).bonded = s.bonded ∧ (State.dropResid s i).stack = s.stack := by
  simp [State.dropResid]

@[simp] theorem State.clFree_kept (s : State) (i : Nat) :
    (State.clFree s i).part = s.part ∧ (State.clFree s i).pending = s.pending ∧
    (State.clFree s i).bonded = s.bonded ∧ (State.clFree s i).stack = s.stack := by
  simp [State.clFree]

@[simp] theorem State.clEvictAll_kept (s : State) :
    (State.clEvictAll s).part = s.part ∧ (State.clEvictAll s).pending = s.pending ∧
    (State.clEvictAll s).bonded = s.bonded ∧ (State.clEvictAll s).stack = s.stack := by
  simp [State.clEvictAll]

@[simp] theorem State.disarm_kept (s : State) :
    (State.disarm s).part = s.part ∧ (State.disarm s).pending = s.pending ∧ (State.disarm s).bonded = s.bonded ∧
    (State.disarm s).stack = s.stack := by
  simp [State.disarm]

@[simp] theorem State.dropLaunch_kept (s : State) :
    (State.dropLaunch s).part = s.part ∧ (State.dropLaunch s).pending = s.pending ∧
    (State.dropLaunch s).bonded = s.bonded ∧ (State.dropLaunch s).stack = s.stack := by
  simp [State.dropLaunch]

@[simp] theorem State.enterHalt_kept (s : State) (cause : Nat) :
    (State.enterHalt s cause).part = s.part ∧ (State.enterHalt s cause).pending = s.pending ∧
    (State.enterHalt s cause).bonded = s.bonded ∧ (State.enterHalt s cause).stack = s.stack := by
  simp [State.enterHalt]

@[simp] theorem State.enterStop_kept (s : State) :
    (State.enterStop s).part = s.part ∧ (State.enterStop s).pending = s.pending ∧
    (State.enterStop s).bonded = s.bonded ∧ (State.enterStop s).stack = s.stack := by
  simp [State.enterStop]

@[simp] theorem State.selfFence_kept (s : State) (trigger : Nat) :
    (State.selfFence s trigger).part = s.part ∧ (State.selfFence s trigger).pending = s.pending ∧
    (State.selfFence s trigger).bonded = s.bonded ∧ (State.selfFence s trigger).stack = s.stack := by
  simp [State.selfFence]

@[simp] theorem State.stopPrograms_kept (s : State) :
    (State.stopPrograms s).part = s.part ∧ (State.stopPrograms s).pending = s.pending ∧
    (State.stopPrograms s).bonded = s.bonded ∧ (State.stopPrograms s).stack = s.stack := by
  simp [State.stopPrograms]

@[simp] theorem State.geckoHalt_kept (s : State) (arg : Nat) (links : Bool) :
    (State.geckoHalt s arg links).part = s.part ∧ (State.geckoHalt s arg links).pending = s.pending ∧
    (State.geckoHalt s arg links).bonded = s.bonded ∧ (State.geckoHalt s arg links).stack = s.stack := by
  simp [State.geckoHalt]

@[simp] theorem State.recordFence_kept (s : State) (p : Nat) (cause : Nat) :
    (State.recordFence s p cause).part = s.part ∧ (State.recordFence s p cause).pending = s.pending ∧
    (State.recordFence s p cause).bonded = s.bonded ∧ (State.recordFence s p cause).stack = s.stack := by
  simp [State.recordFence]

@[simp] theorem State.applyFence_kept (s : State) (p : Nat) (cause : Nat) :
    (State.applyFence s p cause).part = s.part ∧ (State.applyFence s p cause).pending = s.pending ∧
    (State.applyFence s p cause).bonded = s.bonded ∧ (State.applyFence s p cause).stack = s.stack := by
  simp [State.applyFence]

@[simp] theorem State.eftLost_kept (s : State) (e : Nat) :
    (State.eftLost s e).part = s.part ∧ (State.eftLost s e).pending = s.pending ∧
    (State.eftLost s e).bonded = s.bonded ∧ (State.eftLost s e).stack = s.stack := by
  simp [State.eftLost]

@[simp] theorem State.eftEnd_kept (s : State) (e : Nat) (cause : Nat) :
    (State.eftEnd s e cause).part = s.part ∧ (State.eftEnd s e cause).pending = s.pending ∧
    (State.eftEnd s e cause).bonded = s.bonded ∧ (State.eftEnd s e cause).stack = s.stack := by
  simp [State.eftEnd]

@[simp] theorem State.fenceChild_kept (s : State) (p : Nat) (cause : Nat) :
    (State.fenceChild s p cause).part = s.part ∧ (State.fenceChild s p cause).pending = s.pending ∧
    (State.fenceChild s p cause).bonded = s.bonded ∧ (State.fenceChild s p cause).stack = s.stack := by
  simp [State.fenceChild]

@[simp] theorem State.utcDrop_kept (s : State) :
    (State.utcDrop s).part = s.part ∧ (State.utcDrop s).pending = s.pending ∧ (State.utcDrop s).bonded = s.bonded ∧
    (State.utcDrop s).stack = s.stack := by
  simp [State.utcDrop]

@[simp] theorem State.utcCheck_kept (s : State) :
    (State.utcCheck s).part = s.part ∧ (State.utcCheck s).pending = s.pending ∧
    (State.utcCheck s).bonded = s.bonded ∧ (State.utcCheck s).stack = s.stack := by
  simp [State.utcCheck]

@[simp] theorem State.utcClaim_kept (s : State) :
    (State.utcClaim s).part = s.part ∧ (State.utcClaim s).pending = s.pending ∧
    (State.utcClaim s).bonded = s.bonded ∧ (State.utcClaim s).stack = s.stack := by
  simp [State.utcClaim]

@[simp] theorem State.tune_kept (s : State) :
    (State.tune s).part = s.part ∧ (State.tune s).pending = s.pending ∧ (State.tune s).bonded = s.bonded ∧
    (State.tune s).stack = s.stack := by
  simp [State.tune]

@[simp] theorem State.spawnResume_kept (s : State) (ps : List Nat) (frm : Nat) :
    (State.spawnResume s ps frm).part = s.part ∧ (State.spawnResume s ps frm).pending = s.pending ∧
    (State.spawnResume s ps frm).bonded = s.bonded ∧ (State.spawnResume s ps frm).stack = s.stack := by
  simp [State.spawnResume]

@[simp] theorem State.selMove_kept (s : State) (c : Nat) :
    (State.selMove s c).part = s.part ∧ (State.selMove s c).pending = s.pending ∧
    (State.selMove s c).bonded = s.bonded ∧ (State.selMove s c).stack = s.stack := by
  simp [State.selMove]

@[simp] theorem State.unqualify_kept (s : State) (c : Nat) :
    (State.unqualify s c).part = s.part ∧ (State.unqualify s c).pending = s.pending ∧
    (State.unqualify s c).bonded = s.bonded ∧ (State.unqualify s c).stack = s.stack := by
  unfold State.unqualify
  refine ⟨?_, ?_, ?_, ?_⟩ <;> repeat' first | split | simp

@[simp] theorem State.selector_kept (s : State) :
    (State.selector s).part = s.part ∧ (State.selector s).pending = s.pending ∧
    (State.selector s).bonded = s.bonded ∧ (State.selector s).stack = s.stack := by
  simp only [State.selector]
  refine ⟨?_, ?_, ?_, ?_⟩ <;> repeat' first | split | simp

@[simp] theorem State.issueHalt_kept (s : State) (cause : Nat) :
    (State.issueHalt s cause).part = s.part ∧ (State.issueHalt s cause).pending = s.pending ∧
    (State.issueHalt s cause).bonded = s.bonded ∧ (State.issueHalt s cause).stack = s.stack := by
  simp [State.issueHalt]

@[simp] theorem State.takeover_kept (s : State) :
    (State.takeover s).part = s.part ∧ (State.takeover s).pending = s.pending ∧
    (State.takeover s).bonded = s.bonded ∧ (State.takeover s).stack = s.stack := by
  simp [State.takeover]

@[simp] theorem State.deadCandidate_kept (s : State) (c : Nat) :
    (State.deadCandidate s c).part = s.part ∧ (State.deadCandidate s c).pending = s.pending ∧
    (State.deadCandidate s c).bonded = s.bonded ∧ (State.deadCandidate s c).stack = s.stack := by
  simp [State.deadCandidate]

@[simp] theorem State.declareDead_kept (s : State) (p : Nat) (cause : Nat) :
    (State.declareDead s p cause).part = s.part ∧ (State.declareDead s p cause).pending = s.pending ∧
    (State.declareDead s p cause).bonded = s.bonded ∧ (State.declareDead s p cause).stack = s.stack := by
  unfold State.declareDead
  refine ⟨?_, ?_, ?_, ?_⟩ <;> repeat' first | split | simp

/-! ### NodeState -/

@[simp] theorem State.enterLive_kept (s : State) :
    (State.enterLive s).part = s.part ∧ (State.enterLive s).pending = s.pending ∧
    (State.enterLive s).bonded = s.bonded ∧ (State.enterLive s).stack = s.stack := by
  simp [State.enterLive]

@[simp] theorem State.advance_kept (s : State) :
    (State.advance s).part = s.part ∧ (State.advance s).pending = s.pending ∧ (State.advance s).bonded = s.bonded ∧
    (State.advance s).stack = s.stack := by
  simp [State.advance]

@[simp] theorem State.lockLost_kept (s : State) :
    (State.lockLost s).part = s.part ∧ (State.lockLost s).pending = s.pending ∧
    (State.lockLost s).bonded = s.bonded ∧ (State.lockLost s).stack = s.stack := by
  unfold State.lockLost
  refine ⟨?_, ?_, ?_, ?_⟩ <;> repeat' first | split | simp

/-! ### ClockRoot -/

@[simp] theorem State.setBask_kept (s : State) (b : Bool) :
    (State.setBask s b).part = s.part ∧ (State.setBask s b).pending = s.pending ∧
    (State.setBask s b).bonded = s.bonded ∧ (State.setBask s b).stack = s.stack := by
  simp [State.setBask]

@[simp] theorem State.ovenCycle_kept (s : State) :
    (State.ovenCycle s).part = s.part ∧ (State.ovenCycle s).pending = s.pending ∧
    (State.ovenCycle s).bonded = s.bonded ∧ (State.ovenCycle s).stack = s.stack := by
  simp [State.ovenCycle]

@[simp] theorem State.pulsesLow_kept (s : State) :
    (State.pulsesLow s).part = s.part ∧ (State.pulsesLow s).pending = s.pending ∧
    (State.pulsesLow s).bonded = s.bonded ∧ (State.pulsesLow s).stack = s.stack := by
  simp [State.pulsesLow]

@[simp] theorem State.refSelWrite_kept (s : State) (v : Word) :
    (State.refSelWrite s v).part = s.part ∧ (State.refSelWrite s v).pending = s.pending ∧
    (State.refSelWrite s v).bonded = s.bonded ∧ (State.refSelWrite s v).stack = s.stack := by
  simp [State.refSelWrite, State.onK, State.inMain, State.loadFree, State.unlocked]

@[simp] theorem State.ppsFault_kept (s : State) (c : Nat) :
    (State.ppsFault s c).part = s.part ∧ (State.ppsFault s c).pending = s.pending ∧
    (State.ppsFault s c).bonded = s.bonded ∧ (State.ppsFault s c).stack = s.stack := by
  simp [State.ppsFault]

@[simp] theorem State.ppsEdge_kept (s : State) (c : Nat) (t : Int) :
    (State.ppsEdge s c t).part = s.part ∧ (State.ppsEdge s c t).pending = s.pending ∧
    (State.ppsEdge s c t).bonded = s.bonded ∧ (State.ppsEdge s c t).stack = s.stack := by
  unfold State.ppsEdge
  refine ⟨?_, ?_, ?_, ?_⟩ <;> repeat' first | split | simp

@[simp] theorem State.phaseCtrlWrite_kept (s : State) (v : Nat) :
    (State.phaseCtrlWrite s v).part = s.part ∧ (State.phaseCtrlWrite s v).pending = s.pending ∧
    (State.phaseCtrlWrite s v).bonded = s.bonded ∧ (State.phaseCtrlWrite s v).stack = s.stack := by
  simp [State.phaseCtrlWrite]

@[simp] theorem State.notePstep_kept (s : State) :
    (State.notePstep s).part = s.part ∧ (State.notePstep s).pending = s.pending ∧
    (State.notePstep s).bonded = s.bonded ∧ (State.notePstep s).stack = s.stack := by
  simp [State.notePstep]

@[simp] theorem State.genLoad_kept (s : State) :
    (State.genLoad s).part = s.part ∧ (State.genLoad s).pending = s.pending ∧ (State.genLoad s).bonded = s.bonded ∧
    (State.genLoad s).stack = s.stack := by
  simp [State.genLoad]

@[simp] theorem State.alignedStep_kept (s : State) :
    (State.alignedStep s).part = s.part ∧ (State.alignedStep s).pending = s.pending ∧
    (State.alignedStep s).bonded = s.bonded ∧ (State.alignedStep s).stack = s.stack := by
  simp [State.alignedStep]

@[simp] theorem State.pulseCtrlWrite_kept (s : State) (v : Nat) :
    (State.pulseCtrlWrite s v).part = s.part ∧ (State.pulseCtrlWrite s v).pending = s.pending ∧
    (State.pulseCtrlWrite s v).bonded = s.bonded ∧ (State.pulseCtrlWrite s v).stack = s.stack := by
  simp [State.pulseCtrlWrite]

@[simp] theorem State.stepOut_kept (s : State) :
    (State.stepOut s).part = s.part ∧ (State.stepOut s).pending = s.pending ∧ (State.stepOut s).bonded = s.bonded ∧
    (State.stepOut s).stack = s.stack := by
  simp [State.stepOut]

@[simp] theorem State.stepFired_kept (s : State) (e : Nat) :
    (State.stepFired s e).part = s.part ∧ (State.stepFired s e).pending = s.pending ∧
    (State.stepFired s e).bonded = s.bonded ∧ (State.stepFired s e).stack = s.stack := by
  simp [State.stepFired]

@[simp] theorem State.clockCycle_kept (s : State) :
    (State.clockCycle s).part = s.part ∧ (State.clockCycle s).pending = s.pending ∧
    (State.clockCycle s).bonded = s.bonded ∧ (State.clockCycle s).stack = s.stack := by
  simp [State.clockCycle]

/-! ### Servo -/

@[simp] theorem State.unstage_kept (s : State) (l : List Nat) :
    (State.unstage s l).part = s.part ∧ (State.unstage s l).pending = s.pending ∧
    (State.unstage s l).bonded = s.bonded ∧ (State.unstage s l).stack = s.stack := by
  simp [State.unstage]

@[simp] theorem State.timeIncrWrite_kept (s : State) (v : Word) :
    (State.timeIncrWrite s v).part = s.part ∧ (State.timeIncrWrite s v).pending = s.pending ∧
    (State.timeIncrWrite s v).bonded = s.bonded ∧ (State.timeIncrWrite s v).stack = s.stack := by
  simp [State.timeIncrWrite, State.inMain, State.loadFree, State.unlocked]

@[simp] theorem State.timeCtrlWrite_kept (s : State) (v : Nat) :
    (State.timeCtrlWrite s v).part = s.part ∧ (State.timeCtrlWrite s v).pending = s.pending ∧
    (State.timeCtrlWrite s v).bonded = s.bonded ∧ (State.timeCtrlWrite s v).stack = s.stack := by
  simp [State.timeCtrlWrite]

@[simp] theorem State.modExch_kept (s : State) (p : Nat) (g : Exch → Exch) :
    (State.modExch s p g).part = s.part ∧ (State.modExch s p g).pending = s.pending ∧
    (State.modExch s p g).bonded = s.bonded ∧ (State.modExch s p g).stack = s.stack := by
  simp [State.modExch]

@[simp] theorem State.exchDiscard_kept (s : State) (p : Nat) :
    (State.exchDiscard s p).part = s.part ∧ (State.exchDiscard s p).pending = s.pending ∧
    (State.exchDiscard s p).bonded = s.bonded ∧ (State.exchDiscard s p).stack = s.stack := by
  simp [State.exchDiscard]

@[simp] theorem State.syncRx_kept (s : State) (p : Nat) (m : Msg) (mark : Stamp) (rep : Bool) :
    (State.syncRx s p m mark rep).part = s.part ∧ (State.syncRx s p m mark rep).pending = s.pending ∧
    (State.syncRx s p m mark rep).bonded = s.bonded ∧ (State.syncRx s p m mark rep).stack = s.stack := by
  simp [State.syncRx]

@[simp] theorem State.reqRx_kept (s : State) (p : Nat) (m : Msg) (mark : Stamp) (rep : Bool) :
    (State.reqRx s p m mark rep).part = s.part ∧ (State.reqRx s p m mark rep).pending = s.pending ∧
    (State.reqRx s p m mark rep).bonded = s.bonded ∧ (State.reqRx s p m mark rep).stack = s.stack := by
  simp [State.reqRx]

@[simp] theorem State.servoStep_kept (s : State) (ofs : Int) :
    (State.servoStep s ofs).part = s.part ∧ (State.servoStep s ofs).pending = s.pending ∧
    (State.servoStep s ofs).bonded = s.bonded ∧ (State.servoStep s ofs).stack = s.stack := by
  simp [State.servoStep]

@[simp] theorem State.narrow_kept (s : State) :
    (State.narrow s).part = s.part ∧ (State.narrow s).pending = s.pending ∧ (State.narrow s).bonded = s.bonded ∧
    (State.narrow s).stack = s.stack := by
  simp [State.narrow]

@[simp] theorem State.steer_kept (s : State) (ofs : Int) :
    (State.steer s ofs).part = s.part ∧ (State.steer s ofs).pending = s.pending ∧
    (State.steer s ofs).bonded = s.bonded ∧ (State.steer s ofs).stack = s.stack := by
  simp only [State.steer]
  refine ⟨?_, ?_, ?_, ?_⟩ <;> repeat' simp

@[simp] theorem State.countLock_kept (s : State) (ofs : Int) :
    (State.countLock s ofs).part = s.part ∧ (State.countLock s ofs).pending = s.pending ∧
    (State.countLock s ofs).bonded = s.bonded ∧ (State.countLock s ofs).stack = s.stack := by
  simp [State.countLock]

@[simp] theorem State.servoUse_kept (s : State) (ofs : Int) :
    (State.servoUse s ofs).part = s.part ∧ (State.servoUse s ofs).pending = s.pending ∧
    (State.servoUse s ofs).bonded = s.bonded ∧ (State.servoUse s ofs).stack = s.stack := by
  simp [State.servoUse]

@[simp] theorem State.useExchange_kept (s : State) (p : Nat) (x : OpenEx) (t3 : Nat) (t4 : Nat) :
    (State.useExchange s p x t3 t4).part = s.part ∧ (State.useExchange s p x t3 t4).pending = s.pending ∧
    (State.useExchange s p x t3 t4).bonded = s.bonded ∧ (State.useExchange s p x t3 t4).stack = s.stack := by
  simp [State.useExchange]

@[simp] theorem State.respRx_kept (s : State) (p : Nat) (m : Msg) (rep : Bool) :
    (State.respRx s p m rep).part = s.part ∧ (State.respRx s p m rep).pending = s.pending ∧
    (State.respRx s p m rep).bonded = s.bonded ∧ (State.respRx s p m rep).stack = s.stack := by
  unfold State.respRx
  refine ⟨?_, ?_, ?_, ?_⟩ <;> repeat' first | split | simp

@[simp] theorem State.timeRx_kept (s : State) (p : Nat) (m : Msg) (mark : Stamp) (rep : Bool) :
    (State.timeRx s p m mark rep).part = s.part ∧ (State.timeRx s p m mark rep).pending = s.pending ∧
    (State.timeRx s p m mark rep).bonded = s.bonded ∧ (State.timeRx s p m mark rep).stack = s.stack := by
  unfold State.timeRx
  refine ⟨?_, ?_, ?_, ?_⟩ <;> repeat' first | split | simp

@[simp] theorem State.netCtrlWrite_kept (s : State) (v : Nat) :
    (State.netCtrlWrite s v).part = s.part ∧ (State.netCtrlWrite s v).pending = s.pending ∧
    (State.netCtrlWrite s v).bonded = s.bonded ∧ (State.netCtrlWrite s v).stack = s.stack := by
  simp [State.netCtrlWrite]

/-! ### LeapOps -/

@[simp] theorem State.combineVote_kept (s : State) :
    (State.combineVote s).part = s.part ∧ (State.combineVote s).pending = s.pending ∧
    (State.combineVote s).bonded = s.bonded ∧ (State.combineVote s).stack = s.stack := by
  simp [State.combineVote]

@[simp] theorem State.castVote_kept (s : State) :
    (State.castVote s).part = s.part ∧ (State.castVote s).pending = s.pending ∧
    (State.castVote s).bonded = s.bonded ∧ (State.castVote s).stack = s.stack := by
  simp [State.castVote]

@[simp] theorem State.sendCack_kept (s : State) :
    (State.sendCack s).part = s.part ∧ (State.sendCack s).pending = s.pending ∧
    (State.sendCack s).bonded = s.bonded ∧ (State.sendCack s).stack = s.stack := by
  simp [State.sendCack]

@[simp] theorem State.checkCommit_kept (s : State) (voted : Bool) :
    (State.checkCommit s voted).part = s.part ∧ (State.checkCommit s voted).pending = s.pending ∧
    (State.checkCommit s voted).bonded = s.bonded ∧ (State.checkCommit s voted).stack = s.stack := by
  simp [State.checkCommit]

@[simp] theorem State.leapChecks_kept (s : State) :
    (State.leapChecks s).part = s.part ∧ (State.leapChecks s).pending = s.pending ∧
    (State.leapChecks s).bonded = s.bonded ∧ (State.leapChecks s).stack = s.stack := by
  simp [State.leapChecks]

/-! ### Queues -/

@[simp] theorem State.setTile_kept (s : State) (t : Nat) (x : Tile) :
    (State.setTile s t x).part = s.part ∧ (State.setTile s t x).pending = s.pending ∧
    (State.setTile s t x).bonded = s.bonded ∧ (State.setTile s t x).stack = s.stack := by
  simp [State.setTile]

@[simp] theorem State.setClean_kept (s : State) (t : Nat) (b : Nat) (src : Option Nat) :
    (State.setClean s t b src).part = s.part ∧ (State.setClean s t b src).pending = s.pending ∧
    (State.setClean s t b src).bonded = s.bonded ∧ (State.setClean s t b src).stack = s.stack := by
  simp [State.setClean]

@[simp] theorem State.tWrite_kept (s : State) (t : Nat) (ofs : Nat) (bs : List Byte) :
    (State.tWrite s t ofs bs).part = s.part ∧ (State.tWrite s t ofs bs).pending = s.pending := by
  simp [State.tWrite]

@[simp] theorem State.stackEv_kept (s : State) (code : Nat) (a : Nat) (n : Nat) :
    (State.stackEv s code a n).part = s.part ∧ (State.stackEv s code a n).pending = s.pending ∧
    (State.stackEv s code a n).bonded = s.bonded ∧ (State.stackEv s code a n).stack = s.stack := by
  simp [State.stackEv]

@[simp] theorem State.writeSpace_kept (s : State) (sel : Nat) (a : Nat) (bs : List Byte) :
    (State.writeSpace s sel a bs).part = s.part ∧ (State.writeSpace s sel a bs).pending = s.pending := by
  simp [State.writeSpace]

@[simp] theorem State.bulkPump_kept (s : State) :
    (State.bulkPump s).part = s.part ∧ (State.bulkPump s).pending = s.pending ∧
    (State.bulkPump s).bonded = s.bonded ∧ (State.bulkPump s).stack = s.stack := by
  simp [State.bulkPump]

@[simp] theorem State.bulkRead_kept (s : State) (use : Nat → BulkUse) (a : Nat) (n : Nat) :
    (State.bulkRead s use a n).part = s.part ∧ (State.bulkRead s use a n).pending = s.pending ∧
    (State.bulkRead s use a n).bonded = s.bonded ∧ (State.bulkRead s use a n).stack = s.stack := by
  simp [State.bulkRead]

@[simp] theorem State.bulkWrite_kept (s : State) (use : BulkUse) (a : Nat) (bs : List Byte) :
    (State.bulkWrite s use a bs).part = s.part ∧ (State.bulkWrite s use a bs).pending = s.pending ∧
    (State.bulkWrite s use a bs).bonded = s.bonded ∧ (State.bulkWrite s use a bs).stack = s.stack := by
  simp [State.bulkWrite]

@[simp] theorem State.setTxq_kept (s : State) (p : Nat) (q : Nat) (x : TxQ) :
    (State.setTxq s p q x).part = s.part ∧ (State.setTxq s p q x).pending = s.pending ∧
    (State.setTxq s p q x).bonded = s.bonded ∧ (State.setTxq s p q x).stack = s.stack := by
  simp [State.setTxq]

@[simp] theorem State.setRxq_kept (s : State) (p : Nat) (q : Nat) (l : List RxEnt) :
    (State.setRxq s p q l).part = s.part ∧ (State.setRxq s p q l).pending = s.pending ∧
    (State.setRxq s p q l).bonded = s.bonded ∧ (State.setRxq s p q l).stack = s.stack := by
  simp [State.setRxq]

@[simp] theorem State.ringRead_kept (s : State) (p : Nat) (q : Nat) (i : Nat) (bs : Option (List Byte)) :
    (State.ringRead s p q i bs).part = s.part ∧ (State.ringRead s p q i bs).pending = s.pending ∧
    (State.ringRead s p q i bs).bonded = s.bonded ∧ (State.ringRead s p q i bs).stack = s.stack := by
  simp [State.ringRead]

@[simp] theorem State.ringAsk_kept (s : State) (p : Nat) (q : Nat) (i : Nat) :
    (State.ringAsk s p q i).part = s.part ∧ (State.ringAsk s p q i).pending = s.pending ∧
    (State.ringAsk s p q i).bonded = s.bonded ∧ (State.ringAsk s p q i).stack = s.stack := by
  simp [State.ringAsk]

@[simp] theorem State.notePost_kept (s : State) (pq : Nat × Nat) :
    (State.notePost s pq).part = s.part ∧ (State.notePost s pq).pending = s.pending ∧
    (State.notePost s pq).bonded = s.bonded ∧ (State.notePost s pq).stack = s.stack := by
  unfold State.notePost
  refine ⟨?_, ?_, ?_, ?_⟩ <;> repeat' first | split | simp

@[simp] theorem State.notePosts_kept (s : State) :
    (State.notePosts s).part = s.part ∧ (State.notePosts s).pending = s.pending ∧
    (State.notePosts s).bonded = s.bonded ∧ (State.notePosts s).stack = s.stack := by
  simp [State.notePosts]

@[simp] theorem State.clearQueues_kept (s : State) :
    (State.clearQueues s).part = s.part ∧ (State.clearQueues s).pending = s.pending ∧
    (State.clearQueues s).bonded = s.bonded ∧ (State.clearQueues s).stack = s.stack := by
  simp [State.clearQueues]

/-! ### CounterUnit -/

@[simp] theorem State.dlTouch_kept (s : State) :
    (State.dlTouch s).part = s.part ∧ (State.dlTouch s).pending = s.pending ∧ (State.dlTouch s).bonded = s.bonded ∧
    (State.dlTouch s).stack = s.stack := by
  simp [State.dlTouch]

@[simp] theorem State.badReq_kept (s : State) (reason : Nat) (src : Nat) (core : Nat) (k : Nat) :
    (State.badReq s reason src core k).part = s.part ∧ (State.badReq s reason src core k).pending = s.pending ∧
    (State.badReq s reason src core k).bonded = s.bonded ∧
    (State.badReq s reason src core k).stack = s.stack := by
  simp [State.badReq]

@[simp] theorem Cyc.dec_kept (y : Cyc) (d : Dec) :
    (Cyc.dec y d).s.part = y.s.part ∧ (Cyc.dec y d).s.pending = y.s.pending ∧ (Cyc.dec y d).s.bonded = y.s.bonded ∧
    (Cyc.dec y d).s.stack = y.s.stack := by
  simp [Cyc.dec]

@[simp] theorem State.bump_kept (s : State) (c : Nat) (k : Nat) (inc : Nat) :
    (State.bump s c k inc).part = s.part ∧ (State.bump s c k inc).pending = s.pending ∧
    (State.bump s c k inc).bonded = s.bonded ∧ (State.bump s c k inc).stack = s.stack := by
  simp [State.bump]

@[simp] theorem Cyc.applyAdds_kept (y : Cyc) (l : List (Nat × Nat × Nat)) :
    (Cyc.applyAdds y l).s.part = y.s.part ∧ (Cyc.applyAdds y l).s.pending = y.s.pending ∧
    (Cyc.applyAdds y l).s.bonded = y.s.bonded ∧ (Cyc.applyAdds y l).s.stack = y.s.stack := by
  simp [Cyc.applyAdds]

@[simp] theorem State.tellForce_kept (s : State) (c : Nat) (k : Nat) :
    (State.tellForce s c k).part = s.part ∧ (State.tellForce s c k).pending = s.pending ∧
    (State.tellForce s c k).bonded = s.bonded ∧ (State.tellForce s c k).stack = s.stack := by
  simp [State.tellForce]

@[simp] theorem Cyc.applyForce_kept (y : Cyc) :
    (Cyc.applyForce y).s.part = y.s.part ∧ (Cyc.applyForce y).s.pending = y.s.pending ∧
    (Cyc.applyForce y).s.bonded = y.s.bonded ∧ (Cyc.applyForce y).s.stack = y.s.stack := by
  unfold Cyc.applyForce
  refine ⟨?_, ?_, ?_, ?_⟩ <;> repeat' first | split | simp

@[simp] theorem Cyc.fixSat_kept (y : Cyc) :
    (Cyc.fixSat y).s.part = y.s.part ∧ (Cyc.fixSat y).s.pending = y.s.pending ∧
    (Cyc.fixSat y).s.bonded = y.s.bonded ∧ (Cyc.fixSat y).s.stack = y.s.stack := by
  simp [Cyc.fixSat]

@[simp] theorem Cyc.stageAdds_kept (y : Cyc) (force : Bool) :
    (Cyc.stageAdds y force).s.part = y.s.part ∧ (Cyc.stageAdds y force).s.pending = y.s.pending ∧
    (Cyc.stageAdds y force).s.bonded = y.s.bonded ∧ (Cyc.stageAdds y force).s.stack = y.s.stack := by
  simp [Cyc.stageAdds]

@[simp] theorem State.enterWatch_kept (s : State) (x : PendReq) (slot : Nat) (bar : Option (Nat × Nat)) :
    (State.enterWatch s x slot bar).part = s.part ∧ (State.enterWatch s x slot bar).pending = s.pending ∧
    (State.enterWatch s x slot bar).bonded = s.bonded ∧ (State.enterWatch s x slot bar).stack = s.stack := by
  simp [State.enterWatch]

@[simp] theorem Cyc.answer_kept (y : Cyc) (x : PendReq) (status : Nat) (value : Nat) :
    (Cyc.answer y x status value).s.part = y.s.part ∧ (Cyc.answer y x status value).s.pending = y.s.pending ∧
    (Cyc.answer y x status value).s.bonded = y.s.bonded ∧ (Cyc.answer y x status value).s.stack = y.s.stack := by
  simp [Cyc.answer]

@[simp] theorem Cyc.watch_kept (y : Cyc) (x : PendReq) :
    (Cyc.watch y x).s.part = y.s.part ∧ (Cyc.watch y x).s.pending = y.s.pending ∧
    (Cyc.watch y x).s.bonded = y.s.bonded ∧ (Cyc.watch y x).s.stack = y.s.stack := by
  unfold Cyc.watch
  refine ⟨?_, ?_, ?_, ?_⟩ <;> repeat' first | split | simp

@[simp] theorem Cyc.refuse_kept (y : Cyc) (x : PendReq) (reason : Nat) :
    (Cyc.refuse y x reason).s.part = y.s.part ∧ (Cyc.refuse y x reason).s.pending = y.s.pending ∧
    (Cyc.refuse y x reason).s.bonded = y.s.bonded ∧ (Cyc.refuse y x reason).s.stack = y.s.stack := by
  simp [Cyc.refuse]

@[simp] theorem State.setEnt_kept (s : State) (k : Nat) (x : BarEnt) :
    (State.setEnt s k x).part = s.part ∧ (State.setEnt s k x).pending = s.pending ∧
    (State.setEnt s k x).bonded = s.bonded ∧ (State.setEnt s k x).stack = s.stack := by
  simp [State.setEnt]

@[simp] theorem State.stallTimer_kept (s : State) (k : Nat) :
    (State.stallTimer s k).part = s.part ∧ (State.stallTimer s k).pending = s.pending ∧
    (State.stallTimer s k).bonded = s.bonded ∧ (State.stallTimer s k).stack = s.stack := by
  simp [State.stallTimer]

@[simp] theorem State.showPorts_kept (s : State) (k : Nat) :
    (State.showPorts s k).part = s.part ∧ (State.showPorts s k).pending = s.pending ∧
    (State.showPorts s k).bonded = s.bonded ∧ (State.showPorts s k).stack = s.stack := by
  simp [State.showPorts]

@[simp] theorem State.overrun_kept (s : State) :
    (State.overrun s).part = s.part ∧ (State.overrun s).pending = s.pending ∧ (State.overrun s).bonded = s.bonded ∧
    (State.overrun s).stack = s.stack := by
  simp [State.overrun]

@[simp] theorem State.noteSource_kept (s : State) (k : Nat) (next : Bool) (port : Bool) (src : Nat) :
    (State.noteSource s k next port src).part = s.part ∧ (State.noteSource s k next port src).pending = s.pending ∧
    (State.noteSource s k next port src).bonded = s.bonded ∧
    (State.noteSource s k next port src).stack = s.stack := by
  simp [State.noteSource]

@[simp] theorem State.countArrival_kept (s : State) (k : Nat) (next : Bool) (port : Bool) (src : Nat) :
    (State.countArrival s k next port src).1.part = s.part ∧
    (State.countArrival s k next port src).1.pending = s.pending ∧
    (State.countArrival s k next port src).1.bonded = s.bonded ∧
    (State.countArrival s k next port src).1.stack = s.stack := by
  unfold State.countArrival
  refine ⟨?_, ?_, ?_, ?_⟩ <;> repeat' first | split | simp

@[simp] theorem State.arrive_kept (s : State) (k : Nat) (r : Nat) (port : Bool) (src : Nat) :
    (State.arrive s k r port src).1.part = s.part ∧ (State.arrive s k r port src).1.pending = s.pending ∧
    (State.arrive s k r port src).1.bonded = s.bonded ∧ (State.arrive s k r port src).1.stack = s.stack := by
  unfold State.arrive
  refine ⟨?_, ?_, ?_, ?_⟩ <;> repeat' first | split | simp

@[simp] theorem Cyc.barrier_kept (y : Cyc) (x : PendReq) :
    (Cyc.barrier y x).s.part = y.s.part ∧ (Cyc.barrier y x).s.pending = y.s.pending ∧
    (Cyc.barrier y x).s.bonded = y.s.bonded ∧ (Cyc.barrier y x).s.stack = y.s.stack := by
  unfold Cyc.barrier
  refine ⟨?_, ?_, ?_, ?_⟩ <;> repeat' first | split | simp

@[simp] theorem Cyc.stageEnter_kept (y : Cyc) :
    (Cyc.stageEnter y).s.part = y.s.part ∧ (Cyc.stageEnter y).s.pending = y.s.pending ∧
    (Cyc.stageEnter y).s.bonded = y.s.bonded ∧ (Cyc.stageEnter y).s.stack = y.s.stack := by
  unfold Cyc.stageEnter
  refine ⟨?_, ?_, ?_, ?_⟩ <;> repeat' first
    | split
    | simp
    | refine (Cyc.foldl_part _ _ _ (fun _ _ => ?_)).trans ?_
    | refine (Cyc.foldl_pending _ _ _ (fun _ _ => ?_)).trans ?_
    | refine (Cyc.foldl_bonded _ _ _ (fun _ _ => ?_)).trans ?_
    | refine (Cyc.foldl_stack _ _ _ (fun _ _ => ?_)).trans ?_

@[simp] theorem Cyc.stageArrivals_kept (y : Cyc) :
    (Cyc.stageArrivals y).s.part = y.s.part ∧ (Cyc.stageArrivals y).s.pending = y.s.pending ∧
    (Cyc.stageArrivals y).s.bonded = y.s.bonded ∧ (Cyc.stageArrivals y).s.stack = y.s.stack := by
  simp [Cyc.stageArrivals]

@[simp] theorem Cyc.stageReleases_kept (y : Cyc) :
    (Cyc.stageReleases y).s.part = y.s.part ∧ (Cyc.stageReleases y).s.pending = y.s.pending ∧
    (Cyc.stageReleases y).s.bonded = y.s.bonded ∧ (Cyc.stageReleases y).s.stack = y.s.stack := by
  simp [Cyc.stageReleases]

@[simp] theorem Cyc.pair_kept (y : Cyc) (i : Nat) :
    (Cyc.pair y i).s.part = y.s.part ∧ (Cyc.pair y i).s.pending = y.s.pending ∧
    (Cyc.pair y i).s.bonded = y.s.bonded ∧ (Cyc.pair y i).s.stack = y.s.stack := by
  simp [Cyc.pair]

@[simp] theorem Cyc.stagePairs_kept (y : Cyc) :
    (Cyc.stagePairs y).s.part = y.s.part ∧ (Cyc.stagePairs y).s.pending = y.s.pending ∧
    (Cyc.stagePairs y).s.bonded = y.s.bonded ∧ (Cyc.stagePairs y).s.stack = y.s.stack := by
  simp [Cyc.stagePairs]

@[simp] theorem Cyc.complete_kept (y : Cyc) (w : Watch) (status : Nat) (value : Nat) (late : Bool) (forced : Bool)
  (sat : Bool) :
    (Cyc.complete y w status value late forced sat).s.part = y.s.part ∧
    (Cyc.complete y w status value late forced sat).s.pending = y.s.pending ∧
    (Cyc.complete y w status value late forced sat).s.bonded = y.s.bonded ∧
    (Cyc.complete y w status value late forced sat).s.stack = y.s.stack := by
  simp [Cyc.complete]

@[simp] theorem Cyc.completeCounter_kept (y : Cyc) (w : Watch) (status : Nat) (late : Bool) :
    (Cyc.completeCounter y w status late).s.part = y.s.part ∧
    (Cyc.completeCounter y w status late).s.pending = y.s.pending ∧
    (Cyc.completeCounter y w status late).s.bonded = y.s.bonded ∧
    (Cyc.completeCounter y w status late).s.stack = y.s.stack := by
  simp [Cyc.completeCounter]

@[simp] theorem Cyc.stageMet_kept (y : Cyc) :
    (Cyc.stageMet y).s.part = y.s.part ∧ (Cyc.stageMet y).s.pending = y.s.pending ∧
    (Cyc.stageMet y).s.bonded = y.s.bonded ∧ (Cyc.stageMet y).s.stack = y.s.stack := by
  simp [Cyc.stageMet]

@[simp] theorem Cyc.releaseWaits_kept (y : Cyc) (k : Nat) (r : Nat) :
    (Cyc.releaseWaits y k r).s.part = y.s.part ∧ (Cyc.releaseWaits y k r).s.pending = y.s.pending ∧
    (Cyc.releaseWaits y k r).s.bonded = y.s.bonded ∧ (Cyc.releaseWaits y k r).s.stack = y.s.stack := by
  simp [Cyc.releaseWaits]

@[simp] theorem State.advanceRound_kept (s : State) (k : Nat) :
    (State.advanceRound s k).part = s.part ∧ (State.advanceRound s k).pending = s.pending ∧
    (State.advanceRound s k).bonded = s.bonded ∧ (State.advanceRound s k).stack = s.stack := by
  simp [State.advanceRound]

@[simp] theorem Cyc.completeRound_kept (y : Cyc) (k : Nat) :
    (Cyc.completeRound y k).s.part = y.s.part ∧ (Cyc.completeRound y k).s.pending = y.s.pending ∧
    (Cyc.completeRound y k).s.bonded = y.s.bonded ∧ (Cyc.completeRound y k).s.stack = y.s.stack := by
  simp [Cyc.completeRound]

@[simp] theorem State.sendArrivals_kept (s : State) (k : Nat) :
    (State.sendArrivals s k).part = s.part ∧ (State.sendArrivals s k).pending = s.pending ∧
    (State.sendArrivals s k).bonded = s.bonded ∧ (State.sendArrivals s k).stack = s.stack := by
  simp [State.sendArrivals]

@[simp] theorem Cyc.entry_kept (y : Cyc) (k : Nat) :
    (Cyc.entry y k).s.part = y.s.part ∧ (Cyc.entry y k).s.pending = y.s.pending ∧
    (Cyc.entry y k).s.bonded = y.s.bonded ∧ (Cyc.entry y k).s.stack = y.s.stack := by
  simp [Cyc.entry]

@[simp] theorem Cyc.applyRelease_kept (y : Cyc) (r : Nat × Nat) :
    (Cyc.applyRelease y r).s.part = y.s.part ∧ (Cyc.applyRelease y r).s.pending = y.s.pending ∧
    (Cyc.applyRelease y r).s.bonded = y.s.bonded ∧ (Cyc.applyRelease y r).s.stack = y.s.stack := by
  simp [Cyc.applyRelease]

@[simp] theorem Cyc.stagePast_kept (y : Cyc) :
    (Cyc.stagePast y).s.part = y.s.part ∧ (Cyc.stagePast y).s.pending = y.s.pending ∧
    (Cyc.stagePast y).s.bonded = y.s.bonded ∧ (Cyc.stagePast y).s.stack = y.s.stack := by
  simp [Cyc.stagePast]

@[simp] theorem Cyc.stageConditions_kept (y : Cyc) :
    (Cyc.stageConditions y).s.part = y.s.part ∧ (Cyc.stageConditions y).s.pending = y.s.pending ∧
    (Cyc.stageConditions y).s.bonded = y.s.bonded ∧ (Cyc.stageConditions y).s.stack = y.s.stack := by
  simp [Cyc.stageConditions]

@[simp] theorem Cyc.stageTimeouts_kept (y : Cyc) :
    (Cyc.stageTimeouts y).s.part = y.s.part ∧ (Cyc.stageTimeouts y).s.pending = y.s.pending ∧
    (Cyc.stageTimeouts y).s.bonded = y.s.bonded ∧ (Cyc.stageTimeouts y).s.stack = y.s.stack := by
  unfold Cyc.stageTimeouts
  refine ⟨?_, ?_, ?_, ?_⟩ <;> repeat' first
    | split
    | simp
    | refine (Cyc.foldl_part _ _ _ (fun _ _ => ?_)).trans ?_
    | refine (Cyc.foldl_pending _ _ _ (fun _ _ => ?_)).trans ?_
    | refine (Cyc.foldl_bonded _ _ _ (fun _ _ => ?_)).trans ?_
    | refine (Cyc.foldl_stack _ _ _ (fun _ _ => ?_)).trans ?_

@[simp] theorem State.fillMiss_kept (s : State) (k : Nat) :
    (State.fillMiss s k).part = s.part ∧ (State.fillMiss s k).pending = s.pending ∧
    (State.fillMiss s k).bonded = s.bonded ∧ (State.fillMiss s k).stack = s.stack := by
  simp [State.fillMiss]

@[simp] theorem State.stall_kept (s : State) (k : Nat) :
    (State.stall s k).part = s.part ∧ (State.stall s k).pending = s.pending ∧ (State.stall s k).bonded = s.bonded ∧
    (State.stall s k).stack = s.stack := by
  simp only [State.stall]
  refine ⟨?_, ?_, ?_, ?_⟩ <;> repeat' first | split | simp

@[simp] theorem Cyc.stageStalls_kept (y : Cyc) :
    (Cyc.stageStalls y).s.part = y.s.part ∧ (Cyc.stageStalls y).s.pending = y.s.pending ∧
    (Cyc.stageStalls y).s.bonded = y.s.bonded ∧ (Cyc.stageStalls y).s.stack = y.s.stack := by
  simp [Cyc.stageStalls]

@[simp] theorem Cyc.stageCancels_kept (y : Cyc) :
    (Cyc.stageCancels y).s.part = y.s.part ∧ (Cyc.stageCancels y).s.pending = y.s.pending ∧
    (Cyc.stageCancels y).s.bonded = y.s.bonded ∧ (Cyc.stageCancels y).s.stack = y.s.stack := by
  unfold Cyc.stageCancels
  refine ⟨?_, ?_, ?_, ?_⟩ <;> repeat' first
    | split
    | simp
    | refine (Cyc.foldl_part _ _ _ (fun _ _ => ?_)).trans ?_
    | refine (Cyc.foldl_pending _ _ _ (fun _ _ => ?_)).trans ?_
    | refine (Cyc.foldl_bonded _ _ _ (fun _ _ => ?_)).trans ?_
    | refine (Cyc.foldl_stack _ _ _ (fun _ _ => ?_)).trans ?_

@[simp] theorem Cyc.stageReads_kept (y : Cyc) :
    (Cyc.stageReads y).s.part = y.s.part ∧ (Cyc.stageReads y).s.pending = y.s.pending ∧
    (Cyc.stageReads y).s.bonded = y.s.bonded ∧ (Cyc.stageReads y).s.stack = y.s.stack := by
  simp [Cyc.stageReads]

@[simp] theorem State.schedule_kept (s : State) (l : List Dec) :
    (State.schedule s l).part = s.part ∧ (State.schedule s l).pending = s.pending ∧
    (State.schedule s l).bonded = s.bonded ∧ (State.schedule s l).stack = s.stack := by
  simp [State.schedule]

@[simp] theorem State.devAdd_kept (s : State) (sel : Nat) (inc : Nat) (due : Nat) :
    (State.devAdd s sel inc due).part = s.part ∧ (State.devAdd s sel inc due).pending = s.pending ∧
    (State.devAdd s sel inc due).bonded = s.bonded ∧ (State.devAdd s sel inc due).stack = s.stack := by
  simp [State.devAdd]

@[simp] theorem State.clearRange_kept (s : State) (lo : Nat) (hi : Nat) :
    (State.clearRange s lo hi).part = s.part ∧ (State.clearRange s lo hi).pending = s.pending ∧
    (State.clearRange s lo hi).bonded = s.bonded ∧ (State.clearRange s lo hi).stack = s.stack := by
  simp [State.clearRange]

@[simp] theorem Cyc.taskSwitch_kept (y : Cyc) :
    (Cyc.taskSwitch y).s.part = y.s.part ∧ (Cyc.taskSwitch y).s.pending = y.s.pending ∧
    (Cyc.taskSwitch y).s.bonded = y.s.bonded ∧ (Cyc.taskSwitch y).s.stack = y.s.stack := by
  simp [Cyc.taskSwitch]

@[simp] theorem State.unitBack_kept (s : State) (u : UnitRun) :
    (State.unitBack s u).part = s.part ∧ (State.unitBack s u).pending = s.pending ∧
    (State.unitBack s u).bonded = s.bonded ∧ (State.unitBack s u).stack = s.stack := by
  simp [State.unitBack]

@[simp] theorem State.unitLate_kept (s : State) (now : State) (u : UnitRun) :
    (State.unitLate s now u).part = s.part ∧ (State.unitLate s now u).pending = s.pending ∧
    (State.unitLate s now u).bonded = s.bonded ∧ (State.unitLate s now u).stack = s.stack := by
  simp [State.unitLate]

@[simp] theorem State.unitStart_kept (s : State) (switch : Bool) :
    (State.unitStart s switch).s.part = s.part ∧ (State.unitStart s switch).s.pending = s.pending ∧
    (State.unitStart s switch).s.bonded = s.bonded ∧ (State.unitStart s switch).s.stack = s.stack := by
  unfold State.unitStart
  refine ⟨?_, ?_, ?_, ?_⟩ <;> repeat' first | split | simp

@[simp] theorem State.sendOnce_kept (s : State) (old : State) (sent : List (Nat × Msg)) :
    (State.sendOnce s old sent).part = s.part ∧ (State.sendOnce s old sent).pending = s.pending ∧
    (State.sendOnce s old sent).bonded = s.bonded ∧ (State.sendOnce s old sent).stack = s.stack := by
  simp [State.sendOnce]

@[simp] theorem State.unitRun_kept (s : State) (switch : Bool) (force : Bool) :
    (State.unitRun s switch force).part = s.part ∧ (State.unitRun s switch force).pending = s.pending ∧
    (State.unitRun s switch force).bonded = s.bonded ∧ (State.unitRun s switch force).stack = s.stack := by
  simp [State.unitRun]

@[simp] theorem State.counterCycle_kept (s : State) (force : Bool) :
    (State.counterCycle s force).part = s.part ∧ (State.counterCycle s force).pending = s.pending ∧
    (State.counterCycle s force).bonded = s.bonded ∧ (State.counterCycle s force).stack = s.stack := by
  simp [State.counterCycle]

/-! ### Leaps -/

@[simp] theorem State.seqErr_kept (s : State) :
    (State.seqErr s).part = s.part ∧ (State.seqErr s).pending = s.pending ∧ (State.seqErr s).bonded = s.bonded ∧
    (State.seqErr s).stack = s.stack := by
  simp [State.seqErr]

@[simp] theorem State.startCommit_kept (s : State) (n0 : Nat) (resume : Bool) :
    (State.startCommit s n0 resume).part = s.part ∧ (State.startCommit s n0 resume).pending = s.pending ∧
    (State.startCommit s n0 resume).bonded = s.bonded ∧ (State.startCommit s n0 resume).stack = s.stack := by
  simp [State.startCommit]

@[simp] theorem State.startClear_kept (s : State) :
    (State.startClear s).part = s.part ∧ (State.startClear s).pending = s.pending ∧
    (State.startClear s).bonded = s.bonded ∧ (State.startClear s).stack = s.stack := by
  simp [State.startClear]

@[simp] theorem State.releaseLowPins_kept (s : State) :
    (State.releaseLowPins s).part = s.part ∧ (State.releaseLowPins s).pending = s.pending ∧
    (State.releaseLowPins s).bonded = s.bonded ∧ (State.releaseLowPins s).stack = s.stack := by
  simp [State.releaseLowPins]

@[simp] theorem State.eftActivate_kept (s : State) (n0 : Nat) :
    (State.eftActivate s n0).part = s.part ∧ (State.eftActivate s n0).pending = s.pending ∧
    (State.eftActivate s n0).bonded = s.bonded ∧ (State.eftActivate s n0).stack = s.stack := by
  simp [State.eftActivate]

@[simp] theorem State.arm_kept (s : State) (n0 : Nat) (e : Nat) (resume : Bool) :
    (State.arm s n0 e resume).part = s.part ∧ (State.arm s n0 e resume).pending = s.pending ∧
    (State.arm s n0 e resume).bonded = s.bonded ∧ (State.arm s n0 e resume).stack = s.stack := by
  unfold State.arm
  refine ⟨?_, ?_, ?_, ?_⟩ <;> repeat' simp

@[simp] theorem State.tryStart_kept (s : State) (resume : Bool) :
    (State.tryStart s resume).part = s.part ∧ (State.tryStart s resume).pending = s.pending ∧
    (State.tryStart s resume).bonded = s.bonded ∧ (State.tryStart s resume).stack = s.stack := by
  simp [State.tryStart]

@[simp] theorem State.request_kept (s : State) (F : Fld) :
    (State.request s F).part = s.part ∧ (State.request s F).pending = s.pending ∧
    (State.request s F).bonded = s.bonded ∧ (State.request s F).stack = s.stack := by
  simp [State.request]

@[simp] theorem State.leapCtrlWrite_kept (s : State) (v : Nat) :
    (State.leapCtrlWrite s v).part = s.part ∧ (State.leapCtrlWrite s v).pending = s.pending ∧
    (State.leapCtrlWrite s v).bonded = s.bonded ∧ (State.leapCtrlWrite s v).stack = s.stack := by
  simp [State.leapCtrlWrite]

@[simp] theorem State.startPair_kept (s : State) (mt : Msg) (mn : Msg) :
    (State.startPair s mt mn).part = s.part ∧ (State.startPair s mt mn).pending = s.pending ∧
    (State.startPair s mt mn).bonded = s.bonded ∧ (State.startPair s mt mn).stack = s.stack := by
  simp [State.startPair]

@[simp] theorem State.startRx_kept (s : State) (p : Nat) (mt : Option Msg) (mn : Option Msg) :
    (State.startRx s p mt mn).part = s.part ∧ (State.startRx s p mt mn).pending = s.pending ∧
    (State.startRx s p mt mn).bonded = s.bonded ∧ (State.startRx s p mt mn).stack = s.stack := by
  unfold State.startRx
  refine ⟨?_, ?_, ?_, ?_⟩ <;> repeat' first | split | simp

@[simp] theorem State.clearVotes_kept (s : State) :
    (State.clearVotes s).part = s.part ∧ (State.clearVotes s).pending = s.pending ∧
    (State.clearVotes s).bonded = s.bonded ∧ (State.clearVotes s).stack = s.stack := by
  simp [State.clearVotes]

@[simp] theorem State.holdGo_kept (s : State) :
    (State.holdGo s).part = s.part ∧ (State.holdGo s).pending = s.pending ∧ (State.holdGo s).bonded = s.bonded ∧
    (State.holdGo s).stack = s.stack := by
  simp [State.holdGo]

@[simp] theorem State.decide__kept (s : State) :
    (State.decide_ s).part = s.part ∧ (State.decide_ s).pending = s.pending ∧ (State.decide_ s).bonded = s.bonded ∧
    (State.decide_ s).stack = s.stack := by
  unfold State.decide_
  refine ⟨?_, ?_, ?_, ?_⟩ <;> repeat' first | split | simp

@[simp] theorem State.setOrphan_kept (s : State) :
    (State.setOrphan s).part = s.part ∧ (State.setOrphan s).pending = s.pending ∧
    (State.setOrphan s).bonded = s.bonded ∧ (State.setOrphan s).stack = s.stack := by
  simp [State.setOrphan]

@[simp] theorem State.judgeLead_kept (s : State) :
    (State.judgeLead s).part = s.part ∧ (State.judgeLead s).pending = s.pending ∧
    (State.judgeLead s).bonded = s.bonded ∧ (State.judgeLead s).stack = s.stack := by
  simp [State.judgeLead]

@[simp] theorem State.goRx_kept (s : State) (m : Msg) :
    (State.goRx s m).part = s.part ∧ (State.goRx s m).pending = s.pending ∧ (State.goRx s m).bonded = s.bonded ∧
    (State.goRx s m).stack = s.stack := by
  simp [State.goRx]

@[simp] theorem State.skipRx_kept (s : State) (m : Msg) :
    (State.skipRx s m).part = s.part ∧ (State.skipRx s m).pending = s.pending ∧
    (State.skipRx s m).bonded = s.bonded ∧ (State.skipRx s m).stack = s.stack := by
  simp [State.skipRx]

@[simp] theorem State.readyRx_kept (s : State) (p : Nat) (m : Msg) :
    (State.readyRx s p m).part = s.part ∧ (State.readyRx s p m).pending = s.pending ∧
    (State.readyRx s p m).bonded = s.bonded ∧ (State.readyRx s p m).stack = s.stack := by
  simp [State.readyRx, State.upLeap]

@[simp] theorem State.failRx_kept (s : State) (p : Nat) (m : Msg) :
    (State.failRx s p m).part = s.part ∧ (State.failRx s p m).pending = s.pending ∧
    (State.failRx s p m).bonded = s.bonded ∧ (State.failRx s p m).stack = s.stack := by
  simp [State.failRx, State.upLeap]

@[simp] theorem State.cackRx_kept (s : State) (p : Nat) (m : Msg) :
    (State.cackRx s p m).part = s.part ∧ (State.cackRx s p m).pending = s.pending ∧
    (State.cackRx s p m).bonded = s.bonded ∧ (State.cackRx s p m).stack = s.stack := by
  simp [State.cackRx, State.upLeap]

@[simp] theorem State.leapRx_kept (s : State) (p : Nat) (m : Msg) :
    (State.leapRx s p m).part = s.part ∧ (State.leapRx s p m).pending = s.pending ∧
    (State.leapRx s p m).bonded = s.bonded ∧ (State.leapRx s p m).stack = s.stack := by
  simp [State.leapRx, State.downLeap]

@[simp] theorem State.cfgLocked_kept (s : State) :
    (State.cfgLocked s).part = s.part ∧ (State.cfgLocked s).pending = s.pending ∧
    (State.cfgLocked s).bonded = s.bonded ∧ (State.cfgLocked s).stack = s.stack := by
  simp [State.cfgLocked]

@[simp] theorem State.dropEpoch_kept (s : State) :
    (State.dropEpoch s).part = s.part ∧ (State.dropEpoch s).pending = s.pending ∧
    (State.dropEpoch s).bonded = s.bonded ∧ (State.dropEpoch s).stack = s.stack := by
  simp [State.dropEpoch]

@[simp] theorem State.epochCtrlWrite_kept (s : State) (v : Nat) :
    (State.epochCtrlWrite s v).part = s.part ∧ (State.epochCtrlWrite s v).pending = s.pending ∧
    (State.epochCtrlWrite s v).bonded = s.bonded ∧ (State.epochCtrlWrite s v).stack = s.stack := by
  simp [State.epochCtrlWrite]

/-! ### Transport -/

@[simp] theorem State.freeRx_kept (s : State) (p : Nat) (q : Nat) :
    (State.freeRx s p q).part = s.part ∧ (State.freeRx s p q).pending = s.pending ∧
    (State.freeRx s p q).bonded = s.bonded ∧ (State.freeRx s p q).stack = s.stack := by
  simp [State.freeRx]

@[simp] theorem State.txLeft_kept (s : State) (p : Nat) (q : Nat) :
    (State.txLeft s p q).part = s.part ∧ (State.txLeft s p q).pending = s.pending ∧
    (State.txLeft s p q).bonded = s.bonded ∧ (State.txLeft s p q).stack = s.stack := by
  simp only [State.txLeft]
  refine ⟨?_, ?_, ?_, ?_⟩ <;> repeat' first | split | simp

@[simp] theorem State.poisonFail_kept (s : State) :
    (State.poisonFail s).part = s.part ∧ (State.poisonFail s).pending = s.pending ∧
    (State.poisonFail s).bonded = s.bonded ∧ (State.poisonFail s).stack = s.stack := by
  simp [State.poisonFail]

@[simp] theorem State.txData_kept (s : State) (p : Nat) (q : Nat) :
    (State.txData s p q).1.part = s.part ∧ (State.txData s p q).1.pending = s.pending ∧
    (State.txData s p q).1.bonded = s.bonded ∧ (State.txData s p q).1.stack = s.stack := by
  unfold State.txData
  refine ⟨?_, ?_, ?_, ?_⟩ <;> repeat' first | split | simp

@[simp] theorem State.dropFwd_kept (s : State) (p : Nat) (q : Nat) :
    (State.dropFwd s p q).part = s.part ∧ (State.dropFwd s p q).pending = s.pending ∧
    (State.dropFwd s p q).bonded = s.bonded ∧ (State.dropFwd s p q).stack = s.stack := by
  unfold State.dropFwd
  refine ⟨?_, ?_, ?_, ?_⟩ <;> repeat' first | split | simp

@[simp] theorem State.strayFlit_kept (s : State) (p : Nat) (q : Nat) :
    (State.strayFlit s p q).part = s.part ∧ (State.strayFlit s p q).pending = s.pending ∧
    (State.strayFlit s p q).bonded = s.bonded ∧ (State.strayFlit s p q).stack = s.stack := by
  simp [State.strayFlit]

@[simp] theorem State.dataIn_kept (s : State) (port : Nat) (q : Nat) (sq : Nat) (began : Nat) (plen : Nat) (data :
  List Byte) :
    (State.dataIn s port q sq began plen data).part = s.part ∧
    (State.dataIn s port q sq began plen data).pending = s.pending ∧
    (State.dataIn s port q sq began plen data).bonded = s.bonded ∧
    (State.dataIn s port q sq began plen data).stack = s.stack := by
  simp [State.dataIn]

@[simp] theorem State.delivered_kept (s : State) (p : Nat) (q : Nat) :
    (State.delivered s p q).part = s.part ∧ (State.delivered s p q).pending = s.pending ∧
    (State.delivered s p q).bonded = s.bonded ∧ (State.delivered s p q).stack = s.stack := by
  simp [State.delivered]

@[simp] theorem State.arrivalAdd_kept (s : State) (p : Nat) (q : Nat) :
    (State.arrivalAdd s p q).part = s.part ∧ (State.arrivalAdd s p q).pending = s.pending ∧
    (State.arrivalAdd s p q).bonded = s.bonded ∧ (State.arrivalAdd s p q).stack = s.stack := by
  simp [State.arrivalAdd]

@[simp] theorem State.rxLate_kept (s : State) (p : Nat) (q : Nat) :
    (State.rxLate s p q).part = s.part ∧ (State.rxLate s p q).pending = s.pending ∧
    (State.rxLate s p q).bonded = s.bonded ∧ (State.rxLate s p q).stack = s.stack := by
  simp [State.rxLate]

@[simp] theorem State.forward_kept (s : State) (p : Nat) (q : Nat) (e : RxEnt) :
    (State.forward s p q e).part = s.part ∧ (State.forward s p q e).pending = s.pending ∧
    (State.forward s p q e).bonded = s.bonded ∧ (State.forward s p q e).stack = s.stack := by
  simp [State.forward]

@[simp] theorem State.ringWritten_kept (s : State) (q : Nat) (sq : Nat) (err : Bool) :
    (State.ringWritten s q sq err).part = s.part ∧ (State.ringWritten s q sq err).pending = s.pending ∧
    (State.ringWritten s q sq err).bonded = s.bonded ∧ (State.ringWritten s q sq err).stack = s.stack := by
  unfold State.ringWritten
  refine ⟨?_, ?_, ?_, ?_⟩ <;> repeat' first | split | simp

@[simp] theorem State.switchTask_kept (s : State) :
    (State.switchTask s).part = s.part ∧ (State.switchTask s).pending = s.pending ∧
    (State.switchTask s).bonded = s.bonded ∧ (State.switchTask s).stack = s.stack := by
  simp [State.switchTask]

@[simp] theorem State.cntCtrlWrite_kept (s : State) (v : Nat) :
    (State.cntCtrlWrite s v).part = s.part ∧ (State.cntCtrlWrite s v).pending = s.pending ∧
    (State.cntCtrlWrite s v).bonded = s.bonded ∧ (State.cntCtrlWrite s v).stack = s.stack := by
  simp [State.cntCtrlWrite]

@[simp] theorem State.present_kept (s : State) (port : Nat) :
    (State.present s port).1.part = s.part ∧ (State.present s port).1.pending = s.pending ∧
    (State.present s port).1.bonded = s.bonded ∧ (State.present s port).1.stack = s.stack := by
  unfold State.present
  refine ⟨?_, ?_, ?_, ?_⟩ <;> repeat' first | split | simp

/-! ### SpawnOps -/

@[simp] theorem State.setDir_kept (s : State) (p : Nat) (d : EggDir) :
    (State.setDir s p d).part = s.part ∧ (State.setDir s p d).pending = s.pending ∧
    (State.setDir s p d).bonded = s.bonded ∧ (State.setDir s p d).stack = s.stack := by
  simp [State.setDir]

@[simp] theorem State.setCum_kept (s : State) :
    (State.setCum s).part = s.part ∧ (State.setCum s).pending = s.pending ∧ (State.setCum s).bonded = s.bonded ∧
    (State.setCum s).stack = s.stack := by
  simp [State.setCum]

@[simp] theorem State.spawnFail_kept (s : State) :
    (State.spawnFail s).part = s.part ∧ (State.spawnFail s).pending = s.pending ∧
    (State.spawnFail s).bonded = s.bonded ∧ (State.spawnFail s).stack = s.stack := by
  simp [State.spawnFail]

@[simp] theorem State.spawnDisarm_kept (s : State) :
    (State.spawnDisarm s).part = s.part ∧ (State.spawnDisarm s).pending = s.pending ∧
    (State.spawnDisarm s).bonded = s.bonded ∧ (State.spawnDisarm s).stack = s.stack := by
  simp [State.spawnDisarm]

@[simp] theorem State.spawnArm_kept (s : State) :
    (State.spawnArm s).part = s.part ∧ (State.spawnArm s).pending = s.pending ∧
    (State.spawnArm s).bonded = s.bonded ∧ (State.spawnArm s).stack = s.stack := by
  simp [State.spawnArm]

@[simp] theorem State.spawnCtrlWrite_kept (s : State) (v : Nat) :
    (State.spawnCtrlWrite s v).part = s.part ∧ (State.spawnCtrlWrite s v).pending = s.pending ∧
    (State.spawnCtrlWrite s v).bonded = s.bonded ∧ (State.spawnCtrlWrite s v).stack = s.stack := by
  simp [State.spawnCtrlWrite]

@[simp] theorem State.eggBegin_kept (s : State) (p : Nat) (e : Nat) :
    (State.eggBegin s p e).part = s.part ∧ (State.eggBegin s p e).pending = s.pending ∧
    (State.eggBegin s p e).bonded = s.bonded ∧ (State.eggBegin s p e).stack = s.stack := by
  simp [State.eggBegin]

@[simp] theorem State.eggFlit_kept (s : State) (p : Nat) (e : Nat) :
    (State.eggFlit s p e).1.part = s.part ∧ (State.eggFlit s p e).1.pending = s.pending ∧
    (State.eggFlit s p e).1.bonded = s.bonded ∧ (State.eggFlit s p e).1.stack = s.stack := by
  unfold State.eggFlit
  refine ⟨?_, ?_, ?_, ?_⟩ <;> repeat' first | split | simp [State.onK]

@[simp] theorem State.eggOut_kept (s : State) (p : Nat) :
    (State.eggOut s p).1.part = s.part ∧ (State.eggOut s p).1.pending = s.pending ∧
    (State.eggOut s p).1.bonded = s.bonded ∧ (State.eggOut s p).1.stack = s.stack := by
  unfold State.eggOut
  refine ⟨?_, ?_, ?_, ?_⟩ <;> repeat' first | split | simp

@[simp] theorem State.eggPartRx_kept (s : State) (p : Nat) (pl : List Byte) (plen : Nat) :
    (State.eggPartRx s p pl plen).part = s.part ∧ (State.eggPartRx s p pl plen).pending = s.pending := by
  simp [State.eggPartRx]

@[simp] theorem State.eggFinished_kept (s : State) (p : Nat) (counts : Bool) :
    (State.eggFinished s p counts).part = s.part ∧ (State.eggFinished s p counts).pending = s.pending ∧
    (State.eggFinished s p counts).bonded = s.bonded ∧ (State.eggFinished s p counts).stack = s.stack := by
  simp [State.eggFinished]

@[simp] theorem State.eggEnd_kept (s : State) (p : Nat) :
    (State.eggEnd s p).part = s.part ∧ (State.eggEnd s p).pending = s.pending ∧
    (State.eggEnd s p).bonded = s.bonded ∧ (State.eggEnd s p).stack = s.stack := by
  simp [State.eggEnd]

@[simp] theorem State.eggDup_kept (s : State) (p : Nat) (counts : Bool) :
    (State.eggDup s p counts).part = s.part ∧ (State.eggDup s p counts).pending = s.pending ∧
    (State.eggDup s p counts).bonded = s.bonded ∧ (State.eggDup s p counts).stack = s.stack := by
  simp [State.eggDup]

@[simp] theorem State.eggTrailerRx_kept (s : State) (p : Nat) (pl : List Byte) :
    (State.eggTrailerRx s p pl).part = s.part ∧ (State.eggTrailerRx s p pl).pending = s.pending ∧
    (State.eggTrailerRx s p pl).bonded = s.bonded ∧ (State.eggTrailerRx s p pl).stack = s.stack := by
  simp [State.eggTrailerRx]

@[simp] theorem State.eggHeld_kept (s : State) (p : Nat) (e : Nat) (counts : Bool) :
    (State.eggHeld s p e counts).part = s.part ∧ (State.eggHeld s p e counts).pending = s.pending ∧
    (State.eggHeld s p e counts).bonded = s.bonded ∧ (State.eggHeld s p e counts).stack = s.stack := by
  simp [State.eggHeld]

@[simp] theorem State.eggFailed_kept (s : State) (p : Nat) (e : Nat) (counts : Bool) :
    (State.eggFailed s p e counts).part = s.part ∧ (State.eggFailed s p e counts).pending = s.pending ∧
    (State.eggFailed s p e counts).bonded = s.bonded ∧ (State.eggFailed s p e counts).stack = s.stack := by
  simp [State.eggFailed]

@[simp] theorem State.eggChecked_kept (s : State) (p : Nat) (x : Nat × Bool × Bool) :
    (State.eggChecked s p x).part = s.part ∧ (State.eggChecked s p x).pending = s.pending ∧
    (State.eggChecked s p x).bonded = s.bonded ∧ (State.eggChecked s p x).stack = s.stack := by
  simp [State.eggChecked]

@[simp] theorem State.resendUp_kept (s : State) (cum : Nat) :
    (State.resendUp s cum).part = s.part ∧ (State.resendUp s cum).pending = s.pending ∧
    (State.resendUp s cum).bonded = s.bonded ∧ (State.resendUp s cum).stack = s.stack := by
  simp [State.resendUp]

@[simp] theorem State.serveResume_kept (s : State) (p : Nat) (frm : Nat) :
    (State.serveResume s p frm).part = s.part ∧ (State.serveResume s p frm).pending = s.pending ∧
    (State.serveResume s p frm).bonded = s.bonded ∧ (State.serveResume s p frm).stack = s.stack := by
  simp [State.serveResume]

@[simp] theorem State.controlRx_kept (s : State) (p : Nat) (pl : List Byte) :
    (State.controlRx s p pl).part = s.part ∧ (State.controlRx s p pl).pending = s.pending ∧
    (State.controlRx s p pl).bonded = s.bonded ∧ (State.controlRx s p pl).stack = s.stack := by
  simp [State.controlRx]

@[simp] theorem State.eggRx_kept (s : State) (p : Nat) (pl : List Byte) (plen : Nat) :
    (State.eggRx s p pl plen).part = s.part ∧ (State.eggRx s p pl plen).pending = s.pending := by
  unfold State.eggRx
  refine ⟨?_, ?_⟩ <;> repeat' first | split | simp

/-! ### Link -/

@[simp] theorem State.markLanes_kept (s : State) (p : Nat) (locked : Bool) (up : Bool) :
    (State.markLanes s p locked up).part = s.part ∧ (State.markLanes s p locked up).pending = s.pending ∧
    (State.markLanes s p locked up).bonded = s.bonded ∧ (State.markLanes s p locked up).stack = s.stack := by
  simp [State.markLanes]

@[simp] theorem State.setT_kept (s : State) (p : Nat) (t : Nat) :
    (State.setT s p t).part = s.part ∧ (State.setT s p t).pending = s.pending ∧
    (State.setT s p t).bonded = s.bonded ∧ (State.setT s p t).stack = s.stack := by
  simp [State.setT]

@[simp] theorem State.driveFfe_kept (s : State) (l : Nat) (v : Nat) :
    (State.driveFfe s l v).part = s.part ∧ (State.driveFfe s l v).pending = s.pending ∧
    (State.driveFfe s l v).bonded = s.bonded ∧ (State.driveFfe s l v).stack = s.stack := by
  simp [State.driveFfe]

@[simp] theorem State.toSignal_kept (s : State) (p : Nat) :
    (State.toSignal s p).part = s.part ∧ (State.toSignal s p).pending = s.pending ∧
    (State.toSignal s p).bonded = s.bonded ∧ (State.toSignal s p).stack = s.stack := by
  simp [State.toSignal]

@[simp] theorem State.trainFail_kept (s : State) (p : Nat) :
    (State.trainFail s p).part = s.part ∧ (State.trainFail s p).pending = s.pending ∧
    (State.trainFail s p).bonded = s.bonded ∧ (State.trainFail s p).stack = s.stack := by
  simp [State.trainFail]

@[simp] theorem State.startFlits_kept (s : State) (p : Nat) :
    (State.startFlits s p).part = s.part ∧ (State.startFlits s p).pending = s.pending ∧
    (State.startFlits s p).bonded = s.bonded ∧ (State.startFlits s p).stack = s.stack := by
  simp [State.startFlits]

@[simp] theorem State.toUp_kept (s : State) (p : Nat) :
    (State.toUp s p).part = s.part ∧ (State.toUp s p).pending = s.pending ∧ (State.toUp s p).bonded = s.bonded ∧
    (State.toUp s p).stack = s.stack := by
  simp [State.toUp]

@[simp] theorem State.flitId_kept (s : State) (p : Nat) (rec_ : Nat) :
    (State.flitId s p rec_).part = s.part ∧ (State.flitId s p rec_).pending = s.pending ∧
    (State.flitId s p rec_).bonded = s.bonded ∧ (State.flitId s p rec_).stack = s.stack := by
  simp [State.flitId]

@[simp] theorem State.findLanes_kept (s : State) (p : Nat) :
    (State.findLanes s p).part = s.part ∧ (State.findLanes s p).pending = s.pending ∧
    (State.findLanes s p).bonded = s.bonded ∧ (State.findLanes s p).stack = s.stack := by
  simp [State.findLanes]

@[simp] theorem State.linkCtrlWrite_kept (s : State) (p : Nat) (v : Nat) :
    (State.linkCtrlWrite s p v).part = s.part ∧ (State.linkCtrlWrite s p v).pending = s.pending ∧
    (State.linkCtrlWrite s p v).bonded = s.bonded ∧ (State.linkCtrlWrite s p v).stack = s.stack := by
  simp [State.linkCtrlWrite]

@[simp] theorem State.linkDie_kept (s : State) (p : Nat) (cause : Nat) :
    (State.linkDie s p cause).part = s.part ∧ (State.linkDie s p cause).pending = s.pending ∧
    (State.linkDie s p cause).bonded = s.bonded ∧ (State.linkDie s p cause).stack = s.stack := by
  simp [State.linkDie]

@[simp] theorem State.lateFlit_kept (s : State) (p : Nat) :
    (State.lateFlit s p).part = s.part ∧ (State.lateFlit s p).pending = s.pending ∧
    (State.lateFlit s p).bonded = s.bonded ∧ (State.lateFlit s p).stack = s.stack := by
  simp [State.lateFlit]

@[simp] theorem State.sendTime_kept (s : State) (p : Nat) (m : Msg) :
    (State.sendTime s p m).1.part = s.part ∧ (State.sendTime s p m).1.pending = s.pending ∧
    (State.sendTime s p m).1.bonded = s.bonded ∧ (State.sendTime s p m).1.stack = s.stack := by
  unfold State.sendTime
  refine ⟨?_, ?_, ?_, ?_⟩ <;> repeat' first | split | simp

@[simp] theorem State.sendTimes_kept (s : State) (p : Nat) (l : List Msg) :
    (s.sendTimes p l).1.part = s.part ∧ (s.sendTimes p l).1.pending = s.pending ∧
    (s.sendTimes p l).1.bonded = s.bonded ∧ (s.sendTimes p l).1.stack = s.stack := by
  induction l generalizing s with
  | nil => simp [State.sendTimes]
  | cons m t ih => simp [State.sendTimes, ih]

@[simp] theorem State.fillCtrl_kept (s : State) (p : Nat) (pool : List (Msg × Bool)) :
    (State.fillCtrl s p pool).1.part = s.part ∧ (State.fillCtrl s p pool).1.pending = s.pending ∧
    (State.fillCtrl s p pool).1.bonded = s.bonded ∧ (State.fillCtrl s p pool).1.stack = s.stack := by
  simp [State.fillCtrl]

@[simp] theorem State.pickCtrl_kept (s : State) (p : Nat) :
    (State.pickCtrl s p).1.part = s.part ∧ (State.pickCtrl s p).1.pending = s.pending ∧
    (State.pickCtrl s p).1.bonded = s.bonded ∧ (State.pickCtrl s p).1.stack = s.stack := by
  unfold State.pickCtrl
  refine ⟨?_, ?_, ?_, ?_⟩ <;> repeat' first | split | simp

@[simp] theorem State.pickReplay_kept (s : State) (p : Nat) :
    (State.pickReplay s p).1.part = s.part ∧ (State.pickReplay s p).1.pending = s.pending ∧
    (State.pickReplay s p).1.bonded = s.bonded ∧ (State.pickReplay s p).1.stack = s.stack := by
  unfold State.pickReplay
  refine ⟨?_, ?_, ?_, ?_⟩ <;> repeat' first | split | simp

@[simp] theorem State.pickF_kept (s : State) (p : Nat) :
    (State.pickF s p).1.part = s.part ∧ (State.pickF s p).1.pending = s.pending ∧
    (State.pickF s p).1.bonded = s.bonded ∧ (State.pickF s p).1.stack = s.stack := by
  unfold State.pickF
  refine ⟨?_, ?_, ?_, ?_⟩ <;> repeat' first | split | simp

@[simp] theorem State.pickS_kept (s : State) (p : Nat) (q : Nat) :
    (State.pickS s p q).1.part = s.part ∧ (State.pickS s p q).1.pending = s.pending ∧
    (State.pickS s p q).1.bonded = s.bonded ∧ (State.pickS s p q).1.stack = s.stack := by
  unfold State.pickS
  refine ⟨?_, ?_, ?_, ?_⟩ <;> repeat' first | split | simp

@[simp] theorem State.pickEft_kept (s : State) (p : Nat) (e : Nat) (ctl : Bool) :
    (State.pickEft s p e ctl).1.part = s.part ∧ (State.pickEft s p e ctl).1.pending = s.pending ∧
    (State.pickEft s p e ctl).1.bonded = s.bonded ∧ (State.pickEft s p e ctl).1.stack = s.stack := by
  unfold State.pickEft
  refine ⟨?_, ?_, ?_, ?_⟩ <;> repeat' first | split | simp

@[simp] theorem State.pick_kept (s : State) (p : Nat) (cls : Option Nat) (q : Nat) :
    (State.pick s p cls q).1.part = s.part ∧ (State.pick s p cls q).1.pending = s.pending ∧
    (State.pick s p cls q).1.bonded = s.bonded ∧ (State.pick s p cls q).1.stack = s.stack := by
  unfold State.pick
  refine ⟨?_, ?_, ?_, ?_⟩ <;> repeat' first | split | simp

@[simp] theorem State.nextSlot_kept (s : State) (p : Nat) :
    (State.nextSlot s p).1.part = s.part ∧ (State.nextSlot s p).1.pending = s.pending ∧
    (State.nextSlot s p).1.bonded = s.bonded ∧ (State.nextSlot s p).1.stack = s.stack := by
  unfold State.nextSlot
  refine ⟨?_, ?_, ?_, ?_⟩ <;> repeat' first | split | simp

@[simp] theorem State.nextReq_kept (s : State) (p : Nat) :
    (State.nextReq s p).1.part = s.part ∧ (State.nextReq s p).1.pending = s.pending ∧
    (State.nextReq s p).1.bonded = s.bonded ∧ (State.nextReq s p).1.stack = s.stack := by
  unfold State.nextReq
  refine ⟨?_, ?_, ?_, ?_⟩ <;> repeat' first | split | simp

@[simp] theorem State.emit_kept (s : State) (p : Nat) (slot : Option Nat) (cls : Option Nat) (k : Option Pick) :
    (State.emit s p slot cls k).part = s.part ∧ (State.emit s p slot cls k).pending = s.pending ∧
    (State.emit s p slot cls k).bonded = s.bonded ∧ (State.emit s p slot cls k).stack = s.stack := by
  unfold State.emit
  refine ⟨?_, ?_, ?_, ?_⟩ <;> repeat' first | split | simp

@[simp] theorem State.txFlit_kept (s : State) (p : Nat) :
    (State.txFlit s p).part = s.part ∧ (State.txFlit s p).pending = s.pending := by
  unfold State.txFlit
  refine ⟨?_, ?_⟩ <;> repeat' first | split | simp

@[simp] theorem State.ffeDone_kept (s : State) (l : Nat) :
    (State.ffeDone s l).part = s.part ∧ (State.ffeDone s l).pending = s.pending ∧
    (State.ffeDone s l).bonded = s.bonded ∧ (State.ffeDone s l).stack = s.stack := by
  unfold State.ffeDone
  refine ⟨?_, ?_, ?_, ?_⟩ <;> repeat' first | split | simp

/-! ### PerfUnit -/

@[simp] theorem State.perfAdd_kept (s : State) (x : Bool) (k : Nat) (n : Nat) :
    (State.perfAdd s x k n).part = s.part ∧ (State.perfAdd s x k n).pending = s.pending ∧
    (State.perfAdd s x k n).bonded = s.bonded ∧ (State.perfAdd s x k n).stack = s.stack := by
  simp [State.perfAdd]

@[simp] theorem State.perfTake_kept (s : State) (e : PerfEv) :
    (State.perfTake s e).part = s.part ∧ (State.perfTake s e).pending = s.pending ∧
    (State.perfTake s e).bonded = s.bonded ∧ (State.perfTake s e).stack = s.stack := by
  simp [State.perfTake]

@[simp] theorem State.perfTick_kept (s : State) :
    (State.perfTick s).part = s.part ∧ (State.perfTick s).pending = s.pending ∧
    (State.perfTick s).bonded = s.bonded ∧ (State.perfTick s).stack = s.stack := by
  simp [State.perfTick]

@[simp] theorem State.tileCycles_kept (s : State) (old : State) :
    (State.tileCycles s old).part = s.part ∧ (State.tileCycles s old).pending = s.pending ∧
    (State.tileCycles s old).bonded = s.bonded ∧ (State.tileCycles s old).stack = s.stack := by
  simp [State.tileCycles]

@[simp] theorem State.perfSet_kept (s : State) (j : Nat) (cnt : Nat) (last : Nat) :
    (State.perfSet s j cnt last).part = s.part ∧ (State.perfSet s j cnt last).pending = s.pending ∧
    (State.perfSet s j cnt last).bonded = s.bonded ∧ (State.perfSet s j cnt last).stack = s.stack := by
  simp [State.perfSet]

@[simp] theorem State.perfBack_kept (s : State) (j : Nat) :
    (State.perfBack s j).part = s.part ∧ (State.perfBack s j).pending = s.pending ∧
    (State.perfBack s j).bonded = s.bonded ∧ (State.perfBack s j).stack = s.stack := by
  unfold State.perfBack
  refine ⟨?_, ?_, ?_, ?_⟩ <;> repeat' first | split | simp

@[simp] theorem State.perfClear_kept (s : State) (j : Nat) :
    (State.perfClear s j).part = s.part ∧ (State.perfClear s j).pending = s.pending ∧
    (State.perfClear s j).bonded = s.bonded ∧ (State.perfClear s j).stack = s.stack := by
  simp [State.perfClear]

@[simp] theorem State.perfFire_kept (s : State) :
    (State.perfFire s).part = s.part ∧ (State.perfFire s).pending = s.pending ∧
    (State.perfFire s).bonded = s.bonded ∧ (State.perfFire s).stack = s.stack := by
  simp [State.perfFire]

@[simp] theorem State.perfSelWrite_kept (s : State) (a : Nat) (v : Nat) :
    (State.perfSelWrite s a v).part = s.part ∧ (State.perfSelWrite s a v).pending = s.pending ∧
    (State.perfSelWrite s a v).bonded = s.bonded ∧ (State.perfSelWrite s a v).stack = s.stack := by
  unfold State.perfSelWrite
  refine ⟨?_, ?_, ?_, ?_⟩ <;> repeat' first | split | simp

@[simp] theorem State.perfCtrlWrite_kept (s : State) (x : Bool) (v : Nat) :
    (State.perfCtrlWrite s x v).part = s.part ∧ (State.perfCtrlWrite s x v).pending = s.pending ∧
    (State.perfCtrlWrite s x v).bonded = s.bonded ∧ (State.perfCtrlWrite s x v).stack = s.stack := by
  simp [State.perfCtrlWrite]

@[simp] theorem State.perfCtrl_kept (s : State) (x : Bool) (v : Nat) :
    (State.perfCtrl s x v).part = s.part ∧ (State.perfCtrl s x v).pending = s.pending ∧
    (State.perfCtrl s x v).bonded = s.bonded ∧ (State.perfCtrl s x v).stack = s.stack := by
  simp [State.perfCtrl, State.inMain, State.loadFree, State.unlocked]

/-! ### Block -/

@[simp] theorem State.testCtrlWrite_kept (s : State) (v : Nat) :
    (State.testCtrlWrite s v).part = s.part ∧ (State.testCtrlWrite s v).pending = s.pending ∧
    (State.testCtrlWrite s v).bonded = s.bonded ∧ (State.testCtrlWrite s v).stack = s.stack := by
  simp [State.testCtrlWrite, State.onDie, State.loadFree]

/-! ### Counters -/

@[simp] theorem State.strayAdd_kept (s : State) :
    (State.strayAdd s).part = s.part ∧ (State.strayAdd s).pending = s.pending ∧
    (State.strayAdd s).bonded = s.bonded ∧ (State.strayAdd s).stack = s.stack := by
  simp [State.strayAdd]

@[simp] theorem State.routeCadd_kept (s : State) (m : Msg) :
    (State.routeCadd s m).part = s.part ∧ (State.routeCadd s m).pending = s.pending ∧
    (State.routeCadd s m).bonded = s.bonded ∧ (State.routeCadd s m).stack = s.stack := by
  unfold State.routeCadd
  refine ⟨?_, ?_, ?_, ?_⟩ <;> repeat' first | split | simp

@[simp] theorem State.caddHere_kept (s : State) (m : Msg) :
    (State.caddHere s m).part = s.part ∧ (State.caddHere s m).pending = s.pending ∧
    (State.caddHere s m).bonded = s.bonded ∧ (State.caddHere s m).stack = s.stack := by
  simp [State.caddHere]

@[simp] theorem State.caddRx_kept (s : State) (m : Msg) :
    (State.caddRx s m).part = s.part ∧ (State.caddRx s m).pending = s.pending ∧
    (State.caddRx s m).bonded = s.bonded ∧ (State.caddRx s m).stack = s.stack := by
  simp [State.caddRx]

@[simp] theorem State.remoteAdd_kept (s : State) (m : Msg) :
    (State.remoteAdd s m).part = s.part ∧ (State.remoteAdd s m).pending = s.pending ∧
    (State.remoteAdd s m).bonded = s.bonded ∧ (State.remoteAdd s m).stack = s.stack := by
  simp [State.remoteAdd]

@[simp] theorem State.accept_kept (s : State) (port : Nat) (m : Msg) :
    (State.accept s port m).part = s.part ∧ (State.accept s port m).pending = s.pending ∧
    (State.accept s port m).bonded = s.bonded ∧ (State.accept s port m).stack = s.stack := by
  simp [State.accept]

@[simp] theorem State.cmp_kept (s : State) (c : CmpReq) (ok : Nat → Bool) :
    (State.cmp s c ok).part = s.part ∧ (State.cmp s c ok).pending = s.pending ∧
    (State.cmp s c ok).bonded = s.bonded ∧ (State.cmp s c ok).stack = s.stack := by
  simp [State.cmp]

@[simp] theorem State.forceDataWrite_kept (s : State) (v : Word) :
    (State.forceDataWrite s v).part = s.part ∧ (State.forceDataWrite s v).pending = s.pending ∧
    (State.forceDataWrite s v).bonded = s.bonded ∧ (State.forceDataWrite s v).stack = s.stack := by
  simp [State.forceDataWrite]

@[simp] theorem State.strayBar_kept (s : State) :
    (State.strayBar s).part = s.part ∧ (State.strayBar s).pending = s.pending ∧
    (State.strayBar s).bonded = s.bonded ∧ (State.strayBar s).stack = s.stack := by
  simp [State.strayBar]

@[simp] theorem State.arriveRx_kept (s : State) (p : Nat) (m : Msg) :
    (State.arriveRx s p m).part = s.part ∧ (State.arriveRx s p m).pending = s.pending ∧
    (State.arriveRx s p m).bonded = s.bonded ∧ (State.arriveRx s p m).stack = s.stack := by
  simp [State.arriveRx]

@[simp] theorem State.schedRelease_kept (s : State) (m : Msg) :
    (State.schedRelease s m).part = s.part ∧ (State.schedRelease s m).pending = s.pending ∧
    (State.schedRelease s m).bonded = s.bonded ∧ (State.schedRelease s m).stack = s.stack := by
  simp [State.schedRelease]

@[simp] theorem State.releaseRx_kept (s : State) (p : Nat) (m : Msg) :
    (State.releaseRx s p m).part = s.part ∧ (State.releaseRx s p m).pending = s.pending ∧
    (State.releaseRx s p m).bonded = s.bonded ∧ (State.releaseRx s p m).stack = s.stack := by
  simp [State.releaseRx]

@[simp] theorem State.syncCtlRx_kept (s : State) (p : Nat) (m : Msg) :
    (State.syncCtlRx s p m).part = s.part ∧ (State.syncCtlRx s p m).pending = s.pending ∧
    (State.syncCtlRx s p m).bonded = s.bonded ∧ (State.syncCtlRx s p m).stack = s.stack := by
  unfold State.syncCtlRx
  refine ⟨?_, ?_, ?_, ?_⟩ <;> repeat' first | split | simp

@[simp] theorem State.dlSnapshot_kept (s : State) :
    (State.dlSnapshot s).part = s.part ∧ (State.dlSnapshot s).pending = s.pending ∧
    (State.dlSnapshot s).bonded = s.bonded ∧ (State.dlSnapshot s).stack = s.stack := by
  simp [State.dlSnapshot]

/-! ### Detector -/

@[simp] theorem State.shadow_kept (s : State) (k : Nat) :
    (State.shadow s k).part = s.part ∧ (State.shadow s k).pending = s.pending ∧
    (State.shadow s k).bonded = s.bonded ∧ (State.shadow s k).stack = s.stack := by
  simp [State.shadow]

@[simp] theorem State.fenceDown_kept (s : State) (p : Nat) (cause : Nat) :
    (State.fenceDown s p cause).part = s.part ∧ (State.fenceDown s p cause).pending = s.pending ∧
    (State.fenceDown s p cause).bonded = s.bonded ∧ (State.fenceDown s p cause).stack = s.stack := by
  unfold State.fenceDown
  refine ⟨?_, ?_, ?_, ?_⟩ <;> repeat' first | split | simp

@[simp] theorem State.croakRx_kept (s : State) (p : Nat) (m : Msg) :
    (State.croakRx s p m).part = s.part ∧ (State.croakRx s p m).pending = s.pending ∧
    (State.croakRx s p m).bonded = s.bonded ∧ (State.croakRx s p m).stack = s.stack := by
  unfold State.croakRx
  refine ⟨?_, ?_, ?_, ?_⟩ <;> repeat' first | split | simp

@[simp] theorem State.noticeRx_kept (s : State) (p : Nat) (pl : List Byte) :
    (State.noticeRx s p pl).part = s.part ∧ (State.noticeRx s p pl).pending = s.pending ∧
    (State.noticeRx s p pl).bonded = s.bonded ∧ (State.noticeRx s p pl).stack = s.stack := by
  simp [State.noticeRx]

@[simp] theorem State.fenceDrop_kept (s : State) (p : Nat) :
    (State.fenceDrop s p).part = s.part ∧ (State.fenceDrop s p).pending = s.pending ∧
    (State.fenceDrop s p).bonded = s.bonded ∧ (State.fenceDrop s p).stack = s.stack := by
  simp [State.fenceDrop]

@[simp] theorem State.fenceReqWrite_kept (s : State) (v : Word) :
    (State.fenceReqWrite s v).part = s.part ∧ (State.fenceReqWrite s v).pending = s.pending ∧
    (State.fenceReqWrite s v).bonded = s.bonded ∧ (State.fenceReqWrite s v).stack = s.stack := by
  simp [State.fenceReqWrite]

@[simp] theorem State.unfenceWrite_kept (s : State) (v : Word) :
    (State.unfenceWrite s v).part = s.part ∧ (State.unfenceWrite s v).pending = s.pending ∧
    (State.unfenceWrite s v).bonded = s.bonded ∧ (State.unfenceWrite s v).stack = s.stack := by
  simp [State.unfenceWrite]

@[simp] theorem State.gkCtrlWrite_kept (s : State) (v : Nat) :
    (State.gkCtrlWrite s v).part = s.part ∧ (State.gkCtrlWrite s v).pending = s.pending ∧
    (State.gkCtrlWrite s v).bonded = s.bonded ∧ (State.gkCtrlWrite s v).stack = s.stack := by
  simp [State.gkCtrlWrite]

@[simp] theorem State.stepCmap_kept (s : State) :
    (State.stepCmap s).part = s.part ∧ (State.stepCmap s).pending = s.pending ∧
    (State.stepCmap s).bonded = s.bonded ∧ (State.stepCmap s).stack = s.stack := by
  simp [State.stepCmap]

@[simp] theorem State.coreMapWrite_kept (s : State) (l : Nat) (v : Word) :
    (State.coreMapWrite s l v).part = s.part ∧ (State.coreMapWrite s l v).pending = s.pending ∧
    (State.coreMapWrite s l v).bonded = s.bonded ∧ (State.coreMapWrite s l v).stack = s.stack := by
  simp [State.coreMapWrite, State.onDie, State.loadFree]

@[simp] theorem State.setEft_kept (s : State) (e : Nat) (x : Eft) :
    (State.setEft s e x).part = s.part ∧ (State.setEft s e x).pending = s.pending ∧
    (State.setEft s e x).bonded = s.bonded ∧ (State.setEft s e x).stack = s.stack := by
  simp [State.setEft]

@[simp] theorem State.eftCfgWrite_kept (s : State) (e : Nat) (v : Word) :
    (State.eftCfgWrite s e v).part = s.part ∧ (State.eftCfgWrite s e v).pending = s.pending ∧
    (State.eftCfgWrite s e v).bonded = s.bonded ∧ (State.eftCfgWrite s e v).stack = s.stack := by
  simp [State.eftCfgWrite, State.onK, State.inMain, State.loadFree, State.unlocked]

@[simp] theorem State.eftFlit_kept (s : State) (p : Nat) (began : Nat) (f : Flit) :
    (State.eftFlit s p began f).part = s.part ∧ (State.eftFlit s p began f).pending = s.pending ∧
    (State.eftFlit s p began f).bonded = s.bonded ∧ (State.eftFlit s p began f).stack = s.stack := by
  unfold State.eftFlit
  refine ⟨?_, ?_, ?_, ?_⟩ <;> repeat' first
    | split
    | simp
    | refine (State.each_part _ _ _ (fun _ _ => ?_)).trans ?_
    | refine (State.each_pending _ _ _ (fun _ _ => ?_)).trans ?_
    | refine (State.each_bonded _ _ _ (fun _ _ => ?_)).trans ?_
    | refine (State.each_stack _ _ _ (fun _ _ => ?_)).trans ?_

@[simp] theorem State.eftMsgAt_kept (s : State) (p : Nat) (at_ : Nat) (m : Msg) :
    (State.eftMsgAt s p at_ m).part = s.part ∧ (State.eftMsgAt s p at_ m).pending = s.pending ∧
    (State.eftMsgAt s p at_ m).bonded = s.bonded ∧ (State.eftMsgAt s p at_ m).stack = s.stack := by
  unfold State.eftMsgAt
  refine ⟨?_, ?_, ?_, ?_⟩ <;> repeat' first
    | split
    | simp
    | refine (State.each_part _ _ _ (fun _ _ => ?_)).trans ?_
    | refine (State.each_pending _ _ _ (fun _ _ => ?_)).trans ?_
    | refine (State.each_bonded _ _ _ (fun _ _ => ?_)).trans ?_
    | refine (State.each_stack _ _ _ (fun _ _ => ?_)).trans ?_

@[simp] theorem State.eftMsg_kept (s : State) (p : Nat) (slot : Nat) (m : Msg) :
    (State.eftMsg s p slot m).part = s.part ∧ (State.eftMsg s p slot m).pending = s.pending ∧
    (State.eftMsg s p slot m).bonded = s.bonded ∧ (State.eftMsg s p slot m).stack = s.stack := by
  unfold State.eftMsg
  refine ⟨?_, ?_, ?_, ?_⟩ <;> repeat' simp

/-! ### Compute -/

@[simp] theorem State.numEvents_kept (s : State) (t : Nat) (inv : Nat) (sat : Nat) :
    (State.numEvents s t inv sat).part = s.part ∧ (State.numEvents s t inv sat).pending = s.pending ∧
    (State.numEvents s t inv sat).bonded = s.bonded ∧ (State.numEvents s t inv sat).stack = s.stack := by
  simp [State.numEvents]

@[simp] theorem State.putRow_kept (s : State) (t : Nat) (c : Nat) (a : Nat) (sa : Nat) (vs : List Val) :
    (State.putRow s t c a sa vs).part = s.part ∧ (State.putRow s t c a sa vs).pending = s.pending := by
  simp [State.putRow]

@[simp] theorem State.doMatmul_kept (s : State) (t : Nat) (d : Nat) :
    (State.doMatmul s t d).part = s.part ∧ (State.doMatmul s t d).pending = s.pending := by
  simp [State.doMatmul]

@[simp] theorem State.doVector_kept (s : State) (t : Nat) (d : Nat) :
    (State.doVector s t d).part = s.part ∧ (State.doVector s t d).pending = s.pending := by
  simp [State.doVector]

@[simp] theorem State.doSoftmax_kept (s : State) (t : Nat) (d : Nat) :
    (State.doSoftmax s t d).part = s.part ∧ (State.doSoftmax s t d).pending = s.pending := by
  simp [State.doSoftmax]

@[simp] theorem State.doMerge_kept (s : State) (t : Nat) (d : Nat) :
    (State.doMerge s t d).part = s.part ∧ (State.doMerge s t d).pending = s.pending := by
  simp [State.doMerge]

@[simp] theorem State.reduceAdd_kept (s : State) (t : Nat) (d : Nat) :
    (State.reduceAdd s t d).part = s.part ∧ (State.reduceAdd s t d).pending = s.pending ∧
    (State.reduceAdd s t d).bonded = s.bonded ∧ (State.reduceAdd s t d).stack = s.stack := by
  simp [State.reduceAdd]

@[simp] theorem State.doReduce_kept (s : State) (t : Nat) (d : Nat) :
    (State.doReduce s t d).part = s.part ∧ (State.doReduce s t d).pending = s.pending := by
  simp [State.doReduce]

@[simp] theorem State.doTopk_kept (s : State) (t : Nat) (d : Nat) :
    (State.doTopk s t d).part = s.part ∧ (State.doTopk s t d).pending = s.pending := by
  simp [State.doTopk]

@[simp] theorem State.doLoad_kept (s : State) (t : Nat) (d : Nat) :
    (State.doLoad s t d).part = s.part ∧ (State.doLoad s t d).pending = s.pending := by
  simp [State.doLoad]

@[simp] theorem State.doStore_kept (s : State) (t : Nat) (d : Nat) :
    (State.doStore s t d).part = s.part ∧ (State.doStore s t d).pending = s.pending := by
  simp [State.doStore]

@[simp] theorem State.doSend_kept (s : State) (t : Nat) (d : Nat) :
    (State.doSend s t d).part = s.part ∧ (State.doSend s t d).pending = s.pending := by
  simp [State.doSend]

@[simp] theorem State.doRecv_kept (s : State) (t : Nat) (d : Nat) (c : Nat) :
    (State.doRecv s t d c).part = s.part ∧ (State.doRecv s t d c).pending = s.pending := by
  simp [State.doRecv]

/-! ### Tiles -/

@[simp] theorem State.beginProg_kept (s : State) (t : Nat) (l : Nat) :
    (State.beginProg s t l).part = s.part ∧ (State.beginProg s t l).pending = s.pending ∧
    (State.beginProg s t l).bonded = s.bonded ∧ (State.beginProg s t l).stack = s.stack := by
  simp [State.beginProg]

@[simp] theorem State.tileLeap_kept (s : State) (l : Nat) :
    (State.tileLeap s l).part = s.part ∧ (State.tileLeap s l).pending = s.pending ∧
    (State.tileLeap s l).bonded = s.bonded ∧ (State.tileLeap s l).stack = s.stack := by
  simp [State.tileLeap]

@[simp] theorem State.tilesLeap_kept (s : State) :
    (State.tilesLeap s).part = s.part ∧ (State.tilesLeap s).pending = s.pending ∧
    (State.tilesLeap s).bonded = s.bonded ∧ (State.tilesLeap s).stack = s.stack := by
  simp [State.tilesLeap]

@[simp] theorem State.endIfDone_kept (s : State) (t : Nat) :
    (State.endIfDone s t).part = s.part ∧ (State.endIfDone s t).pending = s.pending ∧
    (State.endIfDone s t).bonded = s.bonded ∧ (State.endIfDone s t).stack = s.stack := by
  unfold State.endIfDone
  refine ⟨?_, ?_, ?_, ?_⟩ <;> repeat' first | split | simp

@[simp] theorem State.modProg_kept (s : State) (t : Nat) (g : Prog → Prog) :
    (State.modProg s t g).part = s.part ∧ (State.modProg s t g).pending = s.pending ∧
    (State.modProg s t g).bonded = s.bonded ∧ (State.modProg s t g).stack = s.stack := by
  unfold State.modProg
  refine ⟨?_, ?_, ?_, ?_⟩ <;> repeat' first | split | simp

@[simp] theorem State.sentStop_kept (s : State) (t : Nat) :
    (State.sentStop s t).part = s.part ∧ (State.sentStop s t).pending = s.pending ∧
    (State.sentStop s t).bonded = s.bonded ∧ (State.sentStop s t).stack = s.stack := by
  simp [State.sentStop]

@[simp] theorem State.doneAdd_kept (s : State) (l : Nat) (d : Nat) :
    (State.doneAdd s l d).part = s.part ∧ (State.doneAdd s l d).pending = s.pending ∧
    (State.doneAdd s l d).bonded = s.bonded ∧ (State.doneAdd s l d).stack = s.stack := by
  simp [State.doneAdd]

@[simp] theorem State.compute_kept (s : State) (t : Nat) (d : Nat) :
    (State.compute s t d).part = s.part ∧ (State.compute s t d).pending = s.pending := by
  unfold State.compute
  refine ⟨?_, ?_⟩ <;> repeat' first | split | simp

@[simp] theorem State.occupy_kept (s : State) (t : Nat) (idx : Nat) (d : Nat) (due : Option Nat) (wait : Option Nat) :
    (State.occupy s t idx d due wait).part = s.part ∧ (State.occupy s t idx d due wait).pending = s.pending ∧
    (State.occupy s t idx d due wait).bonded = s.bonded ∧ (State.occupy s t idx d due wait).stack = s.stack := by
  simp [State.occupy]

@[simp] theorem State.arriveOn_kept (s : State) (k : Nat) (m : Msg) :
    (State.arriveOn s k m).part = s.part ∧ (State.arriveOn s k m).pending = s.pending ∧
    (State.arriveOn s k m).bonded = s.bonded ∧ (State.arriveOn s k m).stack = s.stack := by
  simp [State.arriveOn]

@[simp] theorem State.arrivalsDue_kept (s : State) (k : Nat) :
    (State.arrivalsDue s k).part = s.part ∧ (State.arrivalsDue s k).pending = s.pending ∧
    (State.arrivalsDue s k).bonded = s.bonded ∧ (State.arrivalsDue s k).stack = s.stack := by
  simp [State.arrivalsDue]

@[simp] theorem State.issueWatch_kept (s : State) (t : Nat) (p : Prog) (d : Nat) :
    (State.issueWatch s t p d).part = s.part ∧ (State.issueWatch s t p d).pending = s.pending ∧
    (State.issueWatch s t p d).bonded = s.bonded ∧ (State.issueWatch s t p d).stack = s.stack := by
  simp [State.issueWatch]

@[simp] theorem State.issueDesc_kept (s : State) (t : Nat) (p : Prog) (d : Nat) :
    (State.issueDesc s t p d).part = s.part ∧ (State.issueDesc s t p d).pending = s.pending := by
  unfold State.issueDesc
  refine ⟨?_, ?_⟩ <;> repeat' first | split | simp

@[simp] theorem State.tileIssue_kept (s : State) (t : Nat) (op : Nat) :
    (State.tileIssue s t op).part = s.part ∧ (State.tileIssue s t op).pending = s.pending := by
  unfold State.tileIssue
  refine ⟨?_, ?_⟩ <;> repeat' first | split | simp [State.onK]

@[simp] theorem State.completeAdds_kept (s : State) (l : Nat) (d : Nat) :
    (State.completeAdds s l d).part = s.part ∧ (State.completeAdds s l d).pending = s.pending ∧
    (State.completeAdds s l d).bonded = s.bonded ∧ (State.completeAdds s l d).stack = s.stack := by
  simp [State.completeAdds]

@[simp] theorem State.progMark_kept (s : State) (t : Nat) (l : Nat) (reason : Nat) (idx : Nat) :
    (State.progMark s t l reason idx).part = s.part ∧ (State.progMark s t l reason idx).pending = s.pending ∧
    (State.progMark s t l reason idx).bonded = s.bonded ∧ (State.progMark s t l reason idx).stack = s.stack := by
  simp [State.progMark]

@[simp] theorem State.progStop_kept (s : State) (t : Nat) (l : Nat) (reason : Nat) (idx : Nat) :
    (State.progStop s t l reason idx).part = s.part ∧ (State.progStop s t l reason idx).pending = s.pending ∧
    (State.progStop s t l reason idx).bonded = s.bonded ∧ (State.progStop s t l reason idx).stack = s.stack := by
  simp [State.progStop]

@[simp] theorem State.watchResponse_kept (s : State) (t : Nat) (p : Prog) (low : Nat) (status : Nat) :
    (State.watchResponse s t p low status).part = s.part ∧
    (State.watchResponse s t p low status).pending = s.pending ∧
    (State.watchResponse s t p low status).bonded = s.bonded ∧
    (State.watchResponse s t p low status).stack = s.stack := by
  unfold State.watchResponse
  refine ⟨?_, ?_, ?_, ?_⟩ <;> repeat' first | split | simp

@[simp] theorem State.recvResponse_kept (s : State) (t : Nat) (p : Prog) (low : Nat) (status : Nat) :
    (State.recvResponse s t p low status).part = s.part ∧
    (State.recvResponse s t p low status).pending = s.pending := by
  unfold State.recvResponse
  refine ⟨?_, ?_⟩ <;> repeat' first | split | simp

@[simp] theorem State.arriveResponse_kept (s : State) (t : Nat) (l : Nat) (acc : Nat) (p : Option Prog) (low :
  Nat) (status : Nat) :
    (State.arriveResponse s t l acc p low status).part = s.part ∧
    (State.arriveResponse s t l acc p low status).pending = s.pending ∧
    (State.arriveResponse s t l acc p low status).bonded = s.bonded ∧
    (State.arriveResponse s t l acc p low status).stack = s.stack := by
  unfold State.arriveResponse
  refine ⟨?_, ?_, ?_, ?_⟩ <;> repeat' first | split | simp

@[simp] theorem State.tileResponse_kept (s : State) (l : Nat) (acc : Nat) (m : Msg) :
    (State.tileResponse s l acc m).part = s.part ∧ (State.tileResponse s l acc m).pending = s.pending := by
  unfold State.tileResponse
  refine ⟨?_, ?_⟩ <;> repeat' first | split | simp

@[simp] theorem State.parityAt_kept (s : State) (t : Nat) (block : Nat) :
    (State.parityAt s t block).part = s.part ∧ (State.parityAt s t block).pending = s.pending ∧
    (State.parityAt s t block).bonded = s.bonded ∧ (State.parityAt s t block).stack = s.stack := by
  simp [State.parityAt]

@[simp] theorem State.tilePoison_kept (s : State) (t : Nat) (block : Nat) :
    (State.tilePoison s t block).part = s.part ∧ (State.tilePoison s t block).pending = s.pending ∧
    (State.tilePoison s t block).bonded = s.bonded ∧ (State.tilePoison s t block).stack = s.stack := by
  simp [State.tilePoison]

@[simp] theorem State.markTiles_kept (s : State) :
    (State.markTiles s).part = s.part ∧ (State.markTiles s).pending = s.pending ∧
    (State.markTiles s).bonded = s.bonded ∧ (State.markTiles s).stack = s.stack := by
  simp [State.markTiles]

@[simp] theorem State.dropTile_kept (s : State) (t : Nat) :
    (State.dropTile s t).part = s.part ∧ (State.dropTile s t).pending = s.pending := by
  simp [State.dropTile]

@[simp] theorem State.tileMapWrite_kept (s : State) (l : Nat) (v : Word) :
    (State.tileMapWrite s l v).part = s.part ∧ (State.tileMapWrite s l v).pending = s.pending := by
  simp [State.tileMapWrite, State.onK, State.inMain, State.loadFree, State.unlocked]

/-! ### Prefix -/

@[simp] theorem State.cmdRefused_kept (s : State) (code : Nat) :
    (State.cmdRefused s code).part = s.part ∧ (State.cmdRefused s code).pending = s.pending ∧
    (State.cmdRefused s code).bonded = s.bonded ∧ (State.cmdRefused s code).stack = s.stack := by
  simp [State.cmdRefused]

@[simp] theorem State.clOpen_kept (s : State) :
    (State.clOpen s).part = s.part ∧ (State.clOpen s).pending = s.pending := by
  simp [State.clOpen]

@[simp] theorem State.clImport_kept (s : State) :
    (State.clImport s).part = s.part ∧ (State.clImport s).pending = s.pending ∧
    (State.clImport s).bonded = s.bonded ∧ (State.clImport s).stack = s.stack := by
  unfold State.clImport
  refine ⟨?_, ?_, ?_, ?_⟩ <;> repeat' first | split | simp

@[simp] theorem State.doSeal_kept (s : State) (i : Nat) :
    (State.doSeal s i).part = s.part ∧ (State.doSeal s i).pending = s.pending ∧
    (State.doSeal s i).bonded = s.bonded ∧ (State.doSeal s i).stack = s.stack := by
  simp [State.doSeal]

@[simp] theorem State.doEvict_kept (s : State) (i : Nat) :
    (State.doEvict s i).part = s.part ∧ (State.doEvict s i).pending = s.pending ∧
    (State.doEvict s i).bonded = s.bonded ∧ (State.doEvict s i).stack = s.stack := by
  simp [State.doEvict]

@[simp] theorem State.pfxCtrlWrite_kept (s : State) (v : Nat) :
    (State.pfxCtrlWrite s v).part = s.part ∧ (State.pfxCtrlWrite s v).pending = s.pending := by
  unfold State.pfxCtrlWrite
  refine ⟨?_, ?_⟩ <;> repeat' first | split | simp [State.clCommand]

@[simp] theorem State.eat_kept (s : State) (p : Nat) (q : Nat) (n : Nat) :
    (State.eat s p q n).part = s.part ∧ (State.eat s p q n).pending = s.pending ∧
    (State.eat s p q n).bonded = s.bonded ∧ (State.eat s p q n).stack = s.stack := by
  simp [State.eat]

@[simp] theorem State.installDrop_kept (s : State) (reason : Nat) (die : Nat) (ref : Nat) :
    (State.installDrop s reason die ref).part = s.part ∧ (State.installDrop s reason die ref).pending = s.pending ∧
    (State.installDrop s reason die ref).bonded = s.bonded ∧
    (State.installDrop s reason die ref).stack = s.stack := by
  simp [State.installDrop]

@[simp] theorem State.notifyInstall_kept (s : State) (ntf : Option (Nat × Nat × Nat)) :
    (State.notifyInstall s ntf).part = s.part ∧ (State.notifyInstall s ntf).pending = s.pending ∧
    (State.notifyInstall s ntf).bonded = s.bonded ∧ (State.notifyInstall s ntf).stack = s.stack := by
  unfold State.notifyInstall
  refine ⟨?_, ?_, ?_, ?_⟩ <;> repeat' first | split | simp

@[simp] theorem State.setPresent_kept (s : State) (c : Clutch) (g : Nat) :
    (State.setPresent s c g).part = s.part ∧ (State.setPresent s c g).pending = s.pending := by
  simp [State.setPresent]

@[simp] theorem State.installPg_kept (s : State) (k : Nat) (i : Nat) (h : Nat) (bs : List Byte) :
    (State.installPg s k i h bs).part = s.part ∧ (State.installPg s k i h bs).pending = s.pending := by
  simp [State.installPg]

@[simp] theorem State.installCmd_kept (s : State) (k : Nat) (i : Nat) (h : Nat) :
    (State.installCmd s k i h).part = s.part ∧ (State.installCmd s k i h).pending = s.pending ∧
    (State.installCmd s k i h).bonded = s.bonded ∧ (State.installCmd s k i h).stack = s.stack := by
  unfold State.installCmd
  refine ⟨?_, ?_, ?_, ?_⟩ <;> repeat' first | split | simp

@[simp] theorem State.installAt_kept (s : State) (p : Nat) (k : Nat) (kinds : List Nat) :
    (State.installAt s p k kinds).part = s.part ∧ (State.installAt s p k kinds).pending = s.pending := by
  unfold State.installAt
  refine ⟨?_, ?_⟩ <;> repeat' first | split | simp

@[simp] theorem State.install_kept (s : State) (k : Nat) (kinds : List Nat) :
    (State.install s k kinds).part = s.part ∧ (State.install s k kinds).pending = s.pending := by
  unfold State.install
  refine ⟨?_, ?_⟩ <;> repeat' first | split | simp

@[simp] theorem State.runPass_kept (s : State) (j : Nat) (qs : List Query) :
    (State.runPass s j qs).part = s.part ∧ (State.runPass s j qs).pending = s.pending ∧
    (State.runPass s j qs).bonded = s.bonded ∧ (State.runPass s j qs).stack = s.stack := by
  unfold State.runPass
  refine ⟨?_, ?_, ?_, ?_⟩ <;> repeat' first | split | simp

@[simp] theorem State.migPage_kept (s : State) (x : MigPage) :
    (State.migPage s x).part = s.part ∧ (State.migPage s x).pending = s.pending := by
  unfold State.migPage
  refine ⟨?_, ?_⟩ <;> repeat' first | split | simp

@[simp] theorem State.passesLeap_kept (s : State) :
    (State.passesLeap s).part = s.part ∧ (State.passesLeap s).pending = s.pending ∧
    (State.passesLeap s).bonded = s.bonded ∧ (State.passesLeap s).stack = s.stack := by
  simp [State.passesLeap]

@[simp] theorem State.migLeap_kept (s : State) :
    (State.migLeap s).part = s.part ∧ (State.migLeap s).pending = s.pending := by
  unfold State.migLeap
  refine ⟨?_, ?_⟩ <;> repeat' simp

@[simp] theorem State.slotLeap_kept (s : State) :
    (State.slotLeap s).part = s.part ∧ (State.slotLeap s).pending = s.pending ∧
    (State.slotLeap s).bonded = s.bonded ∧ (State.slotLeap s).stack = s.stack := by
  simp [State.slotLeap]

@[simp] theorem State.pfxLeap_kept (s : State) :
    (State.pfxLeap s).part = s.part ∧ (State.pfxLeap s).pending = s.pending := by
  unfold State.pfxLeap
  refine ⟨?_, ?_⟩ <;> repeat' simp

/-! ### Fire -/

@[simp] theorem State.driveFire_kept (s : State) (p : Nat) :
    (State.driveFire s p).part = s.part ∧ (State.driveFire s p).pending = s.pending ∧
    (State.driveFire s p).bonded = s.bonded ∧ (State.driveFire s p).stack = s.stack := by
  simp [State.driveFire]

@[simp] theorem State.fireAhead_kept (s : State) :
    (State.fireAhead s).part = s.part ∧ (State.fireAhead s).pending = s.pending ∧
    (State.fireAhead s).bonded = s.bonded ∧ (State.fireAhead s).stack = s.stack := by
  simp [State.fireAhead]

@[simp] theorem State.switchAhead_kept (s : State) (x : Nat × Nat) :
    (State.switchAhead s x).part = s.part ∧ (State.switchAhead s x).pending = s.pending ∧
    (State.switchAhead s x).bonded = s.bonded ∧ (State.switchAhead s x).stack = s.stack := by
  simp [State.switchAhead]

@[simp] theorem State.strobes_kept (s : State) :
    (State.strobes s).part = s.part ∧ (State.strobes s).pending = s.pending ∧ (State.strobes s).bonded = s.bonded ∧
    (State.strobes s).stack = s.stack := by
  unfold State.strobes
  refine ⟨?_, ?_, ?_, ?_⟩ <;> repeat' first | split | simp

@[simp] theorem State.fireStrobe_kept (s : State) :
    (State.fireStrobe s).part = s.part ∧ (State.fireStrobe s).pending = s.pending ∧
    (State.fireStrobe s).bonded = s.bonded ∧ (State.fireStrobe s).stack = s.stack := by
  simp [State.fireStrobe]

@[simp] theorem State.fireTarget_kept (s : State) :
    (State.fireTarget s).part = s.part ∧ (State.fireTarget s).pending = s.pending ∧
    (State.fireTarget s).bonded = s.bonded ∧ (State.fireTarget s).stack = s.stack := by
  simp [State.fireTarget]

@[simp] theorem State.fireReport_kept (s : State) :
    (State.fireReport s).part = s.part ∧ (State.fireReport s).pending = s.pending ∧
    (State.fireReport s).bonded = s.bonded ∧ (State.fireReport s).stack = s.stack := by
  simp [State.fireReport]

@[simp] theorem State.fireEpoch_kept (s : State) (n : Nat) (e : Nat) :
    (State.fireEpoch s n e).part = s.part ∧ (State.fireEpoch s n e).pending = s.pending ∧
    (State.fireEpoch s n e).bonded = s.bonded ∧ (State.fireEpoch s n e).stack = s.stack := by
  unfold State.fireEpoch
  refine ⟨?_, ?_, ?_, ?_⟩ <;> repeat' first | split | simp

@[simp] theorem State.fire_kept (s : State) :
    (State.fire s).part = s.part ∧ (State.fire s).pending = s.pending := by
  simp [State.fire]

/-! ### Flags -/

@[simp] theorem State.msixSend_kept (s : State) :
    (State.msixSend s).part = s.part ∧ (State.msixSend s).pending = s.pending ∧
    (State.msixSend s).bonded = s.bonded ∧ (State.msixSend s).stack = s.stack := by
  simp [State.msixSend]

@[simp] theorem State.msixEvent_kept (s : State) :
    (State.msixEvent s).part = s.part ∧ (State.msixEvent s).pending = s.pending ∧
    (State.msixEvent s).bonded = s.bonded ∧ (State.msixEvent s).stack = s.stack := by
  simp [State.msixEvent]

@[simp] theorem State.msixAgain_kept (s : State) :
    (State.msixAgain s).part = s.part ∧ (State.msixAgain s).pending = s.pending ∧
    (State.msixAgain s).bonded = s.bonded ∧ (State.msixAgain s).stack = s.stack := by
  simp [State.msixAgain]

@[simp] theorem State.followInt_kept (s : State) :
    (State.followInt s).part = s.part ∧ (State.followInt s).pending = s.pending ∧
    (State.followInt s).bonded = s.bonded ∧ (State.followInt s).stack = s.stack := by
  simp [State.followInt]

/-! ### Host -/

@[simp] theorem State.setHeld_kept (s : State) (r : Nat) (d : Option (List Nat)) :
    (State.setHeld s r d).part = s.part ∧ (State.setHeld s r d).pending = s.pending ∧
    (State.setHeld s r d).bonded = s.bonded ∧ (State.setHeld s r d).stack = s.stack := by
  simp [State.setHeld]

@[simp] theorem State.dmaErr_kept (s : State) :
    (State.dmaErr s).part = s.part ∧ (State.dmaErr s).pending = s.pending ∧ (State.dmaErr s).bonded = s.bonded ∧
    (State.dmaErr s).stack = s.stack := by
  simp [State.dmaErr]

@[simp] theorem State.writeBack_kept (s : State) (r : Nat) (d : List Nat) (ws : List Nat) (dma : List Byte) :
    (State.writeBack s r d ws dma).part = s.part ∧ (State.writeBack s r d ws dma).pending = s.pending ∧
    (State.writeBack s r d ws dma).bonded = s.bonded ∧ (State.writeBack s r d ws dma).stack = s.stack := by
  simp [State.writeBack]

@[simp] theorem State.complete_kept (s : State) (r : Nat) (d : List Nat) (len : Nat) (status : Nat) (argH : Nat)
  (dma : List Byte) :
    (State.complete s r d len status argH dma).part = s.part ∧
    (State.complete s r d len status argH dma).pending = s.pending ∧
    (State.complete s r d len status argH dma).bonded = s.bonded ∧
    (State.complete s r d len status argH dma).stack = s.stack := by
  simp [State.complete]

@[simp] theorem State.endImage_kept (s : State) :
    (State.endImage s).part = s.part ∧ (State.endImage s).pending = s.pending ∧
    (State.endImage s).bonded = s.bonded ∧ (State.endImage s).stack = s.stack := by
  unfold State.endImage
  refine ⟨?_, ?_, ?_, ?_⟩ <;> repeat' first | split | simp

@[simp] theorem State.ringCtrl_kept (s : State) (r : Nat) (v : Nat) :
    (State.ringCtrl s r v).part = s.part ∧ (State.ringCtrl s r v).pending = s.pending ∧
    (State.ringCtrl s r v).bonded = s.bonded ∧ (State.ringCtrl s r v).stack = s.stack := by
  simp [State.ringCtrl]

@[simp] theorem State.mgmtToHost_kept (s : State) (p : Nat) (pl : List Byte) :
    (State.mgmtToHost s p pl).part = s.part ∧ (State.mgmtToHost s p pl).pending = s.pending ∧
    (State.mgmtToHost s p pl).bonded = s.bonded ∧ (State.mgmtToHost s p pl).stack = s.stack := by
  unfold State.mgmtToHost
  refine ⟨?_, ?_, ?_, ?_⟩ <;> repeat' first | split | simp

@[simp] theorem State.mgmtRx_kept (s : State) (p : Nat) (pl : List Byte) :
    (State.mgmtRx s p pl).part = s.part ∧ (State.mgmtRx s p pl).pending = s.pending ∧
    (State.mgmtRx s p pl).bonded = s.bonded ∧ (State.mgmtRx s p pl).stack = s.stack := by
  simp [State.mgmtRx]

@[simp] theorem State.mgmtIn_kept (s : State) (p : Nat) (payload : List Byte) :
    (State.mgmtIn s p payload).part = s.part ∧ (State.mgmtIn s p payload).pending = s.pending ∧
    (State.mgmtIn s p payload).bonded = s.bonded ∧ (State.mgmtIn s p payload).stack = s.stack := by
  simp [State.mgmtIn]

@[simp] theorem State.hostEv_kept (s : State) (a : Nat) (n : Nat) :
    (State.hostEv s a n).part = s.part ∧ (State.hostEv s a n).pending = s.pending ∧
    (State.hostEv s a n).bonded = s.bonded ∧ (State.hostEv s a n).stack = s.stack := by
  simp [State.hostEv]

@[simp] theorem State.hostRead_kept (s : State) (a : Nat) (n : Nat) :
    (State.hostRead s a n).1.part = s.part ∧ (State.hostRead s a n).1.pending = s.pending ∧
    (State.hostRead s a n).1.bonded = s.bonded ∧ (State.hostRead s a n).1.stack = s.stack := by
  simp [State.hostRead]

@[simp] theorem State.pcieUp_kept (s : State) :
    (State.pcieUp s).part = s.part ∧ (State.pcieUp s).pending = s.pending ∧ (State.pcieUp s).bonded = s.bonded ∧
    (State.pcieUp s).stack = s.stack := by
  simp [State.pcieUp]

@[simp] theorem State.trainPcie_kept (s : State) :
    (State.trainPcie s).part = s.part ∧ (State.trainPcie s).pending = s.pending ∧
    (State.trainPcie s).bonded = s.bonded ∧ (State.trainPcie s).stack = s.stack := by
  simp [State.trainPcie, State.onK]

@[simp] theorem State.rearm_kept (s : State) (v : Nat) :
    (State.rearm s v).part = s.part ∧ (State.rearm s v).pending = s.pending ∧ (State.rearm s v).bonded = s.bonded ∧
    (State.rearm s v).stack = s.stack := by
  simp [State.rearm]

@[simp] theorem State.ethBack_kept (s : State) (d : List Nat) (stamp : Option Nat) (step : Bool) (low : Nat) :
    (State.ethBack s d stamp step low).part = s.part ∧ (State.ethBack s d stamp step low).pending = s.pending ∧
    (State.ethBack s d stamp step low).bonded = s.bonded ∧
    (State.ethBack s d stamp step low).stack = s.stack := by
  simp [State.ethBack]

@[simp] theorem State.netDrop_kept (s : State) (count : Nat) :
    (State.netDrop s count).part = s.part ∧ (State.netDrop s count).pending = s.pending ∧
    (State.netDrop s count).bonded = s.bonded ∧ (State.netDrop s count).stack = s.stack := by
  simp [State.netDrop]

/-! ### LinkRx -/

@[simp] theorem State.badFlit_kept (s : State) (p : Nat) :
    (State.badFlit s p).part = s.part ∧ (State.badFlit s p).pending = s.pending ∧
    (State.badFlit s p).bonded = s.bonded ∧ (State.badFlit s p).stack = s.stack := by
  simp [State.badFlit]

@[simp] theorem State.discardCtl_kept (s : State) (p : Nat) (m : Msg) :
    (State.discardCtl s p m).part = s.part ∧ (State.discardCtl s p m).pending = s.pending ∧
    (State.discardCtl s p m).bonded = s.bonded ∧ (State.discardCtl s p m).stack = s.stack := by
  simp [State.discardCtl]

@[simp] theorem State.ctlRx_kept (s : State) (p : Nat) (slot : Nat) (mark : Stamp) (rep : Bool) (m : Msg) :
    (State.ctlRx s p slot mark rep m).part = s.part ∧ (State.ctlRx s p slot mark rep m).pending = s.pending ∧
    (State.ctlRx s p slot mark rep m).bonded = s.bonded ∧ (State.ctlRx s p slot mark rep m).stack = s.stack := by
  simp [State.ctlRx]

@[simp] theorem State.ctlList_kept (p slot : Nat) (mark : Stamp) (rep : Bool) : ∀ (l : List Msg) (s : State),
    (s.ctlList p slot mark rep l).part = s.part ∧ (s.ctlList p slot mark rep l).pending = s.pending ∧
    (s.ctlList p slot mark rep l).bonded = s.bonded ∧ (s.ctlList p slot mark rep l).stack = s.stack
  | [], s => by simp [State.ctlList]
  | [a], s => by simp [State.ctlList]
  | a :: b :: t, s => by
    have h1 := State.ctlList_kept p slot mark rep t
    have h2 := State.ctlList_kept p slot mark rep (b :: t)
    unfold State.ctlList
    refine ⟨?_, ?_, ?_, ?_⟩ <;> split <;> simp [h1, h2]

@[simp] theorem State.startMsg_kept (s : State) (p : Nat) (mt : Option Msg) (mn : Option Msg) :
    (State.startMsg s p mt mn).part = s.part ∧ (State.startMsg s p mt mn).pending = s.pending ∧
    (State.startMsg s p mt mn).bonded = s.bonded ∧ (State.startMsg s p mt mn).stack = s.stack := by
  unfold State.startMsg
  refine ⟨?_, ?_, ?_, ?_⟩ <;> repeat' first | split | simp [State.ctlMsg]

@[simp] theorem State.payloadRx_kept (s : State) (p : Nat) (typ : Nat) (began : Nat) (f : Flit) :
    (State.payloadRx s p typ began f).part = s.part ∧ (State.payloadRx s p typ began f).pending = s.pending := by
  simp [State.payloadRx, State.eggGate]

@[simp] theorem State.flushHeld_kept (s : State) (p : Nat) :
    (State.flushHeld s p).part = s.part ∧ (State.flushHeld s p).pending = s.pending := by
  simp [State.flushHeld]

@[simp] theorem State.contentRx_kept (s : State) (p : Nat) (f : Flit) (bs : List Byte) (mark : Stamp) :
    (State.contentRx s p f bs mark).part = s.part ∧ (State.contentRx s p f bs mark).pending = s.pending := by
  simp [State.contentRx]

@[simp] theorem State.noteTadpole_kept (s : State) (p : Nat) (rec_ : Nat) :
    (State.noteTadpole s p rec_).part = s.part ∧ (State.noteTadpole s p rec_).pending = s.pending ∧
    (State.noteTadpole s p rec_).bonded = s.bonded ∧ (State.noteTadpole s p rec_).stack = s.stack := by
  simp [State.noteTadpole]

@[simp] theorem State.upId_kept (s : State) (p : Nat) (rec_ : Nat) :
    (State.upId s p rec_).part = s.part ∧ (State.upId s p rec_).pending = s.pending ∧
    (State.upId s p rec_).bonded = s.bonded ∧ (State.upId s p rec_).stack = s.stack := by
  simp [State.upId]

@[simp] theorem State.goodFlit_kept (s : State) (p : Nat) (f : Flit) :
    (State.goodFlit s p f).part = s.part ∧ (State.goodFlit s p f).pending = s.pending ∧
    (State.goodFlit s p f).bonded = s.bonded ∧ (State.goodFlit s p f).stack = s.stack := by
  simp [State.goodFlit]

@[simp] theorem State.replayLate_kept (s : State) (p : Nat) (f : Flit) :
    (State.replayLate s p f).part = s.part ∧ (State.replayLate s p f).pending = s.pending ∧
    (State.replayLate s p f).bonded = s.bonded ∧ (State.replayLate s p f).stack = s.stack := by
  unfold State.replayLate
  refine ⟨?_, ?_, ?_, ?_⟩ <;> repeat' first | split | simp

@[simp] theorem State.idRx_kept (s : State) (p : Nat) (rec_ : Nat) :
    (State.idRx s p rec_).part = s.part ∧ (State.idRx s p rec_).pending = s.pending ∧
    (State.idRx s p rec_).bonded = s.bonded ∧ (State.idRx s p rec_).stack = s.stack := by
  simp [State.idRx]

@[simp] theorem State.takeFlit_kept (s : State) (p : Nat) (f : Flit) (bs : List Byte) (mark : Stamp) :
    (State.takeFlit s p f bs mark).part = s.part ∧ (State.takeFlit s p f bs mark).pending = s.pending := by
  simp [State.takeFlit]

@[simp] theorem State.failFlit_kept (s : State) (p : Nat) (crcBad : Bool) :
    (State.failFlit s p crcBad).part = s.part ∧ (State.failFlit s p crcBad).pending = s.pending ∧
    (State.failFlit s p crcBad).bonded = s.bonded ∧ (State.failFlit s p crcBad).stack = s.stack := by
  simp [State.failFlit]

@[simp] theorem State.fecCount_kept (s : State) (p : Nat) (ws : List (Option (List (Nat × Nat)))) :
    (State.fecCount s p ws).part = s.part ∧ (State.fecCount s p ws).pending = s.pending ∧
    (State.fecCount s p ws).bonded = s.bonded ∧ (State.fecCount s p ws).stack = s.stack := by
  simp [State.fecCount]

@[simp] theorem State.flitIn_kept (s : State) (p : Nat) (flit : List Byte) (fecOk : Bool) (mark : Stamp) :
    (State.flitIn s p flit fecOk mark).part = s.part ∧ (State.flitIn s p flit fecOk mark).pending = s.pending := by
  simp [State.flitIn]

/-! ### Image -/

@[simp] theorem State.putLoad_kept (s : State) (plan : Bool) (b : Nat) (w : Nat) :
    (State.putLoad s plan b w).part = s.part ∧ (State.putLoad s plan b w).pending = s.pending ∧
    (State.putLoad s plan b w).bonded = s.bonded ∧ (State.putLoad s plan b w).stack = s.stack := by
  unfold State.putLoad
  refine ⟨?_, ?_, ?_, ?_⟩ <;> repeat' first | split | simp

@[simp] theorem Shadow.word_kept (plan : Bool) (x : Shadow) (i : Nat) (wo : Nat) (a0 : Nat) (v : Nat) :
    (Shadow.word plan x i wo a0 v).st.part = x.st.part ∧ (Shadow.word plan x i wo a0 v).st.pending = x.st.pending ∧
    (Shadow.word plan x i wo a0 v).st.bonded = x.st.bonded ∧
    (Shadow.word plan x i wo a0 v).st.stack = x.st.stack := by
  unfold Shadow.word
  refine ⟨?_, ?_, ?_, ?_⟩ <;> repeat' first | split | simp

@[simp] theorem Shadow.foldl_part {α : Type} (x : Shadow) (l : List α) (g : Shadow → α → Shadow)
    (h : ∀ x a, (g x a).st.part = x.st.part) : (l.foldl g x).st.part = x.st.part := by
  induction l generalizing x with
  | nil => rfl
  | cons a l ih => rw [List.foldl_cons, ih, h]
@[simp] theorem Shadow.foldl_pending {α : Type} (x : Shadow) (l : List α) (g : Shadow → α → Shadow)
    (h : ∀ x a, (g x a).st.pending = x.st.pending) : (l.foldl g x).st.pending = x.st.pending := by
  induction l generalizing x with
  | nil => rfl
  | cons a l ih => rw [List.foldl_cons, ih, h]
@[simp] theorem Shadow.foldl_bonded {α : Type} (x : Shadow) (l : List α) (g : Shadow → α → Shadow)
    (h : ∀ x a, (g x a).st.bonded = x.st.bonded) : (l.foldl g x).st.bonded = x.st.bonded := by
  induction l generalizing x with
  | nil => rfl
  | cons a l ih => rw [List.foldl_cons, ih, h]
@[simp] theorem Shadow.foldl_stack {α : Type} (x : Shadow) (l : List α) (g : Shadow → α → Shadow)
    (h : ∀ x a, (g x a).st.stack = x.st.stack) : (l.foldl g x).st.stack = x.st.stack := by
  induction l generalizing x with
  | nil => rfl
  | cons a l ih => rw [List.foldl_cons, ih, h]
@[simp] theorem Shadow.regRec_kept (plan : Bool) (x : Shadow) (i : Nat) (r : ImgRec) :
    (Shadow.regRec plan x i r).st.part = x.st.part ∧ (Shadow.regRec plan x i r).st.pending = x.st.pending ∧
    (Shadow.regRec plan x i r).st.bonded = x.st.bonded ∧ (Shadow.regRec plan x i r).st.stack = x.st.stack := by
  simp [Shadow.regRec]

@[simp] theorem Shadow.memRec_kept (x : Shadow) (r : ImgRec) :
    (x.memRec r).st.part = x.st.part ∧ (x.memRec r).st.pending = x.st.pending := by
  unfold Shadow.memRec; refine ⟨?_, ?_⟩ <;> dsimp only <;> split <;> simp

@[simp] theorem Shadow.recs_kept (plan : Bool) (x : Shadow) (l : List ImgRec) :
    (Shadow.recs plan x l).st.part = x.st.part ∧ (Shadow.recs plan x l).st.pending = x.st.pending := by
  unfold Shadow.recs
  refine ⟨?_, ?_⟩
  · refine Shadow.foldl_part _ _ _ (fun x r => ?_)
    split
    · simp
    · split <;> simp
  · refine Shadow.foldl_pending _ _ _ (fun x r => ?_)
    split
    · simp
    · split <;> simp

@[simp] theorem State.loadReset_kept (s : State) (plan : Bool) :
    (State.loadReset s plan).part = s.part ∧ (State.loadReset s plan).pending = s.pending ∧
    (State.loadReset s plan).bonded = s.bonded ∧ (State.loadReset s plan).stack = s.stack := by
  simp [State.loadReset]

@[simp] theorem State.loadBase_kept (s : State) (plan : Bool) (bs : List Byte) :
    (s.loadBase plan bs).part = s.part ∧ (s.loadBase plan bs).pending = s.pending ∧
    (s.loadBase plan bs).bonded = s.bonded ∧ (s.loadBase plan bs).stack = s.stack := by
  unfold State.loadBase
  refine ⟨?_, ?_, ?_, ?_⟩
  · split
    · simp
    · refine ((State.loadReset_kept _ _).1).trans ?_
      split
      · exact State.each_part _ _ State.unpin (fun x r => (State.unpin_kept x r).1)
      · rfl
  · split
    · simp
    · refine ((State.loadReset_kept _ _).2.1).trans ?_
      split
      · exact State.each_pending _ _ State.unpin (fun x r => (State.unpin_kept x r).2.1)
      · rfl
  · split
    · simp
    · refine ((State.loadReset_kept _ _).2.2.1).trans ?_
      split
      · exact State.each_bonded _ _ State.unpin (fun x r => (State.unpin_kept x r).2.2.1)
      · rfl
  · split
    · simp
    · refine ((State.loadReset_kept _ _).2.2.2).trans ?_
      split
      · exact State.each_stack _ _ State.unpin (fun x r => (State.unpin_kept x r).2.2.2)
      · rfl

@[simp] theorem State.applied_kept (s : State) (plan : Bool) (bs : List Byte) :
    (s.applied plan bs).st.part = s.part ∧ (s.applied plan bs).st.pending = s.pending := by
  simp [State.applied]

/-! ### Regions -/

@[simp] theorem State.retrim_kept (s : State) (r : Nat) (margin : Int) :
    (State.retrim s r margin).part = s.part ∧ (State.retrim s r margin).pending = s.pending ∧
    (State.retrim s r margin).bonded = s.bonded ∧ (State.retrim s r margin).stack = s.stack := by
  simp [State.retrim]

@[simp] theorem State.freqMove_kept (s : State) (r : Nat) (margin : Int) :
    (State.freqMove s r margin).part = s.part ∧ (State.freqMove s r margin).pending = s.pending ∧
    (State.freqMove s r margin).bonded = s.bonded ∧ (State.freqMove s r margin).stack = s.stack := by
  simp [State.freqMove]

@[simp] theorem State.floorHold_kept (s : State) (r : Nat) (hold : Bool) :
    (State.floorHold s r hold).part = s.part ∧ (State.floorHold s r hold).pending = s.pending ∧
    (State.floorHold s r hold).bonded = s.bonded ∧ (State.floorHold s r hold).stack = s.stack := by
  simp [State.floorHold]

@[simp] theorem State.thermCap_kept (s : State) (r : Nat) (t : Int) :
    (State.thermCap s r t).part = s.part ∧ (State.thermCap s r t).pending = s.pending ∧
    (State.thermCap s r t).bonded = s.bonded ∧ (State.thermCap s r t).stack = s.stack := by
  simp [State.thermCap]

@[simp] theorem State.noteTemp_kept (s : State) (r : Nat) (t : Int) :
    (State.noteTemp s r t).part = s.part ∧ (State.noteTemp s r t).pending = s.pending ∧
    (State.noteTemp s r t).bonded = s.bonded ∧ (State.noteTemp s r t).stack = s.stack := by
  simp [State.noteTemp]

@[simp] theorem State.powerCap_kept (s : State) (pwr : Nat) :
    (State.powerCap s pwr).part = s.part ∧ (State.powerCap s pwr).pending = s.pending ∧
    (State.powerCap s pwr).bonded = s.bonded ∧ (State.powerCap s pwr).stack = s.stack := by
  simp [State.powerCap]

@[simp] theorem State.pinSet_kept (s : State) (r : Nat) (v : Word) :
    (State.pinSet s r v).part = s.part ∧ (State.pinSet s r v).pending = s.pending ∧
    (State.pinSet s r v).bonded = s.bonded ∧ (State.pinSet s r v).stack = s.stack := by
  simp [State.pinSet]

@[simp] theorem State.rgPinWrite_kept (s : State) (r : Nat) (v : Word) :
    (State.rgPinWrite s r v).part = s.part ∧ (State.rgPinWrite s r v).pending = s.pending ∧
    (State.rgPinWrite s r v).bonded = s.bonded ∧ (State.rgPinWrite s r v).stack = s.stack := by
  simp [State.rgPinWrite, State.onK, State.inMain, State.loadFree, State.unlocked]

/-! ### Resets -/

@[simp] theorem State.resetRegs_kept (s : State) (img : Bool) (g : Nat → Bool) :
    (State.resetRegs s img g).part = s.part ∧ (State.resetRegs s img g).pending = s.pending ∧
    (State.resetRegs s img g).bonded = s.bonded ∧ (State.resetRegs s img g).stack = s.stack := by
  simp [State.resetRegs]

@[simp] theorem State.bulkDrop_kept (s : State) (g : BulkUse → Bool) :
    (State.bulkDrop s g).part = s.part ∧ (State.bulkDrop s g).pending = s.pending ∧
    (State.bulkDrop s g).bonded = s.bonded ∧ (State.bulkDrop s g).stack = s.stack := by
  simp [State.bulkDrop]

@[simp] theorem State.pfxReset_kept (s : State) :
    (State.pfxReset s).part = s.part ∧ (State.pfxReset s).pending = s.pending ∧
    (State.pfxReset s).bonded = s.bonded ∧ (State.pfxReset s).stack = s.stack := by
  simp [State.pfxReset]

@[simp] theorem State.leapReset_kept (s : State) :
    (State.leapReset s).part = s.part ∧ (State.leapReset s).pending = s.pending ∧
    (State.leapReset s).bonded = s.bonded ∧ (State.leapReset s).stack = s.stack := by
  simp [State.leapReset]

@[simp] theorem State.regionReset_kept (s : State) :
    (State.regionReset s).part = s.part ∧ (State.regionReset s).pending = s.pending ∧
    (State.regionReset s).bonded = s.bonded ∧ (State.regionReset s).stack = s.stack := by
  simp [State.regionReset]

@[simp] theorem State.portReset_kept (s : State) (p : Nat) :
    (State.portReset s p).part = s.part ∧ (State.portReset s p).pending = s.pending ∧
    (State.portReset s p).bonded = s.bonded ∧ (State.portReset s p).stack = s.stack := by
  simp [State.portReset]

@[simp] theorem State.rootTime_kept (s : State) (root : Bool) :
    (State.rootTime s root).part = s.part ∧ (State.rootTime s root).pending = s.pending ∧
    (State.rootTime s root).bonded = s.bonded ∧ (State.rootTime s root).stack = s.stack := by
  simp [State.rootTime]

@[simp] theorem State.subReset_kept (s : State) (b : Nat) :
    (State.subReset s b).part = s.part ∧ (State.subReset s b).pending = s.pending ∧
    (State.subReset s b).bonded = s.bonded ∧ (State.subReset s b).stack = s.stack := by
  unfold State.subReset
  refine ⟨?_, ?_, ?_, ?_⟩ <;> repeat' first | split | simp

@[simp] theorem State.subResetX_kept (s : State) (b : Nat) :
    (State.subResetX s b).part = s.part ∧ (State.subResetX s b).pending = s.pending ∧
    (State.subResetX s b).bonded = s.bonded ∧ (State.subResetX s b).stack = s.stack := by
  simp [State.subResetX]

@[simp] theorem State.subHalt_kept (s : State) (must : Bool) :
    (State.subHalt s must).part = s.part ∧ (State.subHalt s must).pending = s.pending ∧
    (State.subHalt s must).bonded = s.bonded ∧ (State.subHalt s must).stack = s.stack := by
  simp [State.subHalt]

@[simp] theorem State.subresetWrite_kept (s : State) (v : Word) :
    (State.subresetWrite s v).part = s.part ∧ (State.subresetWrite s v).pending = s.pending ∧
    (State.subresetWrite s v).bonded = s.bonded ∧ (State.subresetWrite s v).stack = s.stack := by
  simp [State.subresetWrite]

@[simp] theorem State.subresetXWrite_kept (s : State) (v : Word) :
    (State.subresetXWrite s v).part = s.part ∧ (State.subresetXWrite s v).pending = s.pending ∧
    (State.subresetXWrite s v).bonded = s.bonded ∧ (State.subresetXWrite s v).stack = s.stack := by
  simp [State.subresetXWrite, State.onK]

@[simp] theorem State.restartParts_kept (s : State) :
    (State.restartParts s).part = s.part ∧ (State.restartParts s).pending = s.pending ∧
    (State.restartParts s).bonded = s.bonded ∧ (State.restartParts s).stack = s.stack := by
  simp [State.restartParts]

@[simp] theorem State.restart_kept (s : State) :
    (State.restart s).part = s.part ∧ (State.restart s).pending = s.pending ∧ (State.restart s).bonded = s.bonded ∧
    (State.restart s).stack = s.stack := by
  simp [State.restart]

@[simp] theorem State.poweredUp_kept (s : State) :
    (State.poweredUp s).part = s.part ∧ (State.poweredUp s).pending = s.pending := by
  simp [State.poweredUp]

@[simp] theorem State.mainLost_kept (s : State) :
    (State.mainLost s).part = s.part ∧ (State.mainLost s).pending = s.pending ∧
    (State.mainLost s).bonded = s.bonded ∧ (State.mainLost s).stack = s.stack := by
  simp [State.mainLost]

@[simp] theorem State.pcieReset_kept (s : State) :
    (State.pcieReset s).part = s.part ∧ (State.pcieReset s).pending = s.pending ∧
    (State.pcieReset s).bonded = s.bonded ∧ (State.pcieReset s).stack = s.stack := by
  simp [State.pcieReset]

/-! ### Loader -/

@[simp] theorem State.recordRefusal_kept (s : State) (plan : Bool) (x : Refused) :
    (State.recordRefusal s plan x).part = s.part ∧ (State.recordRefusal s plan x).pending = s.pending ∧
    (State.recordRefusal s plan x).bonded = s.bonded ∧ (State.recordRefusal s plan x).stack = s.stack := by
  simp [State.recordRefusal]

@[simp] theorem State.loadEnd_kept (s : State) :
    (State.loadEnd s).part = s.part ∧ (State.loadEnd s).pending = s.pending ∧ (State.loadEnd s).bonded = s.bonded ∧
    (State.loadEnd s).stack = s.stack := by
  simp [State.loadEnd]

@[simp] theorem State.loadRefuse_kept (s : State) (x : Refused) :
    (State.loadRefuse s x).part = s.part ∧ (State.loadRefuse s x).pending = s.pending ∧
    (State.loadRefuse s x).bonded = s.bonded ∧ (State.loadRefuse s x).stack = s.stack := by
  unfold State.loadRefuse
  refine ⟨?_, ?_, ?_, ?_⟩ <;> repeat' simp

@[simp] theorem State.loadStart_kept (s : State) (plan : Bool) :
    (State.loadStart s plan).part = s.part ∧ (State.loadStart s plan).pending = s.pending ∧
    (State.loadStart s plan).bonded = s.bonded ∧ (State.loadStart s plan).stack = s.stack := by
  simp [State.loadStart]

@[simp] theorem State.loadCommand_kept (s : State) (b : Nat) :
    (State.loadCommand s b).part = s.part ∧ (State.loadCommand s b).pending = s.pending ∧
    (State.loadCommand s b).bonded = s.bonded ∧ (State.loadCommand s b).stack = s.stack := by
  simp [State.loadCommand]

@[simp] theorem State.loadAbort_kept (s : State) :
    (State.loadAbort s).part = s.part ∧ (State.loadAbort s).pending = s.pending ∧
    (State.loadAbort s).bonded = s.bonded ∧ (State.loadAbort s).stack = s.stack := by
  simp [State.loadAbort]

@[simp] theorem State.cfgCtrlWrite_kept (s : State) (v : Nat) :
    (State.cfgCtrlWrite s v).part = s.part ∧ (State.cfgCtrlWrite s v).pending = s.pending ∧
    (State.cfgCtrlWrite s v).bonded = s.bonded ∧ (State.cfgCtrlWrite s v).stack = s.stack := by
  simp [State.cfgCtrlWrite]

@[simp] theorem State.takeBytes_kept (s : State) (bs : List Byte) :
    (State.takeBytes s bs).1.part = s.part ∧ (State.takeBytes s bs).1.pending = s.pending ∧
    (State.takeBytes s bs).1.bonded = s.bonded ∧ (State.takeBytes s bs).1.stack = s.stack := by
  simp [State.takeBytes]

@[simp] theorem State.loadDone_kept (s : State) (crcA : Nat) (bit : Nat) (bs : List Byte) :
    (State.loadDone s crcA bit bs).part = s.part ∧ (State.loadDone s crcA bit bs).pending = s.pending ∧
    (State.loadDone s crcA bit bs).bonded = s.bonded ∧ (State.loadDone s crcA bit bs).stack = s.stack := by
  simp [State.loadDone]

@[simp] theorem State.refEnable_kept (s : State) (ofs : List (Nat × Nat)) :
    (State.refEnable s ofs).part = s.part ∧ (State.refEnable s ofs).pending = s.pending ∧
    (State.refEnable s ofs).bonded = s.bonded ∧ (State.refEnable s ofs).stack = s.stack := by
  simp [State.refEnable]

@[simp] theorem State.loadPins_kept (s : State) (ofs : List (Nat × Nat)) :
    (State.loadPins s ofs).part = s.part ∧ (State.loadPins s ofs).pending = s.pending ∧
    (State.loadPins s ofs).bonded = s.bonded ∧ (State.loadPins s ofs).stack = s.stack := by
  simp [State.loadPins]

@[simp] theorem State.applyStruct_kept (s : State) (bs : List Byte) :
    (State.applyStruct s bs).part = s.part ∧ (State.applyStruct s bs).pending = s.pending := by
  simp [State.applyStruct]

@[simp] theorem State.keepSpawn_kept (s : State) (old : List Nat) :
    (State.keepSpawn s old).part = s.part ∧ (State.keepSpawn s old).pending = s.pending ∧
    (State.keepSpawn s old).bonded = s.bonded ∧ (State.keepSpawn s old).stack = s.stack := by
  simp [State.keepSpawn]

@[simp] theorem State.setPassLat_kept (s : State) :
    (State.setPassLat s).part = s.part ∧ (State.setPassLat s).pending = s.pending ∧
    (State.setPassLat s).bonded = s.bonded ∧ (State.setPassLat s).stack = s.stack := by
  simp [State.setPassLat]

@[simp] theorem State.clPlan_kept (s : State) :
    (State.clPlan s).part = s.part ∧ (State.clPlan s).pending = s.pending ∧ (State.clPlan s).bonded = s.bonded ∧
    (State.clPlan s).stack = s.stack := by
  simp [State.clPlan]

@[simp] theorem State.applyPlan_kept (s : State) (bs : List Byte) :
    (State.applyPlan s bs).part = s.part ∧ (State.applyPlan s bs).pending = s.pending := by
  simp [State.applyPlan]

@[simp] theorem State.clearPlan_kept (s : State) :
    (State.clearPlan s).part = s.part ∧ (State.clearPlan s).pending = s.pending ∧
    (State.clearPlan s).bonded = s.bonded ∧ (State.clearPlan s).stack = s.stack := by
  simp [State.clearPlan]

@[simp] theorem State.imageData_kept (s : State) (o : Nat) (bs : List Byte) :
    (State.imageData s o bs).part = s.part ∧ (State.imageData s o bs).pending = s.pending ∧
    (State.imageData s o bs).bonded = s.bonded ∧ (State.imageData s o bs).stack = s.stack := by
  simp [State.imageData]

@[simp] theorem State.bulkServe_kept (s : State) (use : BulkUse) (bs : List Byte) (err : Bool) :
    (State.bulkServe s use bs err).part = s.part ∧ (State.bulkServe s use bs err).pending = s.pending ∧
    (State.bulkServe s use bs err).bonded = s.bonded ∧ (State.bulkServe s use bs err).stack = s.stack := by
  unfold State.bulkServe
  refine ⟨?_, ?_, ?_, ?_⟩ <;> repeat' first | split | simp

/-! ### RegRead -/

@[simp] theorem State.regDone_kept (s : State) (d : Word) (err : Bool) :
    (State.regDone s d err).part = s.part ∧ (State.regDone s d err).pending = s.pending ∧
    (State.regDone s d err).bonded = s.bonded ∧ (State.regDone s d err).stack = s.stack := by
  simp [State.regDone]

@[simp] theorem State.answer_kept (s : State) (d : Word) (err : Bool) :
    (State.answer s d err).part = s.part ∧ (State.answer s d err).pending = s.pending ∧
    (State.answer s d err).bonded = s.bonded ∧ (State.answer s d err).stack = s.stack := by
  simp [State.answer]

@[simp] theorem State.capture_kept (s : State) (ws : List Nat) :
    (State.capture s ws).part = s.part ∧ (State.capture s ws).pending = s.pending ∧
    (State.capture s ws).bonded = s.bonded ∧ (State.capture s ws).stack = s.stack := by
  simp [State.capture]

@[simp] theorem State.peakRead_kept (s : State) :
    (State.peakRead s).part = s.part ∧ (State.peakRead s).pending = s.pending ∧
    (State.peakRead s).bonded = s.bonded ∧ (State.peakRead s).stack = s.stack := by
  simp [State.peakRead]

/-! ### RegWrite -/

@[simp] theorem State.putWord_kept (s : State) (a : Nat) (v : Nat) :
    (State.putWord s a v).part = s.part ∧ (State.putWord s a v).pending = s.pending ∧
    (State.putWord s a v).bonded = s.bonded ∧ (State.putWord s a v).stack = s.stack := by
  unfold State.putWord
  refine ⟨?_, ?_, ?_, ?_⟩ <;> repeat' first | split | simp

theorem ite_some_cases {α : Type} {c : Prop} [Decidable c] {x y : Option α} {t : α}
    (h : (if c then x else y) = some t) : x = some t ∨ y = some t := by
  by_cases hc : c
  · rw [if_pos hc] at h
    exact .inl h
  · rw [if_neg hc] at h
    exact .inr h
theorem State.arrayWrite_kept (s t : State) (a : Nat) (v : Word) (h : s.arrayWrite a v = some t) :
    t.part = s.part ∧ t.pending = s.pending := by
  unfold State.arrayWrite at h
  dsimp only at h
  repeat' (split at h)
  all_goals first
    | (cases h; simp [State.inMain, State.loadFree, State.unlocked])
    | (obtain ⟨r, -, rfl⟩ := Option.map_eq_some_iff.mp h; simp [State.inMain, State.loadFree, State.unlocked])
    | exact absurd h (by simp)

theorem State.krasWrite_kept (s t : State) (a : Nat) (v : Word) (h : s.krasWrite a v = some t) :
    t.part = s.part ∧ t.pending = s.pending := by
  unfold State.krasWrite at h
  dsimp only at h
  split_ifs at h <;> (cases h; simp [State.inMain, State.loadFree, State.unlocked])

theorem State.windowWrite_kept (s t : State) (a : Nat) (v : Word) (h : s.windowWrite a v = some t) :
    t.part = s.part ∧ t.pending = s.pending := by
  unfold State.windowWrite at h
  repeat
    rcases ite_some_cases h with h | h
    · cases h
      simp [State.inMain, State.loadFree, State.unlocked]
  cases h

theorem State.ctrlWrite_kept (s t : State) (a : Nat) (v : Word) (h : s.ctrlWrite a v = some t) :
    t.part = s.part ∧ t.pending = s.pending := by
  unfold State.ctrlWrite at h
  rcases Option.or_eq_some_iff.mp h with h | ⟨-, h⟩
  · rcases Option.or_eq_some_iff.mp h with h | ⟨-, h⟩
    · exact State.windowWrite_kept s t a v h
    · exact State.krasWrite_kept s t a v h
  · exact State.arrayWrite_kept s t a v h

@[simp] theorem State.refCfgSet_kept (s : State) (c : Nat) :
    (State.refCfgSet s c).part = s.part ∧ (State.refCfgSet s c).pending = s.pending ∧
    (State.refCfgSet s c).bonded = s.bonded ∧ (State.refCfgSet s c).stack = s.stack := by
  simp [State.refCfgSet]

@[simp] theorem State.afterPut_kept (old s : State) (a : Nat) :
    (State.afterPut old s a).part = s.part ∧ (State.afterPut old s a).pending = s.pending ∧
    (State.afterPut old s a).bonded = s.bonded ∧ (State.afterPut old s a).stack = s.stack := by
  unfold State.afterPut
  split
  · split <;> simp
  · split
    · simp
    · split <;> simp

@[simp] theorem State.wheelWrite_kept (s : State) (p : Nat) (k : Nat) (v : Word) :
    (State.wheelWrite s p k v).part = s.part ∧ (State.wheelWrite s p k v).pending = s.pending ∧
    (State.wheelWrite s p k v).bonded = s.bonded ∧ (State.wheelWrite s p k v).stack = s.stack := by
  simp [State.wheelWrite]

@[simp] theorem State.plainWrite_kept (s : State) (r : RRow) (a : Nat) (v : Word) :
    (State.plainWrite s r a v).part = s.part ∧ (State.plainWrite s r a v).pending = s.pending ∧
    (State.plainWrite s r a v).bonded = s.bonded ∧ (State.plainWrite s r a v).stack = s.stack := by
  simp [State.plainWrite]

@[simp] theorem State.portWrite_kept (s : State) (a : Nat) (v : Word) :
    (s.portWrite a v).part = s.part ∧ (s.portWrite a v).pending = s.pending := by
  unfold State.portWrite
  refine ⟨?_, ?_⟩
  · split
    · rfl
    · split
      · simp
      · split
        · rfl
        · split
          · rename_i h
            exact (State.ctrlWrite_kept s _ a v h).1
          · simp
  · split
    · rfl
    · split
      · simp
      · split
        · rfl
        · split
          · rename_i h
            exact (State.ctrlWrite_kept s _ a v h).2
          · simp

@[simp] theorem State.portAccess_kept (s : State) (a : Nat) (v : Word) :
    (State.portAccess s a v).part = s.part ∧ (State.portAccess s a v).pending = s.pending := by
  simp [State.portAccess, State.onDie]

/-! ### Tick -/

@[simp] theorem State.countTime_kept (s : State) :
    (State.countTime s).part = s.part ∧ (State.countTime s).pending = s.pending ∧
    (State.countTime s).bonded = s.bonded ∧ (State.countTime s).stack = s.stack := by
  simp [State.countTime]

@[simp] theorem State.countPulse_kept (s : State) :
    (State.countPulse s).part = s.part ∧ (State.countPulse s).pending = s.pending ∧
    (State.countPulse s).bonded = s.bonded ∧ (State.countPulse s).stack = s.stack := by
  simp [State.countPulse]

@[simp] theorem State.lookCore_kept (s : State) :
    (State.lookCore s).part = s.part ∧ (State.lookCore s).pending = s.pending ∧
    (State.lookCore s).bonded = s.bonded ∧ (State.lookCore s).stack = s.stack := by
  simp [State.lookCore, State.onDie]

@[simp] theorem State.endStrobes_kept (s : State) :
    (State.endStrobes s).part = s.part ∧ (State.endStrobes s).pending = s.pending ∧
    (State.endStrobes s).bonded = s.bonded ∧ (State.endStrobes s).stack = s.stack := by
  simp [State.endStrobes]

@[simp] theorem State.agePstep_kept (s : State) :
    (State.agePstep s).part = s.part ∧ (State.agePstep s).pending = s.pending ∧
    (State.agePstep s).bonded = s.bonded ∧ (State.agePstep s).stack = s.stack := by
  unfold State.agePstep
  refine ⟨?_, ?_, ?_, ?_⟩ <;> repeat' first | split | simp

@[simp] theorem State.nextBeat_kept (s : State) :
    (State.nextBeat s).part = s.part ∧ (State.nextBeat s).pending = s.pending ∧
    (State.nextBeat s).bonded = s.bonded ∧ (State.nextBeat s).stack = s.stack := by
  simp [State.nextBeat]

@[simp] theorem State.croakBack_kept (s : State) :
    (State.croakBack s).part = s.part ∧ (State.croakBack s).pending = s.pending ∧
    (State.croakBack s).bonded = s.bonded ∧ (State.croakBack s).stack = s.stack := by
  simp [State.croakBack]

@[simp] theorem State.closeRounds_kept (s : State) :
    (State.closeRounds s).part = s.part ∧ (State.closeRounds s).pending = s.pending ∧
    (State.closeRounds s).bonded = s.bonded ∧ (State.closeRounds s).stack = s.stack := by
  simp [State.closeRounds]

@[simp] theorem State.runClocks_kept (s : State) :
    (State.runClocks s).part = s.part ∧ (State.runClocks s).pending = s.pending ∧
    (State.runClocks s).bonded = s.bonded ∧ (State.runClocks s).stack = s.stack := by
  simp [State.runClocks]

@[simp] theorem State.coolStacks_kept (s : State) :
    (State.coolStacks s).part = s.part ∧ (State.coolStacks s).pending = s.pending ∧
    (State.coolStacks s).bonded = s.bonded ∧ (State.coolStacks s).stack = s.stack := by
  simp [State.coolStacks]

@[simp] theorem State.mainCycle_kept (s : State) :
    (State.mainCycle s).part = s.part ∧ (State.mainCycle s).pending = s.pending ∧
    (State.mainCycle s).bonded = s.bonded ∧ (State.mainCycle s).stack = s.stack := by
  simp [State.mainCycle]

@[simp] theorem State.tick_kept (s : State) :
    (State.tick s).part = s.part ∧ (State.tick s).pending = s.pending ∧ (State.tick s).bonded = s.bonded ∧
    (State.tick s).stack = s.stack := by
  simp [State.tick]

end Sys2Proof.Machine
end

