-- ==== Sys2Proof/Laws/Mem.lean ====
section
/-! SUPPORT. The operations that write memory keep its canonical form: one lemma per operation, for a state with sound
memories. -/

set_option maxRecDepth 4000

namespace Sys2Proof.Machine

/-- A state with the memories of a sound one is sound. -/
theorem State.memOk_of {s t : State} (hb : t.bonded = s.bonded) (hs : t.stack = s.stack) (h : s.memOk) : t.memOk := by
  unfold State.memOk
  rw [hb, hs]
  exact h

theorem State.memOk_each {α : Type} (s : State) (l : List α) (g : State → α → State) (h : s.memOk)
    (hg : ∀ x a, State.memOk x → State.memOk (g x a)) : (s.each l g).memOk := by
  unfold State.each
  induction l generalizing s with
  | nil => exact h
  | cons a l ih => exact ih _ (hg _ _ h)

theorem State.memOk_foldl {α : Type} (s : State) (l : List α) (g : State → α → State) (h : s.memOk)
    (hg : ∀ x a, State.memOk x → State.memOk (g x a)) : State.memOk (l.foldl g s) := State.memOk_each s l g h hg

theorem State.memOk_bonded {s : State} (a : Nat) (bs : List Byte) (h : s.memOk) :
    State.memOk { s with bonded := s.bonded.write a bs } := ⟨Memory.wf_write _ _ _ h.1, h.2⟩

theorem State.memOk_stack {s : State} (a : Nat) (bs : List Byte) (h : s.memOk) :
    State.memOk { s with stack := s.stack.write a bs } := ⟨h.1, Memory.wf_write _ _ _ h.2⟩

theorem State.tWrite_mem (s : State) (t : Nat) (ofs : Nat) (bs : List Byte) (h0 : s.memOk) :
    State.memOk (State.tWrite s t ofs bs) := by
  unfold State.tWrite
  repeat' first
    | assumption
    | split
    | with_reducible apply State.memOk_bonded
    | refine State.memOk_each _ _ _ ?_ (fun _ _ _ => ?_)

theorem State.writeSpace_mem (s : State) (sel : Nat) (a : Nat) (bs : List Byte) (h0 : s.memOk) :
    State.memOk (State.writeSpace s sel a bs) := by
  unfold State.writeSpace
  repeat' first
    | assumption
    | split
    | with_reducible apply State.memOk_stack
    | with_reducible apply State.tWrite_mem
    | refine State.memOk_foldl _ _ _ ?_ (fun _ _ _ => ?_)
    | simp

theorem State.eggPartRx_mem (s : State) (p : Nat) (pl : List Byte) (plen : Nat) (h0 : s.memOk) :
    State.memOk (State.eggPartRx s p pl plen) := by
  unfold State.eggPartRx
  repeat' first | assumption | split | with_reducible apply State.writeSpace_mem | simp

theorem State.eggRx_mem (s : State) (p : Nat) (pl : List Byte) (plen : Nat) (h0 : s.memOk) :
    State.memOk (State.eggRx s p pl plen) := by
  unfold State.eggRx
  repeat' first | assumption | split | with_reducible apply State.eggPartRx_mem | simp [State.memOk]

theorem State.txFlit_mem (s : State) (p : Nat) (h0 : s.memOk) : State.memOk (State.txFlit s p) := by
  unfold State.txFlit
  repeat' first | assumption | split | simp [State.memOk]

theorem State.putRow_mem (s : State) (t : Nat) (c : Nat) (a : Nat) (sa : Nat) (vs : List Val) (h0 : s.memOk) :
    State.memOk (State.putRow s t c a sa vs) := by
  unfold State.putRow
  repeat' first | assumption | split | with_reducible apply State.tWrite_mem | simp [State.memOk]

theorem State.doMatmul_mem (s : State) (t : Nat) (d : Nat) (h0 : s.memOk) : State.memOk (State.doMatmul s t d) := by
  unfold State.doMatmul
  repeat' first
    | assumption
    | with_reducible apply State.putRow_mem
    | refine State.memOk_foldl _ _ _ ?_ (fun _ _ _ => ?_)

theorem State.doVector_mem (s : State) (t : Nat) (d : Nat) (h0 : s.memOk) : State.memOk (State.doVector s t d) := by
  unfold State.doVector
  repeat' first | assumption | with_reducible apply State.putRow_mem

theorem State.doSoftmax_mem (s : State) (t : Nat) (d : Nat) (h0 : s.memOk) : State.memOk (State.doSoftmax s t d) := by
  unfold State.doSoftmax
  repeat' first
    | assumption
    | with_reducible apply State.putRow_mem
    | with_reducible apply State.tWrite_mem
    | refine State.memOk_foldl _ _ _ ?_ (fun _ _ _ => ?_)
    | simp [State.memOk]

theorem State.doMerge_mem (s : State) (t : Nat) (d : Nat) (h0 : s.memOk) : State.memOk (State.doMerge s t d) := by
  unfold State.doMerge
  repeat' first
    | assumption
    | with_reducible apply State.putRow_mem
    | with_reducible apply State.tWrite_mem
    | refine State.memOk_foldl _ _ _ ?_ (fun _ _ _ => ?_)
    | simp [State.memOk]

theorem State.doReduce_mem (s : State) (t : Nat) (d : Nat) (h0 : s.memOk) : State.memOk (State.doReduce s t d) := by
  unfold State.doReduce
  dsimp only
  split
  · exact State.putRow_mem _ _ _ _ _ _ (State.memOk_of (by simp) (by simp) h0)
  · exact State.memOk_of (by simp) (by simp) h0

theorem State.doTopk_mem (s : State) (t : Nat) (d : Nat) (h0 : s.memOk) : State.memOk (State.doTopk s t d) := by
  unfold State.doTopk
  repeat' first
    | assumption
    | with_reducible apply State.putRow_mem
    | with_reducible apply State.tWrite_mem

theorem State.doLoad_mem (s : State) (t : Nat) (d : Nat) (h0 : s.memOk) : State.memOk (State.doLoad s t d) := by
  unfold State.doLoad
  repeat' first
    | assumption
    | split
    | with_reducible apply State.tWrite_mem
    | refine State.memOk_foldl _ _ _ ?_ (fun _ _ _ => ?_)
    | simp

theorem State.doStore_mem (s : State) (t : Nat) (d : Nat) (h0 : s.memOk) : State.memOk (State.doStore s t d) := by
  unfold State.doStore
  repeat' first | assumption | with_reducible apply State.writeSpace_mem

theorem State.doSend_mem (s : State) (t : Nat) (d : Nat) (h0 : s.memOk) : State.memOk (State.doSend s t d) := by
  unfold State.doSend
  repeat' first
    | assumption
    | with_reducible apply State.writeSpace_mem
    | refine State.memOk_foldl _ _ _ ?_ (fun _ _ _ => ?_)

theorem State.doRecv_mem (s : State) (t : Nat) (d : Nat) (c : Nat) (h0 : s.memOk) :
    State.memOk (State.doRecv s t d c) := by
  unfold State.doRecv
  repeat' first
    | assumption
    | split
    | with_reducible apply State.tWrite_mem
    | refine State.memOk_foldl _ _ _ ?_ (fun _ _ _ => ?_)
    | simp

theorem State.compute_mem (s : State) (t : Nat) (d : Nat) (h0 : s.memOk) : State.memOk (State.compute s t d) := by
  unfold State.compute
  repeat' first
    | assumption
    | split
    | with_reducible apply State.doSend_mem
    | with_reducible apply State.doStore_mem
    | with_reducible apply State.doLoad_mem
    | with_reducible apply State.doTopk_mem
    | with_reducible apply State.doReduce_mem
    | with_reducible apply State.doMerge_mem
    | with_reducible apply State.doSoftmax_mem
    | with_reducible apply State.doVector_mem
    | with_reducible apply State.doMatmul_mem

theorem State.issueDesc_mem (s : State) (t : Nat) (p : Prog) (d : Nat) (h0 : s.memOk) :
    State.memOk (State.issueDesc s t p d) := by
  unfold State.issueDesc
  repeat' first | assumption | split | with_reducible apply State.compute_mem | simp [State.memOk]

theorem State.tileIssue_mem (s : State) (t : Nat) (op : Nat) (h0 : s.memOk) :
    State.memOk (State.tileIssue s t op) := by
  unfold State.tileIssue
  repeat' first
    | assumption
    | split
    | with_reducible apply State.issueDesc_mem
    | simp [State.memOk, State.onK]

theorem State.recvResponse_mem (s : State) (t : Nat) (p : Prog) (low : Nat) (status : Nat) (h0 : s.memOk) :
    State.memOk (State.recvResponse s t p low status) := by
  unfold State.recvResponse
  repeat' first | assumption | split | with_reducible apply State.doRecv_mem | simp [State.memOk]

theorem State.tileResponse_mem (s : State) (l acc : Nat) (m : Msg) (h0 : s.memOk) :
    State.memOk (State.tileResponse s l acc m) := by
  unfold State.tileResponse
  dsimp only
  split <;> first | exact h0 | exact State.recvResponse_mem _ _ _ _ _ h0 | exact State.memOk_of (by simp) (by simp) h0

theorem State.dropTile_mem (s : State) (t : Nat) (h0 : s.memOk) : State.memOk (State.dropTile s t) := by
  unfold State.dropTile
  have h1 : State.memOk { s with
      regs := s.regs.filter (fun x => !decide (tileReg t 0 ≤ x.1 ∧ x.1 < tileReg t 0 + 0x20000))
      bonded := s.bonded.filter (fun x => !decide (t * tileBytes ≤ x.1 ∧ x.1 < t * tileBytes + tileBytes)) } :=
    ⟨Memory.wf_filter _ _ h0.1, h0.2⟩
  exact State.memOk_of (by simp) (by simp) h1

theorem State.tileMapWrite_mem (s : State) (l : Nat) (v : Word) (h0 : s.memOk) :
    State.memOk (State.tileMapWrite s l v) := by
  unfold State.tileMapWrite
  repeat' first
    | assumption
    | split
    | with_reducible apply State.dropTile_mem
    | simp [State.memOk, State.onK, State.inMain, State.loadFree, State.unlocked]

theorem State.clOpen_mem (s : State) (h0 : s.memOk) : State.memOk (State.clOpen s) := by
  unfold State.clOpen
  repeat' first | assumption | split | with_reducible apply State.writeSpace_mem | simp [State.memOk]

theorem State.setPresent_mem (s : State) (c : Clutch) (g : Nat) (h0 : s.memOk) :
    State.memOk (State.setPresent s c g) := by
  unfold State.setPresent
  repeat' first | assumption | with_reducible apply State.writeSpace_mem

theorem State.pfxCtrlWrite_mem (s : State) (v : Nat) (h0 : s.memOk) : State.memOk (State.pfxCtrlWrite s v) := by
  have act : ∀ (c : Bool) (code : State → Nat → Option Nat) (g : State → Nat → State)
      (_ : ∀ x i, State.memOk x → State.memOk (g x i)) (x : State), x.memOk →
      State.memOk (if c then x.clCommand code g else x) := by
    intro c code g hg x hx
    split
    · unfold State.clCommand
      split
      · exact State.memOk_of (by simp) (by simp) hx
      · split
        · exact State.memOk_of (by simp) (by simp) hx
        · exact hg _ _ hx
    · exact hx
  have last : ∀ x : State, x.memOk → State.memOk (if bitOf v 4 then x.clImport else x) := by
    intro x hx
    split
    · exact State.memOk_of (by simp) (by simp) hx
    · exact hx
  have h1 : State.memOk (if bitOf v 0 then s.clOpen else s) := by
    split
    · exact State.clOpen_mem s h0
    · exact h0
  unfold State.pfxCtrlWrite
  refine last _ (act _ _ _ (fun x i hx => State.memOk_of (by simp) (by simp) hx) _
    (act _ _ _ (fun x i hx => State.memOk_of (by simp) (by simp) hx) _
      (act _ _ _ (fun x i hx => State.memOk_of (by simp) (by simp) hx) _ h1)))

theorem State.installPg_mem (s : State) (k : Nat) (i : Nat) (h : Nat) (bs : List Byte) (h0 : s.memOk) :
    State.memOk (State.installPg s k i h bs) := by
  unfold State.installPg
  repeat' first | assumption | split | with_reducible apply State.setPresent_mem | simp [State.memOk]

theorem State.installAt_mem (s : State) (p : Nat) (k : Nat) (kinds : List Nat) (h0 : s.memOk) :
    State.memOk (State.installAt s p k kinds) := by
  suffices h : ∀ P : State → Prop, (∀ x, P x ↔ State.memOk x) → P (State.installAt s p k kinds) from
    (h State.memOk (fun _ => Iff.rfl))
  intro P hP
  unfold State.installAt
  dsimp only
  split
  · exact (hP _).mpr h0
  · split
    · split
      · exact (hP _).mpr (State.memOk_of (by simp) (by simp) h0)
      · split
        · exact (hP _).mpr h0
        · exact (hP _).mpr (State.installPg_mem _ _ _ _ _ (State.memOk_of (by simp) (by simp) h0))
    · split
      · split
        · exact (hP _).mpr (State.memOk_of (by simp) (by simp) h0)
        · exact (hP _).mpr (State.memOk_of (by simp) (by simp) h0)
      · exact (hP _).mpr (State.memOk_of (by simp) (by simp) h0)

theorem State.install_mem (s : State) (k : Nat) (kinds : List Nat) (h0 : s.memOk) :
    State.memOk (State.install s k kinds) := by
  unfold State.install
  split
  · exact h0
  · split
    · exact State.installAt_mem _ _ _ _ h0
    · exact h0

theorem State.migPage_mem (s : State) (x : MigPage) (h0 : s.memOk) : State.memOk (State.migPage s x) := by
  unfold State.migPage
  split
  · exact h0
  · dsimp only
    have h1 : State.memOk ((s.stackEv 0x60 ((s.clutch x.ent).base + x.page * (s.clutch x.ent).pd)
        (s.clutch x.ent).pd).writeSpace 0
        ((s.f CACHE_BASE + x.block) * 65536)
        (s.readSpace 1 ((s.clutch x.ent).base + x.page * (s.clutch x.ent).pd) (s.clutch x.ent).pd)) :=
      State.writeSpace_mem _ _ _ _ (State.memOk_of (by simp) (by simp) h0)
    split
    · exact State.memOk_of (by simp) (by simp) h1
    · exact State.memOk_of (by simp) (by simp) h1

theorem State.migLeap_mem (s : State) (h0 : s.memOk) : State.memOk (State.migLeap s) := by
  unfold State.migLeap
  refine State.memOk_each _ _ _ h0 (fun x m hx => ?_)
  have h1 := State.memOk_each _ m.drop (fun x i => x.dropResid i) hx
    (fun x i h => State.memOk_of (State.dropResid_kept x i).2.2.1 (State.dropResid_kept x i).2.2.2 h)
  exact State.memOk_of (by simp) (by simp)
    (State.memOk_each _ m.pages (fun x y => x.migPage y) h1 (fun x y h => State.migPage_mem x y h))

theorem State.pfxLeap_mem (s : State) (h0 : s.memOk) : State.memOk (State.pfxLeap s) := by
  unfold State.pfxLeap
  exact State.memOk_of (by simp) (by simp) (State.migLeap_mem s.passesLeap (State.memOk_of (by simp) (by simp) h0))

theorem State.fire_mem (s : State) (h0 : s.memOk) : State.memOk (State.fire s) := by
  have key : ∀ y : State, y.memOk → State.memOk (((y.raise LEAP_CAUSE 0).ev 2).leapChecks) :=
    fun y hy => State.memOk_of (by simp) (by simp) hy
  have leap : ∀ y : State, y.memOk → State.memOk (if y.part.isK then y.tilesLeap.pfxLeap else y) := by
    intro y hy
    split
    · exact State.pfxLeap_mem _ (State.memOk_of (by simp) (by simp) hy)
    · exact hy
  unfold State.fire
  exact key _ (leap _ (State.memOk_of (by simp) (by simp) h0))

theorem State.payloadRx_mem (s : State) (p : Nat) (typ : Nat) (began : Nat) (f : Flit) (h0 : s.memOk) :
    State.memOk (State.payloadRx s p typ began f) := by
  unfold State.payloadRx
  repeat' first
    | assumption
    | split
    | with_reducible apply State.eggRx_mem
    | simp [State.memOk, State.eggGate]

theorem State.flushHeld_mem (s : State) (p : Nat) (h0 : s.memOk) : State.memOk (State.flushHeld s p) := by
  unfold State.flushHeld
  repeat' first
    | assumption
    | with_reducible apply State.payloadRx_mem
    | refine State.memOk_foldl _ _ _ ?_ (fun _ _ _ => ?_)

theorem State.contentRx_mem (s : State) (p : Nat) (f : Flit) (bs : List Byte) (mark : Stamp) (h0 : s.memOk) :
    State.memOk (State.contentRx s p f bs mark) := by
  unfold State.contentRx
  repeat' first | assumption | split | with_reducible apply State.payloadRx_mem | simp [State.memOk]

theorem State.takeFlit_mem (s : State) (p : Nat) (f : Flit) (bs : List Byte) (mark : Stamp) (h0 : s.memOk) :
    State.memOk (State.takeFlit s p f bs mark) := by
  unfold State.takeFlit
  repeat' first
    | assumption
    | split
    | with_reducible apply State.contentRx_mem
    | with_reducible apply State.flushHeld_mem
    | simp [State.memOk]

theorem State.flitIn_mem (s : State) (p : Nat) (flit : List Byte) (fecOk : Bool) (mark : Stamp) (h0 : s.memOk) :
    State.memOk (State.flitIn s p flit fecOk mark) := by
  unfold State.flitIn
  split
  · exact State.memOk_of (by simp) (by simp) h0
  · split
    · exact State.memOk_of (by simp) (by simp) h0
    · exact State.takeFlit_mem _ _ _ _ _ (State.memOk_of (by simp) (by simp) h0)

theorem State.poweredUp_mem (s : State) : State.memOk s.poweredUp := ⟨rfl, rfl⟩

theorem Shadow.memOk_foldl {α : Type} (x : Shadow) (l : List α) (g : Shadow → α → Shadow) (h : x.st.memOk)
    (hg : ∀ x a, State.memOk (Shadow.st x) → State.memOk (Shadow.st (g x a))) : (l.foldl g x).st.memOk := by
  induction l generalizing x with
  | nil => exact h
  | cons a l ih => exact ih _ (hg _ _ h)

theorem Shadow.memRec_mem (x : Shadow) (r : ImgRec) (h0 : x.st.memOk) : State.memOk (x.memRec r).st := by
  unfold Shadow.memRec
  dsimp only
  split <;> exact State.writeSpace_mem _ _ _ _ h0

theorem Shadow.recs_mem (plan : Bool) (x : Shadow) (l : List ImgRec) (h0 : x.st.memOk) :
    State.memOk (Shadow.recs plan x l).st := by
  unfold Shadow.recs
  refine Shadow.memOk_foldl _ _ _ h0 (fun x r hx => ?_)
  split
  · exact State.memOk_of (by simp) (by simp) hx
  · split
    · exact Shadow.memRec_mem _ _ hx
    · exact hx

theorem State.applied_mem (s : State) (plan : Bool) (bs : List Byte) (h0 : s.memOk) :
    State.memOk (s.applied plan bs).st :=
  Shadow.recs_mem _ _ _ (State.memOk_of (by simp) (by simp) h0)

theorem State.applyStruct_mem (s : State) (bs : List Byte) (h0 : s.memOk) : State.memOk (s.applyStruct bs) :=
  State.memOk_of (s := (s.applied false bs).st) (by simp [State.applyStruct]) (by simp [State.applyStruct])
    (State.applied_mem s false bs h0)

theorem State.applyPlan_mem (s : State) (bs : List Byte) (h0 : s.memOk) : State.memOk (s.applyPlan bs) := by
  have h1 := State.applied_mem (s.setB PLAN_VALID false) true bs (State.memOk_of (by simp) (by simp) h0)
  unfold State.applyPlan
  refine State.memOk_of (s := ((s.setB PLAN_VALID false).applied true bs).st) ?_ ?_ h1 <;> simp

theorem State.windowWrite_mem (s t : State) (a : Nat) (v : Word) (h : s.windowWrite a v = some t) (h0 : s.memOk) :
    t.memOk := by
  unfold State.windowWrite at h
  repeat
    rcases ite_some_cases h with h | h
    · cases h
      exact State.memOk_of (by simp [State.inMain, State.loadFree, State.unlocked])
        (by simp [State.inMain, State.loadFree, State.unlocked]) h0
  cases h

theorem State.krasWrite_mem (s t : State) (a : Nat) (v : Word) (h : s.krasWrite a v = some t) (h0 : s.memOk) :
    t.memOk := by
  unfold State.krasWrite at h
  repeat
    rcases ite_some_cases h with h | h
    · first
        | (cases h; done)
        | (cases h; exact State.pfxCtrlWrite_mem _ _ h0)
        | (cases h
           exact State.memOk_of (by simp [State.inMain, State.loadFree, State.unlocked])
            (by simp [State.inMain, State.loadFree, State.unlocked]) h0)
  cases h

theorem State.arrayWrite_mem (s t : State) (a : Nat) (v : Word) (h : s.arrayWrite a v = some t) (h0 : s.memOk) :
    t.memOk := by
  unfold State.arrayWrite at h
  dsimp only at h
  repeat' (split at h)
  all_goals first
    | (cases h; done)
    | (cases h
       exact State.memOk_of (by simp [State.inMain, State.loadFree, State.unlocked])
        (by simp [State.inMain, State.loadFree, State.unlocked]) h0)
    | (cases h
       exact State.tileMapWrite_mem _ _ _ h0)
    | (obtain ⟨r, -, rfl⟩ := Option.map_eq_some_iff.mp h
       exact State.memOk_of (by simp [State.inMain, State.loadFree, State.unlocked])
        (by simp [State.inMain, State.loadFree, State.unlocked]) h0)

theorem State.ctrlWrite_mem (s t : State) (a : Nat) (v : Word) (h : s.ctrlWrite a v = some t) (h0 : s.memOk) :
    t.memOk := by
  unfold State.ctrlWrite at h
  rcases Option.or_eq_some_iff.mp h with h | ⟨-, h⟩
  · rcases Option.or_eq_some_iff.mp h with h | ⟨-, h⟩
    · exact State.windowWrite_mem s t a v h h0
    · exact State.krasWrite_mem s t a v h h0
  · exact State.arrayWrite_mem s t a v h h0

theorem State.portWrite_mem (s : State) (a : Nat) (v : Word) (h0 : s.memOk) : (s.portWrite a v).memOk := by
  unfold State.portWrite
  split
  · exact h0
  · split
    · exact State.memOk_of (by simp) (by simp) h0
    · split
      · exact h0
      · split
        · rename_i h
          exact State.ctrlWrite_mem s _ a v h h0
        · exact State.memOk_of (by simp) (by simp) h0

theorem State.portAccess_mem (s : State) (a : Nat) (v : Word) (h0 : s.memOk) : (s.portAccess a v).memOk := by
  unfold State.portAccess
  exact State.memOk_of (by simp [State.onDie]) (by simp [State.onDie]) (State.portWrite_mem s a v h0)

end Sys2Proof.Machine
end

