-- ==== Sys2Proof/WellFormed.lean ====
section
/-! DEFINITION. Well-formed commands: operand numbers that the hardware has. A port is one of 72 (R176), a ring one of
8 (R371), a tile one of 72 (R225), a channel one of 4 (R88), the codewords of a flit at most two (R179). No meaning relies on it: a
command whose operand names nothing leaves the state as it is. -/

namespace Sys2Proof

/-- The operands of a command lie in the ranges of the tables that number them. -/
def Instr.wellFormed : Instr → Bool
  | .standbyPowerUp => true
  | .standbySupplyFault => true
  | .mainSupplyFault => true
  | .mainSupplyReturn => true
  | .aonPor => true
  | .resetAssert r => decide (r < 4)
  | .resetRelease r _ => decide (r < 4)
  | .baskClear => true
  | .baskSet => true
  | .rootpllLock => true
  | .rootpllLoss => true
  | .candidateFault x => decide (x.c < 5 ∧ x.kind < 5)
  | .candidateQualified c => decide (c < 5)
  | .refSelWrite _ => true
  | .ppsFault c => decide (c < 2)
  | .slewComplete => true
  | .phaseStepArm _ => true
  | .phaseStepCancel _ => true
  | .phaseStepApply => true
  | .align _ => true
  | .alignBoundary => true
  | .ppsOutEdge => true
  | .tickOutEdge => true
  | .timeIncrWrite _ => true
  | .secArm _ => true
  | .secLoadApply => true
  | .wideRegisterLowRead a => decide (a % 4 = 0 ∧ a < 2 ^ 26)
  | .wideRegisterHighWrite a _ => decide (a % 4 = 0 ∧ a < 2 ^ 26)
  | .syncSend p => decide (p < 72)
  | .sync p _ _ _ => decide (p < 72)
  | .req p _ _ _ => decide (p < 72)
  | .resp p _ _ _ => decide (p < 72)
  | .exchangeTimeout p => decide (p < 72)
  | .settleDone => true
  | .tdcEdge src _ => decide (src < 256)
  | .chGo ch _ => decide (ch < 4)
  | .chAbort ch _ => decide (ch < 4)
  | .frameReceive _ _ _ => true
  | .ethTransmitDescriptor _ _ => true
  | .linkChange _ => true
  | .modChange _ => true
  | .utcClaimWrite _ => true
  | .start _ => true
  | .haltReq _ => true
  | .stopReq _ => true
  | .cancelStop _ => true
  | .startTStartN p _ _ => decide (p < 72)
  | .decisionInstant => true
  | .go p _ => decide (p < 72)
  | .skip p _ => decide (p < 72)
  | .halt p _ => decide (p < 72)
  | .stop p _ => decide (p < 72)
  | .orphanLimit => true
  | .leapFire => true
  | .ready p _ => decide (p < 72)
  | .fail p _ => decide (p < 72)
  | .cack p _ => decide (p < 72)
  | .lastCommitWrite _ => true
  | .epochArm _ => true
  | .epochCancel _ => true
  | .softwareEpoch => true
  | .add c => decide (c.port < 64)
  | .read c => decide (c.port < 64)
  | .watch c => decide (c.port < 64)
  | .unwatch c => decide (c.port < 64)
  | .requestRefusal => true
  | .addEffect => true
  | .watchEntry => true
  | .unwatchEffect => true
  | .readSample => true
  | .watchTimeout => true
  | .responsePresent port => decide (port < 64)
  | .cmpStall port => decide (port < 64)
  | .cadd p _ => decide (p < 72)
  | .caddApply => true
  | .taskSwitch _ => true
  | .forceData _ => true
  | .forceApply => true
  | .arriveWait c => decide (c.port < 64)
  | .arrive c => decide (c.port < 64)
  | .wait c => decide (c.port < 64)
  | .bread c => decide (c.port < 64)
  | .barrierRequestEffect => true
  | .combinedArrival p _ => decide (p < 72)
  | .release p _ => decide (p < 72)
  | .releaseApply => true
  | .barStall _ => true
  | .deadlock => true
  | .slotTransmit p => decide (p < 72)
  | .flitReceive p ofs cws pos _ => decide (p < 72 ∧ ofs < 5140 ∧ cws.length ≤ 2) && pos.all (fun b => decide (b < 256))
  | .replayTimeout p sq => decide (p < 72 ∧ sq < 4096)
  | .linkDead p _ => decide (p < 72)
  | .trainingStateDone p => decide (p < 72)
  | .trainingTimeout p => decide (p < 72)
  | .retrain p _ => decide (p < 72)
  | .berCheck p lane => decide (p < 72 ∧ lane < 8)
  | .phyRxLock lane _ => decide (lane < 8)
  | .phyTxffeDone => true
  | .phyMarginTgl lane _ => decide (lane < 8)
  | .croakSend => true
  | .croak p _ => decide (p < 72)
  | .detectorCheck p => decide (p < 72)
  | .fenceNotice p _ => decide (p < 72)
  | .upSwitchNotice p _ => decide (p < 72)
  | .mgmtReceive p _ => decide (p < 72)
  | .bulkReadData _ data _ => decide (data.length = 128)
  | .bulkWriteResponse _ _ => true
  | .dataDue p q => decide (p < 72 ∧ q < 64)
  | .spawnArm _ => true
  | .spawnDisarm _ => true
  | .eggPart p payload => decide (p < 72 ∧ payload.length = 240)
  | .eggTrailer p payload => decide (p < 72 ∧ payload.length = 240)
  | .eggCheckDone => true
  | .controlRecord p payload => decide (p < 72 ∧ payload.length = 240)
  | .controlRecordSend p => decide (p < 72)
  | .load t => decide (t < 72)
  | .store t => decide (t < 72)
  | .matmul t => decide (t < 72)
  | .vector t => decide (t < 72)
  | .softmaxPart t => decide (t < 72)
  | .merge t => decide (t < 72)
  | .reduce t => decide (t < 72)
  | .topk t => decide (t < 72)
  | .send t => decide (t < 72)
  | .recv t => decide (t < 72)
  | .signal t => decide (t < 72)
  | .watchDescriptor t => decide (t < 72)
  | .loop t => decide (t < 72)
  | .descriptorComplete t unit => decide (t < 72 ∧ unit < 4)
  | .parityClean t block => decide (t < 72 ∧ block < 2048)
  | .refetchDone t block => decide (t < 72 ∧ block < 2048)
  | .parityDirty t block => decide (t < 72 ∧ block < 2048)
  | .stackEccCorrected st => decide (st < 6)
  | .stackUncorrectable st _ _ _ => decide (st < 6)
  | .tileMapWrite l _ => decide (l < 256)
  | .pfxOpen _ => true
  | .pfxImport _ => true
  | .importDone _ => true
  | .pfxSeal _ => true
  | .pfxEvict _ => true
  | .pfxFree _ => true
  | .installPage d => decide (d < 16)
  | .installSeal d => decide (d < 16)
  | .installEvict d => decide (d < 16)
  | .pageWriteDone _ _ => true
  | .passStart j => decide (j < 1024)
  | .passReplyPost j => decide (j < 1024)
  | .migrationSlot => true
  | .migrationCopyDone => true
  | .loopDecision r _ => decide (r < 64)
  | .voltageReached r => decide (r < 64)
  | .thermalCapUpdate r _ => decide (r < 64)
  | .powerCapUpdate _ => true
  | .thermalTrip t => decide (t < 72)
  | .droop r => decide (r < 64)
  | .rgPinWrite r _ => decide (r < 64)
  | .pinDone r => decide (r < 64)
  | .stretchCntStep r _ => decide (r < 64)
  | .monTgl r _ _ => decide (r < 64)
  | .fenceReq _ => true
  | .unfence _ => true
  | .eftCfgWrite _ _ => true
  | .eftStepClose _ => true
  | .coreMapWrite l _ => decide (l < 256)
  | .sentinelStart t => decide (t < 72)
  | .sentinelEnd t => decide (t < 72)
  | .snapReq _ => true
  | .geckoHalt _ => true
  | .logFreeze _ => true
  | .logUnfreeze _ => true
  | .subreset _ => true
  | .subresetX _ => true
  | .subresetDone _ => true
  | .loadStruct _ => true
  | .loadPlan _ => true
  | .loadAbort _ => true
  | .restart _ => true
  | .loadFetchDone => true
  | .loadCheckDone => true
  | .loadApplyDone => true
  | .planRegisterWrite a _ => decide (a % 4 = 0 ∧ a < 2 ^ 26)
  | .pcieReset => true
  | .bar0Bad _ _ _ => true
  | .bar2Read _ _ => true
  | .bar2Write _ _ _ => true
  | .aperTimeout _ => true
  | .ringPoll r _ => decide (r < 8)
  | .imageDescriptor _ _ => true
  | .logRecord _ => true
  | .mgmtSend _ _ => true
  | .stackCopyIn _ _ => true
  | .stackCopyOut _ => true
  | .ringCtrlWrite r _ => decide (r < 8)
  | .ringReset r _ => decide (r < 8)
  | .bmeOff => true
  | .intRearm _ => true
  | .msixUnmask => true
  | .perfSelWrite a _ => decide (a % 4 = 0 ∧ a < 2 ^ 26)
  | .clearAll _ _ => true
  | .freeze _ _ => true
  | .lclkWindow _ => true
  | .testCtrlWrite _ => true
  | .loopReqSend => true
  | .registerWrite a _ => decide (a % 4 = 0 ∧ a < 2 ^ 26)
  | .pwrPeakRead => true
  | .busMasterEnable => true
  | .tempAlarm st => decide (st < 6)
  | .ovf _ k => decide (k < 32)

end Sys2Proof
end

