-- ==== Sys2Proof/Tests/Slice0.lean ====
section
/-! SUPPORT. Small tests of the model: the smoke test of WellFormed, single steps on small states against values that the
spec gives, and, for every statement that has hypotheses, a witness that meets them. -/

set_option maxRecDepth 4000

open Sys2Proof Sys2Proof.Machine

namespace Sys2Proof.Tests

/-! ### WellFormed refuses an ill-formed term for each of its checks -/

theorem smoke_ill_formed_1 :
    ([.resetAssert 4, .resetRelease 4 0, .candidateFault ⟨5, 0, 0⟩, .candidateFault ⟨0, 5, 0⟩,
      .candidateQualified 5, .ppsFault 2, .wideRegisterLowRead 2, .wideRegisterLowRead 0x4000000,
      .wideRegisterHighWrite 2 0, .wideRegisterHighWrite 0x4000000 0, .syncSend 72, .sync 72 0 0 false,
      .req 72 0 0 false, .resp 72 0 0 false, .exchangeTimeout 72, .tdcEdge 256 ⟨0, false⟩, .chGo 4 0,
      .chAbort 4 0, .startTStartN 72 none none, .go 72 0, .skip 72 0, .halt 72 0, .stop 72 0, .ready 72 0,
      .fail 72 0, .cack 72 0, .add ⟨64, 0⟩, .read ⟨64, 0⟩] : List Instr).all (fun c => !c.wellFormed) =
        true := by decide

theorem smoke_ill_formed_2 :
    ([.watch ⟨64, 0⟩, .unwatch ⟨64, 0⟩, .responsePresent 64, .cmpStall 64, .cadd 72 0, .arriveWait ⟨64, 0⟩,
      .arrive ⟨64, 0⟩, .wait ⟨64, 0⟩, .bread ⟨64, 0⟩, .combinedArrival 72 0, .release 72 0, .slotTransmit 72,
      .flitReceive 72 0 [] [] 0, .flitReceive 0 5140 [] [] 0, .flitReceive 0 0 [[], [], []] [] 0,
      .flitReceive 0 0 [] [256] 0, .replayTimeout 72 0, .replayTimeout 0 4096, .linkDead 72 0,
      .trainingStateDone 72, .trainingTimeout 72, .retrain 72 0, .berCheck 72 0, .berCheck 0 8,
      .phyRxLock 8 false, .phyMarginTgl 8 0, .croak 72 0,
        .detectorCheck 72] : List Instr).all (fun c => !c.wellFormed) = true := by decide

theorem smoke_ill_formed_3 :
    ([.fenceNotice 72 [], .upSwitchNotice 72 [], .mgmtReceive 72 [],
      .bulkReadData 0 (List.replicate 127 0) false, .dataDue 72 0, .dataDue 0 64,
      .eggPart 72 (List.replicate 240 0), .eggPart 0 (List.replicate 239 0),
      .eggTrailer 72 (List.replicate 240 0), .eggTrailer 0 (List.replicate 239 0),
      .controlRecord 72 (List.replicate 240 0), .controlRecord 0 (List.replicate 239 0), .controlRecordSend 72,
      .load 72, .store 72, .matmul 72, .vector 72, .softmaxPart 72, .merge 72, .reduce 72, .topk 72, .send 72,
      .recv 72, .signal 72, .watchDescriptor 72, .loop 72, .descriptorComplete 72 0,
        .descriptorComplete 0 4] : List Instr).all (fun c => !c.wellFormed) = true := by decide

theorem smoke_ill_formed_4 :
    ([.parityClean 72 0, .parityClean 0 2048, .refetchDone 72 0, .refetchDone 0 2048, .parityDirty 72 0,
      .parityDirty 0 2048, .stackEccCorrected 6, .stackUncorrectable 6 0 false none, .tileMapWrite 256 0,
      .installPage 16, .installSeal 16, .installEvict 16, .passStart 1024, .passReplyPost 1024,
      .loopDecision 64 0, .voltageReached 64, .thermalCapUpdate 64 0, .thermalTrip 72, .droop 64,
      .rgPinWrite 64 0, .pinDone 64, .stretchCntStep 64 0, .monTgl 64 0 0, .coreMapWrite 256 0,
      .sentinelStart 72, .sentinelEnd 72, .planRegisterWrite 2 0,
        .planRegisterWrite 0x4000000 0] : List Instr).all (fun c => !c.wellFormed) = true := by decide

theorem smoke_ill_formed_5 :
    ([.ringPoll 8 [], .ringCtrlWrite 8 0, .ringReset 8 0, .perfSelWrite 2 0, .perfSelWrite 0x4000000 0,
      .registerWrite 2 0, .registerWrite 0x4000000 0, .tempAlarm 6,
        .ovf false 32] : List Instr).all (fun c => !c.wellFormed) = true := by decide

theorem smoke_well_formed_1 :
    ([.resetAssert 0, .resetRelease 0 0, .candidateFault ⟨0, 0, 0⟩, .candidateQualified 0, .ppsFault 0,
      .wideRegisterLowRead 0, .wideRegisterHighWrite 0 0, .syncSend 0, .sync 0 0 0 false, .req 0 0 0 false,
      .resp 0 0 0 false, .exchangeTimeout 0, .tdcEdge 0 ⟨0, false⟩, .chGo 0 0, .chAbort 0 0,
      .startTStartN 0 none none, .go 0 0, .skip 0 0, .halt 0 0, .stop 0 0, .ready 0 0, .fail 0 0, .cack 0 0,
      .add ⟨0, 0⟩, .read ⟨0, 0⟩, .watch ⟨0, 0⟩, .unwatch ⟨0, 0⟩,
        .responsePresent 0] : List Instr).all Instr.wellFormed = true := by decide

theorem smoke_well_formed_2 :
    ([.cmpStall 0, .cadd 0 0, .arriveWait ⟨0, 0⟩, .arrive ⟨0, 0⟩, .wait ⟨0, 0⟩, .bread ⟨0, 0⟩,
      .combinedArrival 0 0, .release 0 0, .slotTransmit 0, .flitReceive 0 0 [] [] 0, .replayTimeout 0 0,
      .linkDead 0 0, .trainingStateDone 0, .trainingTimeout 0, .retrain 0 0, .berCheck 0 0, .phyRxLock 0 false,
      .phyMarginTgl 0 0, .croak 0 0, .detectorCheck 0, .fenceNotice 0 [], .upSwitchNotice 0 [],
      .mgmtReceive 0 [], .bulkReadData 0 (List.replicate 128 0) false, .dataDue 0 0,
      .eggPart 0 (List.replicate 240 0), .eggTrailer 0 (List.replicate 240 0),
      .controlRecord 0 (List.replicate 240 0)] : List Instr).all Instr.wellFormed = true := by decide

theorem smoke_well_formed_3 :
    ([.controlRecordSend 0, .load 0, .store 0, .matmul 0, .vector 0, .softmaxPart 0, .merge 0, .reduce 0,
      .topk 0, .send 0, .recv 0, .signal 0, .watchDescriptor 0, .loop 0, .descriptorComplete 0 0,
      .parityClean 0 0, .refetchDone 0 0, .parityDirty 0 0, .stackEccCorrected 0,
      .stackUncorrectable 0 0 false none, .tileMapWrite 0 0, .installPage 0, .installSeal 0, .installEvict 0,
      .passStart 0, .passReplyPost 0, .loopDecision 0 0, .voltageReached 0] : List Instr).all Instr.wellFormed =
        true := by decide

theorem smoke_well_formed_4 :
    ([.thermalCapUpdate 0 0, .thermalTrip 0, .droop 0, .rgPinWrite 0 0, .pinDone 0, .stretchCntStep 0 0,
      .monTgl 0 0 0, .coreMapWrite 0 0, .sentinelStart 0, .sentinelEnd 0, .planRegisterWrite 0 0,
      .ringPoll 0 [], .ringCtrlWrite 0 0, .ringReset 0 0, .perfSelWrite 0 0, .registerWrite 0 0, .tempAlarm 0,
      .ovf false 0] : List Instr).all Instr.wellFormed = true := by decide

/-! ### Helper states -/

/-- A hall root with its structure image, in ARMED. -/
def hallRoot : State :=
  ((({ State.reset with nst := .armed }).setB STRUCT_VALID true).setF NODE_ID 0xC0000).setB ROOT true
/-- A Krasesta in LIVE with one port in UP of a given use toward a die. -/
def kUpPort (p u : Nat) : State :=
  let s : State := { State.reset with nst := .live }
  (((s.setB STRUCT_VALID true).setN (grpBase p) 0).setF ⟨portBase .krasesta p, 20,
      3⟩ u).setF ⟨portBase .krasesta p + 8, 0, 3⟩ 4
/-- A hall root in CHORUS on its oven, with its images loaded and the spawn complete, ready for a START of step 100. -/
def readyRoot : State :=
  let s : State := { hallRoot with nst := .chorus }
  let s := ((s.setB PLAN_VALID true).setB COMPLETE true).setR64 LEAP_PERIOD 1000000
  ((s.setF LEAP_LEAD 50000).setF READY_GUARD 100000).setR64 START_STEP 100
/-- A die in a run: leap 1 pends for 900,000 ns, its GO held or not. -/
def dieRun (go : Bool) : State :=
  let s : State := { State.reset with part := .die 0 0 0, nst := .running }
  ((((s.setB STRUCT_VALID true).setB LEAPS_ARMED true).setB LAUNCH_PEND true).setB GO_HELD go).setR96 NEXT_LAUNCH (tsOf (900000 * 65536))
/-- A hall root in a run: leap 1 pends for 900,000 ns, its GO held or not. -/
def rootRun (go : Bool) : State :=
  let s : State := { hallRoot with nst := .running }
  ((((s.setB LEAPS_ARMED true).setB LAUNCH_PEND true).setB GO_HELD go).setR96 NEXT_LAUNCH (tsOf (900000 * 65536))).setR64 LEAP_PERIOD 1000000
/-- A Krasesta in RUNNING whose tile 0 runs a program of 4 descriptors as logical tile 0, with one descriptor next. -/
def tileRun (d : Nat) : State :=
  let s : State := { (kUpPort 0 1) with nst := .running }
  let s := (s.setN 0x3401000 1).setTile 0 { prog := some { l := 0, base := 0, len := 4 } }
  { s with bonded := s.bonded.write 0 (leBytes 32 d) }
/-- The same with the descriptor at place 2 next. -/
def tileRun2 (d : Nat) : State :=
  let s := (tileRun 0).setTile 0 { prog := some { l := 0, base := 0, len := 4, pc := 2 } }
  { s with bonded := s.bonded.write 64 (leBytes 32 d) }
/-- A state with a register word listed as it is, whatever the word's reset value. -/
def putReg (s : State) (a : Nat) (v : Word) : State := { s with regs := tset (fun _ => 0) s.regs a v }
/-- A Krasesta with die 0 on port 0, which takes part in pass 0, and one entry waiting in install queue 0, whose header
holds h. -/
def instRun (h : Nat) : State :=
  let s := kUpPort 0 1
  let s := ((s.setN (portBase .krasesta 0) (s.rn (portBase .krasesta 0) / 2 ^ 20 * 2 ^ 20)).setN (s.qa 0 0 4) 1).setN (s.qa 0 0 0xC) 1024
  let s := ((s.setN (s.qa 0 0 0x2C) 1).setN (passR 0 0) (2 ^ 31)).setN (passR 0 8) (2 ^ 16)
  { s with stack := s.stack.write 0 (beBytes 16 h) }

/-! ### Small tests against values that the spec works out, and published check values -/

/-- The check value of CRC-32C (RFC 3720): the nine characters 1 to 9. -/
theorem test_crc32c_check_value : crc32c [0x31, 0x32, 0x33, 0x34, 0x35, 0x36, 0x37, 0x38, 0x39] =
    0xE3069283 := by decide +kernel

/-- SHA-256 of the three characters abc (FIPS 180-4): its first word. -/
theorem test_sha256_abc : (sha256 [0x61, 0x62, 0x63]).take 4 = [0xba, 0x78, 0x16, 0xbf] := by decide +kernel

/-- SHA-384 of the three characters abc (FIPS 180-4): its first word. -/
theorem test_sha384_abc : (sha384 [0x61, 0x62, 0x63]).take 4 = [0xcb, 0x00, 0x75, 0x3f] := by decide +kernel

/-- The contributions of the example after R244: 2^24, three ones, -2^24 and eleven zeros, as BF16. -/
def dieVals : List Val := ([0x4B80, 0x3F80, 0x3F80, 0x3F80, 0xCB80] ++ List.replicate 11 0).map (decodeElem 5)

/-- The exact accumulator gives 3, BF16 0x4040, in both orders of the example after R244. -/
theorem test_reduce_example :
    (convRow 5 [(dieVals.foldl (fun (a : XAcc) v => (a.add v).1) {}).out]).bytes = [0x40, 0x40] ∧
    (convRow 5 [(dieVals.reverse.foldl (fun (a : XAcc) v => (a.add v).1) {}).out]).bytes = [0x40,
        0x40] := by decide +kernel

/-- The REDUCE of that example takes 1,108 tile cycles: OP 7, LEN_M1 4,095, COUNT 16, MODE 0. -/
theorem test_reduce_duration : descCycles (7 * 2 ^ 250 + 4095 * 2 ^ 120 + 16 * 2 ^ 96) = 1108 := by decide +kernel

/-- Table TIL-5 by hand: 1.0 in E4M3 is 0x38; 1,000 saturates to 448, which is 0x7E; 2.5 in FP4 rounds to 2, its even
neighbour, which is code 4. -/
theorem test_convert : (convert 2 (.fin false 1 0)).code = 0x38 ∧
    convert 2 (.fin false 1000 0) = { code := 0x7E, sat := true } ∧
    (convert 0 (.fin false 5 (-1))).code = 4 := by decide +kernel

/-- A die in LIVE with the exchange of Table HTM-3 open and PORT_ASYM = +80 ps, its servo frozen (R315). -/
def exchDie : State :=
  let ns := fun (x : Nat) => x * 65536
  let s : State := { State.reset with part := .die 0 0 0, nst := .live }
  (s.setF ⟨FENCE_INFO, 28, 4⟩ 11).modExch 0 (fun e => { e with opens := [
    { sq := 7, t1 := ns 412300000, t2 := ns 412300000 + 3155559, t3 := some (ns 412300250), replayed := false, at_ := 0
      asym := 80 }] })

/-- Table HTM-3: the delay is 47.230 ns. -/
theorem test_exchange_delay :
    (match exec (.resp 0 (timeMsg 2 0 7 (tsOf (412300250 * 65536 + 3034973))) 0 false) exchDie with
      | .next t => t.rn LINK_DELAY
      | _ => 0) = 47230 := by decide +kernel

/-- R417, the example of STEP_COUNT: the upper word that a read answers is the one latched with the lower word. -/
theorem test_wide_read :
    (match exec (.wideRegisterLowRead 0x120040) ((State.reset.setN 0x120040 0xFFFFFFFF).setN 0x120044 0) with
      | .next t => (((t.setN 0x120040 0).setN 0x120044 1).readReg 0x120040,
        ((t.setN 0x120040 0).setN 0x120044 1).readReg 0x120044)
      | _ => (7, 7)) = (0, 0) := by decide +kernel

/-- The example after R383: LATE_FLIT of port 36, passed by LINK_MASK, shows in LINK_CAUSE at 0x124800C, in LINK_SUM[1]
as bit 4 and in INT_SUMMARY as bit 8. -/
theorem test_interrupt_example :
    let s := ((kUpPort 36 1).setN 0x1248010 0x10).setN CFG_CAUSE 0
    let t := s.setN 0x124800C 0x10
    t.pa 36 0xC = 0x124800C ∧ t.readReg 0x102000 = 0x100 ∧ s.readReg 0x102000 = 0 := by decide +kernel

/-- Table MAP-1: BLOCK_PARAMS of the Krasesta's instance reads 0x0000_0B3F. -/
theorem test_block_params : State.reset.readReg 0x100004 = 0xB3F := by decide +kernel

/-! ### The hypotheses of the statements are met -/

theorem witness_QueueIsFirstInFirstOut :
    (step { State.reset with pending := [.slewComplete, .baskClear] } matches .next _) = true ∧
        State.reset.pending = [] := by decide

theorem witness_StepKeepsMemoriesCanonical :
    State.memOk { State.reset with pending := [.baskClear] } ∧
    (step { State.reset with pending := [.baskClear] } matches .next _) = true := by decide

theorem witness_NoCommandRefusedAndOneFault :
    exec (.stackUncorrectable 0 stackBytes false none) State.reset = .fault .stackRange := rfl

theorem witness_OvenCoreEvents :
    let a := State.reset.setB BASK false
    let b := a.setB UTC_CLAIM true
    let c : State := { State.reset with clk := { ovenIn := 10000000000 } }
    c.part.isK = true ∧ c.bit BASK = true ∧ ovenHold ≤ c.clk.ovenIn ∧ a.part.isK = true ∧ a.bit BASK = false ∧
      a.bit UTC_CLAIM = false ∧
    b.bit BASK = false ∧ b.bit UTC_CLAIM = true ∧ (hallRoot.setB BASK false).isRoot = true ∧
    (a.part.isK && a.bit BASK && decide (ovenHold ≤ a.clk.ovenIn)) = false ∧
        (State.reset.part.isK && !State.reset.bit BASK) = false := by decide

theorem witness_StandbyPowerUpAndRootPll :
    State.reset.part = .krasesta ∧ ({ State.reset with power := { standby := false } } : State).power.standby = false ∧
    State.reset.power.standby = true ∧ State.reset.part.isK = true ∧ State.reset.mainOn = true ∧
    (State.reset.setB ROOTPLL_LOCK true).bit ROOTPLL_LOCK = true ∧ hallRoot.nst = .armed ∧ hallRoot.isRoot = true ∧
    State.reset.nst ≠ .armed ∧ State.reset.nst ≠ .live ∧ State.reset.bit ROOTPLL_LOCK = false ∧
      (dieRun true).part.isK = false := by
  decide

theorem witness_ReferenceCandidateEvents :
    let a := (hallRoot.setB (refEn 1) true).setB (refPpsEn 1) true
    let b : State := { hallRoot with clk := { selReq := some (1, 7) } }
    let d := (a.setB UTC_CLAIM true).setF SEL_ACTIVE 1
    let e : State := { a with beat := { n := 2 ^ 40 } }
    let z := ((kUpPort 0 2).setF NODE_ID 0x40000).setF ⟨portBase .krasesta 0 + 8, 0, 3⟩ 1
    hallRoot.monitored 1 = true ∧ hallRoot.faultShown 1 0 0 = true ∧ hallRoot.faultShown 1 4 0 = false ∧
      hallRoot.bit BASK = true ∧
    hallRoot.clk.selReq.map (·.1) ≠ some 1 ∧ b.monitored 1 = true ∧ b.faultShown 1 0 0 = true ∧
      b.clk.selReq = some (1, 7) ∧
    e.monitored 1 = true ∧ e.bit (refEn 1) = true ∧ e.bit (qual 1) = false ∧ e.clk.deadCand.contains 1 = false ∧
      e.qualTime 1 = true ∧
    e.faultNow 1 = false ∧ z.monitored 2 = true ∧ z.faultNow 2 = true ∧ (dieRun true).uplinkJudged 2 = true ∧
    (dieRun true).faultShown 2 2 0 = true ∧ (dieRun true).nst ≠ .fenced ∧ (dieRun true).monitored 2 = false ∧
    ¬ e.prioPlace 1 < e.prioPlace (e.f SEL_ACTIVE) ∧
      (e.setF (refPrio 0) 1).prioPlace 1 < (e.setF (refPrio 0) 1).prioPlace 7 ∧
    a.bit (refPpsEn 1) = true ∧ a.bit UTC_CLAIM = false ∧ d.monitored 1 = true ∧ d.bit (refPpsEn 1) = true ∧
      d.bit UTC_CLAIM = true ∧
    d.f SEL_ACTIVE = 1 ∧ State.reset.monitored 1 = false := by decide

theorem witness_SelectorCommands :
    let a := (hallRoot.setB (qual 1) true).setB (qual 7) true
    let b := hallRoot.setF SEL_ACTIVE 1
    hallRoot.part.isK = true ∧ hallRoot.mainOn = true ∧ hallRoot.bit LOAD_BUSY = false ∧
      (hallRoot.setB LOAD_BUSY true).bit LOAD_BUSY = true ∧
    a.permitted 7 = true ∧ a.bit (qual 7) = true ∧ a.permitted 1 = true ∧ a.bit (qual 1) = true ∧
    (hallRoot.permitted 4 && hallRoot.bit (qual 4)) = false ∧ hallRoot.clk.selReq = none ∧ hallRoot.f SEL_ACTIVE = 7 ∧
    b.clk.selReq = none ∧ b.f SEL_ACTIVE ≠ 7 ∧ b.bit (qual (b.f SEL_ACTIVE)) = false ∧
      (dieRun true).part.isK = false := by decide

theorem witness_PhaseSteps :
    let a : State := { hallRoot with clk := { pstep := some 5 } }
    let b := a.setB LEAPS_ARMED true
    hallRoot.part.isK = true ∧ hallRoot.mainOn = true ∧ hallRoot.isRoot = true ∧ hallRoot.bit PSTEP_PEND = false ∧
    bitOf (0 : Word).toNat 1 = false ∧ bitOf (0 : Word).toNat 0 = false ∧ bitOf (3 : Word).toNat 1 = true ∧
      bitOf (3 : Word).toNat 0 = true ∧
    (State.reset.isRoot && !State.reset.bit PSTEP_PEND) = false ∧ State.reset.mainOn = true ∧
        State.reset.clk.pstep = none ∧
    a.clk.pstep = some 5 ∧ a.reached a.clk.pstepAt = true ∧ a.armed = false ∧ b.armed = true ∧ b.rn STEP_SLEW_MAX = 0 ∧
    (b.setN STEP_SLEW_MAX 1).rn STEP_SLEW_MAX ≠ 0 ∧ 0 ≤ signed 48 5 ∧
        signed 48 5 ≤ ((b.setN STEP_SLEW_MAX 1).rn STEP_SLEW_MAX : Int) * 65536 := by
  decide

theorem witness_PulseAlignment :
    let a : State := { hallRoot with pulse := { bound := some 0 } }
    hallRoot.part.isK = true ∧ hallRoot.mainOn = true ∧ hallRoot.bit LOAD_BUSY = false ∧ hallRoot.pulse.bound = none ∧
    a.pulse.bound ≠ none ∧ a.part.isK = true ∧ a.mainOn = true ∧ a.bit LOAD_BUSY = false ∧ a.pulse.bound = some 0 ∧
      a.reached 0 = true ∧
    1000000 * 65536 ≤ ({ hallRoot with pulse := { bound := some 0, gen := 1000000 * 65536 } } : State).pulseErr.natAbs ∧
    ¬ 1000000 * 65536 ≤ ({ hallRoot with pulse := { bound := some 0, gen := 999999 * 65536 } } : State).pulseErr.natAbs ∧
    (hallRoot.pulse.bound.any (fun b => hallRoot.reached b || decide (b * 2 ^ 24 ≤ hallRoot.beat.time))) =
        false := by decide

theorem witness_PulseEdges :
    let a : State := { hallRoot with nst := .live, pulse := { gen := q16PerSec, base := some q16PerSec } }
    let b := a.setB (bitF PULSE_CTRL 0) true
    let c := a.setB (bitF PULSE_CTRL 2) true
    let on := fun (s : State) (i t : Nat) => s.bit (bitF PULSE_CTRL i) && s.pulsesOn && !s.nearBound && s.genAt t
    a.part.isK = true ∧ a.pulse.ppsNext * q16PerSec ≤ a.pulse.gen + 32768 ∧ on a 0 q16PerSec = false ∧
      on b 0 q16PerSec = true ∧
    on a 2 q16PerSec = false ∧ on c 2 q16PerSec = true ∧ a.pulse.base = some q16PerSec ∧ hallRoot.pulse.base = none ∧
    ¬ hallRoot.pulse.ppsNext * q16PerSec ≤ hallRoot.pulse.gen + 32768 ∧
    ¬ q16PerSec ≤ ({ a with pulse := { base := some q16PerSec } } : State).pulse.gen + 32768 := by decide

theorem witness_TimeCounterCommands :
    (State.reset.pending = [] ∧ State.reset.mainOn = true ∧
        ({ State.reset with power := { main := false } } : State).mainOn = false) ∧
    let a : State := { hallRoot with staged := [(TIME_INCR, some 0xFFFFFFFF)], clk := { secArm := some 0 } }
    let b : State := { a with clk := {} }
    let c := a.setB LEAPS_ARMED true
    a.mainOn = true ∧ a.bit LOAD_BUSY = false ∧ a.isRoot = true ∧
      0x00FFF9724745 ≤ a.stagedOr TIME_INCR + 2 ^ 32 * 0xFF ∧
    a.stagedOr TIME_INCR + 2 ^ 32 * 0xFF ≤ 0x0100068DB8BB ∧ ¬ a.stagedOr TIME_INCR + 2 ^ 32 * 0x101 ≤ 0x0100068DB8BB ∧
    (b.isRoot && !b.armed && b.clk.secArm.isNone) = true ∧ (a.isRoot && !a.armed && a.clk.secArm.isNone) = false ∧
    (b.clk.secArm.any (fun b => hallRoot.reached b)) = false ∧
    a.reached 0 = true ∧ (a.armed || a.clk.secBad) = false ∧ c.armed = true ∧ c.reached 0 = true := by decide

theorem witness_TimeExchange :
    let a : State := { (kUpPort 0 1) with beat := { n := 2 ^ 20 } }
    let b := a.modExch 0 (fun e => { e with sentAt := some 0, open_ := [7] })
    let c := ({ (kUpPort 0 2) with beat := { n := 2 ^ 20 } } : State).setF SEL_ACTIVE 2
    let x : OpenEx := ⟨7, 0, 65536, some 0, false, 2 ^ 20, 0⟩
    let d := c.modExch 0 (fun e => { e with opens := [x] })
    b.parentOf 0 = true ∧ b.portUp 0 = true ∧ (b.exch 0).sentAt = some 0 ∧ 0 + b.syncInterval 0 ≤ b.beat.n ∧
    b.maySend 0 (timeMsg 0 0 0 0) = true ∧ isTime (timeMsg 0 0 7 0) 0 = true ∧ isTime (timeMsg 1 0 7 0) 1 = true ∧
    isTime (timeMsg 2 0 7 0) 2 = true ∧ isTime (timeMsg 2 0 7 0) 0 = false ∧ isTime (timeMsg 2 0 7 0) 1 = false ∧
    isTime (timeMsg 1 0 7 0) 2 = false ∧ ¬ (State.reset.parentOf 0 = true) ∧ State.reset.childOf 0 = false ∧
      c.childOf 0 = true ∧
    c.feeds 0 = true ∧ (kUpPort 0 2).feeds 0 = false ∧ c.maySend 0 (timeMsg 1 0 7 0) = true ∧
    (b.parentOf 0 && (b.exch 0).open_.contains (mLo (timeMsg 1 0 7 0))) = true ∧ b.maySend 0 (timeMsg 2 0 7 0) = true ∧
    (State.reset.parentOf 0 && (State.reset.exch 0).open_.contains 7) = false ∧
    (c.exch 0).opens.find? (fun x => x.sq == mLo (timeMsg 2 0 7 0) && x.t3.isSome) = none ∧
    (d.exch 0).opens.find? (fun x => x.sq == mLo (timeMsg 2 0 7 0) && x.t3.isSome) = some x ∧ 0 < d.part.numPorts ∧
    decide (x.at_ + 3 * d.syncInterval 0 ≤ d.beat.n) = false ∧ (d.feeds 0 && !d.isRoot) = true ∧
    decide (x.at_ + 3 * d.syncInterval 0 ≤ 2 ^ 21) = true ∧ d.frozenTime = false ∧
    (({ (dieRun true) with part := .die 0 0 0 } : State).setN FENCE_INFO (2 ^ 31 + 3 * 2 ^ 28)).frozenTime =
        true := by decide

theorem witness_LockAndUtc :
    let a := State.reset.setB LOCKED true
    let b := ((hallRoot.setB PORT_EN true).setB BASK false).setB CLEANUP_LOCK true
    let c := (b.setF SEL_ACTIVE 1).setB (ppsOk 1) true
    a.bit LOCKED = true ∧ a.bit SETTLED = false ∧ (State.reset.bit LOCKED && !State.reset.bit SETTLED) = false ∧
      c.part.isK = true ∧
    c.mainOn = true ∧ c.bit LOAD_BUSY = false ∧ c.utcOk = true ∧ b.utcOk = false ∧
    c.bit NET_LINK_UP = (false && c.bit PORT_EN && !c.inTadpole) ∧
      c.bit NET_LINK_UP ≠ (true && c.bit PORT_EN && !c.inTadpole) ∧
    c.f ⟨MOD_STATUS, 0, 3⟩ = (0 : BitVec 3).toNat ∧ c.f ⟨MOD_STATUS, 0, 3⟩ ≠ (5 : BitVec 3).toNat ∧
      (dieRun true).part.isK = false := by
  decide

theorem witness_EdgeMeasurement :
    let a : State := { State.reset with part := .die 0 0 0 }
    let b := (a.setN (a.ch 0 0) 0x100F).setB (bitF (a.ch 0 8) 0) true
    let c := b.setChan 0 { src := 0x100F, start := some 5 }
    let d := b.setChan 0 { src := 0x100F, n := 2 }
    let e : State := { c with edges := [(0x10, some 0)] }
    let g := b.setChan 0 { src := 0x3000F, phaseMod := 3 }
    a.part.isK = false ∧ (a.mainOn && a.edgeTaken 0x10 false) = true ∧ (a.mainOn && a.edgeTaken 0x10 true) = false ∧
    bitsOf (g.chan 0).src 16 2 = 3 ∧ phaseOf 3 384000 = 384000 ∧ phaseOf 3 384001 = -383999 ∧
    tooSoon (tget (fun _ => none) e.edges 0x10) 7 = true ∧ e.chListens 0x10 0 = true ∧
      tooSoon (tget (fun _ => none) c.edges 0x10) 7 = false ∧
    a.bit (bitF (a.ch 0 8) 0) = false ∧ c.bit (bitF (c.ch 0 8) 0) = true ∧ bitsOf (c.chan 0).src 16 2 = 0 ∧
    0xF = bitsOf (c.chan 0).src 0 8 ∧ 0x10 ≠ bitsOf (c.chan 0).src 0 8 ∧ 0x10 = bitsOf (c.chan 0).src 8 8 ∧
      (d.chan 0).start = none ∧
    (c.chan 0).start = some 5 ∧ 256 * 10 ^ 12 < ((2 ^ 60 : Int) - 5).natAbs ∧ ¬ 256 * 10 ^ 12 < ((7 : Int) - 5).natAbs ∧
    (c.chan 0).n ≤ c.rn (c.ch 0 0xC) + 1 ∧ d.rn (d.ch 0 0xC) + 1 < (d.chan 0).n ∧ c.bit (bitF (c.ch 0 4) 9) = false ∧
    b.mainOn = true ∧ b.bit LOAD_BUSY = false ∧ 0 < b.numCh ∧ ¬ 1 < b.numCh ∧ b.chOk 0 = true ∧ a.chOk 0 = false ∧
    bitOf (0 : Word).toNat 8 = false ∧ bitOf (0x100 : Word).toNat 8 = true := by decide

theorem witness_ManagementFrames :
    let a := ((State.reset.setB NET_LINK_UP true).setB BME true).setB PROMISC true
    let f : List Byte := List.replicate 60 0xFF
    let b := ((a.setHeld 7 (some [0, 0, 0x80000020])).setHeld 3 (some [0, 0, 0xC000003C]))
    let c := a.setHeld 3 (some [0, 0, 0x8000003B])
    b.part.isK = true ∧ b.clk.pstep = none ∧ (b.bit NET_LINK_UP && b.netAccepts f) = true ∧
    (State.reset.bit NET_LINK_UP && State.reset.netAccepts []) = false ∧
    f.length = 60 ∧ a.takeDesc 7 [] = none ∧ b.takeDesc 7 [] = some [0, 0, 0x80000020] ∧ a.takeDesc 3 [] = none ∧
    b.takeDesc 3 [] = some [0, 0, 0xC000003C] ∧ 0xC000003C % 2 ^ 14 = 60 ∧ c.takeDesc 3 [] = some [0, 0, 0x8000003B] ∧
    0x8000003B % 2 ^ 14 < 60 ∧ (State.reset.setB BME true).bit NET_LINK_UP = false ∧
    ((State.reset.setB BME true).setHeld 3 (some [0, 0, 0x8000003C])).takeDesc 3 [] = some [0, 0, 0x8000003C] ∧
    (dieRun true).part.isK = false := by decide

theorem witness_RunRequests :
    let a := (readyRoot.setB STOP_ENTRY true)
    let b : State := { a with nst := .stopped, leap := { planSinceStop := false } }
    readyRoot.mainOn = true ∧ readyRoot.startOk false = true ∧ b.mainOn = true ∧
    ((b.setR96 LEAP_T0 (tsOf (10 ^ 6 * 65536))).startOk true = true) ∧
    State.reset.startOk false = false ∧ readyRoot.isRoot = true ∧
    State.reset.isRoot = false ∧ State.reset.mainOn = true ∧ (dieRun true).mainOn = true ∧
    ({ State.reset with part := .die 0 0 0, power := { held := true } } : State).mainOn = false ∧
    bitOf (7 : Word).toNat 0 = true ∧ bitOf (6 : Word).toNat 0 = false := by decide

theorem witness_LaunchEvents :
    let d : State := { (dieRun false) with nst := .chorus }
    let c := (d.setB PLAN_VALID true).setF COMMIT_EVERY 4
    isLeap (leapMsg kSTART_T 0 0 0) kSTART_T = true ∧ isLeap (leapMsg kSTART_N 0 0 0) kSTART_N = true ∧
    (c.selPort.contains 0 && !c.bit ORPHAN && c.nst != .fenced && !c.inTadpole && !c.isRoot) = true ∧
    c.acceptsCtl 0 (leapMsg kSTART_T 0 0 0) = true ∧ c.acceptsCtl 1 (leapMsg kSTART_T 0 0 0) = true ∧
    ({ c with nst := .fenced } : State).acceptsCtl 0 (leapMsg kSTART_N 0 0 0) = false ∧
    (c.selPort.contains 1 && !c.bit ORPHAN && c.nst != .fenced && !c.inTadpole && !c.isRoot) = false ∧
    bitOf (mArg (leapMsg kSTART_T 0 0 0)) 0 = false ∧ 0 < c.f COMMIT_EVERY ∧
    ((c.nst == .chorus || c.nst == .stopped) && c.bit PLAN_VALID && !c.bit LOAD_BUSY && (false || !c.cnt.dirty)) =
        true ∧
    ((c.nst == .chorus || c.nst == .stopped) && d.bit PLAN_VALID) = false ∧ d.atHall = false ∧
    d.leap.failSteps.contains 0 = false := by decide
/-- A decision of each kind, at the root and at a hall twin that has taken over. -/
theorem witness_LaunchEvents_decisions :
    let k : State := { (rootRun false) with time := 2 ^ 60 }
    let g : State := (k.setB VOTE_OUT true).setF COMMIT_EVERY 4
    let w : State := { (((rootRun false).setB ROOT false).setF NODE_ID 0xE0000).setB TAKEN true with time := 2 ^ 60 }
    (k.armed && k.bit LAUNCH_PEND && decide (k.decisionAt ≤ (k.now : Int))) = true ∧ k.isRoot = true ∧
        k.bit GO_HELD = false ∧
    State.reset.armed = false ∧ k.bit HALT_PEND = false ∧ k.bit FAIL_SEEN = false ∧ k.leap.rootLocal = false ∧
    (k.setB HALT_PEND true).bit HALT_PEND = true ∧ (g.readyAll && !g.commitHeld 1) = true ∧ g.bit STOP_PEND = false ∧
    (g.setB STOP_PEND true).bit STOP_PEND = true ∧ k.readyAll = false ∧
        (k.f SKIP_RUN == (k.setF SKIP_LIMIT 3).f SKIP_LIMIT) = false ∧
    (w.armed && w.bit LAUNCH_PEND && !w.isRoot && w.isTwin && w.bit TAKEN && w.level == 3) = true ∧
    decide (w.decisionAt ≤ (w.now : Int)) = true := by decide
/-- The orphan limit, and a leap that fires. -/
theorem witness_LaunchEvents_limits :
    let a : State := { (dieRun false) with time := 2 ^ 60 }
    let b : State := { (dieRun true) with time := 2 ^ 60 }
    (a.armed && a.bit LAUNCH_PEND && !a.bit GO_HELD &&
        decide (tsScalar (a.r96 NEXT_LAUNCH) ≤ a.now + leapMinLead * 65536)) = true ∧
    a.inTadpole = false ∧ a.nst ≠ .fenced ∧ b.armed = true ∧ b.bit GO_HELD = true ∧ b.leap.voteOff = false ∧
    b.bit LAUNCH_PEND = true ∧ b.bit GECKO_HALT = false ∧ tsScalar (b.r96 NEXT_LAUNCH) ≤ b.now ∧
    b.rn READY_TARGET + b.rn READY_STRIDE < 2 ^ 32 ∧
    ¬ (b.setN READY_TARGET 0xFFFFFFFF).rn READY_TARGET + (b.setN READY_STRIDE 5).rn READY_STRIDE < 2 ^ 32 := by decide

theorem witness_DownwardLeapMessages :
    let a := dieRun false
    let b : State := { a with leap := { relay := true } }
    let c : State := { a with time := 2 ^ 60 }
    let lo := (a.step + 1) % 2 ^ 16
    (!a.isRoot && !a.bit ORPHAN && a.nst != .fenced && !a.inTadpole && a.selPort.contains 0) = true ∧
        b.leap.relay = true ∧
    (!b.isRoot && !b.bit ORPHAN && b.nst != .fenced && !b.inTadpole && b.selPort.contains 0) = true ∧
    a.leap.relay = false ∧ a.armed = true ∧ a.bit LAUNCH_PEND = true ∧ a.bit GO_HELD = false ∧
    ¬ tsScalar (a.r96 NEXT_LAUNCH) ≤ a.now + leapMinLead * 65536 ∧ c.armed = true ∧ c.bit LAUNCH_PEND = true ∧
      c.bit GO_HELD = false ∧
    tsScalar (c.r96 NEXT_LAUNCH) ≤ c.now + leapMinLead * 65536 ∧ c.selPort.contains 1 = false ∧ c.leap.relay = false ∧
    mLo (leapMsg kGO 0 lo 0) = lo ∧ mLo (leapMsg kSTOP 0 lo 0) = lo ∧ isLeap (leapMsg kGO 0 lo 0) kGO = true ∧
    mLo (leapMsg kSKIP 0 lo 0) = lo ∧ isLeap (leapMsg kSKIP 0 lo 0) kSKIP = true ∧ mLo (leapMsg kHALT 3 lo 0) = lo ∧
    isLeap (leapMsg kHALT 3 lo 0) kHALT = true ∧ isLeap (leapMsg kSTOP 0 lo 0) kSTOP = true ∧
      a.selPort.contains 1 = false ∧
    isLeap (leapMsg kGO 0 lo 0) kSKIP = false ∧ isLeap (leapMsg kGO 0 lo 0) kHALT = false ∧
      isLeap (leapMsg kGO 0 lo 0) kSTOP = false ∧
    isLeap (leapMsg kSTOP 0 lo 0) kGO = false ∧ a.acceptsCtl 0 (leapMsg kGO 0 lo 0) = true ∧
    ({ a with nst := .fenced } : State).acceptsCtl 0 (leapMsg kGO 0 lo 0) = false ∧
        mType (leapMsg kGO 0 lo 0) = 2 := by decide

theorem witness_UpwardLeapMessages :
    let a := (rootRun false).setF ⟨portBase .krasesta 0, 20, 3⟩ 1
    let b := a.setF ⟨portBase .krasesta 0, 0, 20⟩ 0xFFFFF
    let r := a.setB ROOT false
    let lo := (a.step + 1) % 2 ^ 16
    let o : State := { a with leap := { ownCack := true } }
    let f : State := { r with leap := { failSteps := [lo] } }
    (a.use 0 == 1 && a.armed && !a.fenced 0) = true ∧ a.spare 0 = false ∧ isLeap (leapMsg kREADY 0 lo 0) kREADY = true ∧
    mLo (leapMsg kREADY 0 lo 0) = lo ∧ isLeap (leapMsg kFAIL 1 lo 0) kFAIL = true ∧
      mLo (leapMsg kFAIL 1 lo 0) = (a.step + 1) % 2 ^ 16 ∧
    isLeap (leapMsg kCACK 0 0 0) kCACK = true ∧ mLo (leapMsg kCACK 0 0 0) = a.leap.combC % 2 ^ 16 ∧
    (mLo (leapMsg kREADY 0 9 0) == lo) = false ∧ (mLo (leapMsg kCACK 0 9 0) == a.leap.combC % 2 ^ 16) = false ∧
        (a.use 1 == 1) = false ∧
    a.atHall = true ∧ r.atHall = false ∧ (r.use 0 == 1 && r.armed && !r.fenced 0) = true ∧ r.spare 0 = false ∧
    r.leap.failSteps.contains lo = false ∧ f.leap.failSteps.contains lo = true ∧ f.atHall = false ∧ f.spare 0 = false ∧
    a.leap.ownCack = false ∧ o.leap.ownCack = true ∧ o.spare 0 = false ∧ o.leap.kids = [] ∧
    a.acceptsCtl 0 (leapMsg kREADY 0 lo 0) = true ∧ a.eftSides 0 = [] ∧ b.acceptsCtl 0 (leapMsg kREADY 0 lo 0) = true ∧
    r.acceptsCtl 0 (leapMsg kREADY 0 lo 0) = true ∧
      ({ r with nst := .fenced } : State).acceptsCtl 0 (leapMsg kFAIL 1 lo 0) = false ∧
    b.spare 0 = true ∧ isLeap (leapMsg kCACK 0 0 0) kREADY = false ∧ isLeap (leapMsg kCACK 0 0 0) kFAIL = false ∧
    isLeap (leapMsg kREADY 0 0 0) kCACK = false := by decide

theorem witness_CommitAndEpochWrites :
    let a : State := { State.reset with leap := { epoch := some (0, 1) } }
    let b := (State.reset.setF PROF_DEFINED 3).setR96 EPOCH_TIME (tsOf (20000 * 65536))
    let f : State := { (((dieRun true).setN (planEpoch 0 + 8) (2 ^ 31)).setN (planEpoch 0) 1) with
      time := 2 ^ 60, leap := { epoch := some (0, 1) } }
    a.mainOn = true ∧ a.bit LOAD_BUSY = false ∧ (a.setB LOAD_BUSY true).bit LOAD_BUSY = true ∧ a.armed = false ∧
    (a.setB LEAPS_ARMED true).armed = true ∧ (a.setB LEAPS_ARMED true).bit LOAD_BUSY = false ∧
        b.epochOk ((1 : Word).toNat % 16) = true ∧
    b.bit LOAD_BUSY = false ∧ b.mainOn = true ∧ a.epochOk 1 = false ∧ bitOf (1 : Word).toNat 9 = false ∧
    bitOf (1 : Word).toNat 8 = false ∧ bitOf (0x300 : Word).toNat 8 = true ∧ bitOf (0x300 : Word).toNat 9 = true ∧
    a.leap.epoch = some (0, 1) ∧ 0 ≤ a.now ∧ ¬ 5 ≤ a.now ∧ b.leap.epoch = none ∧
    (f.fireDue && (f.planEpochAt f.pendStep).isSome) = true ∧
        (a.fireDue && (a.planEpochAt a.pendStep).isSome) = false := by decide

theorem witness_RequestAcceptance :
    let a : State := { State.reset with part := .die 3 0 1, nst := .live }
    let b := a.setF ⟨portBase a.part 0, 20, 3⟩ 2
    let w := fun (op : Nat) => BitVec.ofNat 128 (op * 2 ^ 124 + 2 ^ 115 + 5 * 2 ^ 64)
    let far := BitVec.ofNat 128 (2 ^ 124 + 7 * 2 ^ 92 + 5 * 2 ^ 64)
    (!a.power.held && decide ((⟨1, w 2⟩ : CmpReq).port < a.part.numCmp)) = true ∧
    (!a.power.held && decide ((⟨99, w 2⟩ : CmpReq).port < a.part.numCmp)) = false ∧ rqOp (w 2) = 2 ∧ rqOp (w 3) = 3 ∧
    rqOp (w 4) = 4 ∧ rqOp (w 8) = 8 ∧ rqOp (w 9) = 9 ∧ rqOp (w 10) = 10 ∧ rqOp (w 11) = 11 ∧ rqOp (w 1) = 1 ∧
      rqFlag (w 1) = true ∧
    ((a.badForm far).isNone && rqOp far == 1 && !rqFlag far && rqDest far != a.f NODE_ID) = true ∧ a.part.isK = false ∧
    a.quietTwin = false ∧ a.upActive = [] ∧ b.upActive ≠ [] ∧ b.quietTwin = false ∧
    ((b.badForm far).isNone && rqOp far == 1 && !rqFlag far && rqDest far != b.f NODE_ID) = true := by decide

theorem witness_CounterUnitCycle :
    let ws : List Watch := [⟨1, 0, 5, 0, 0, none, 0, 3, 0, none⟩, ⟨1, 1, 5, 1, 0, some 0, 0, 3, 9, none⟩,
      ⟨1, 2, 5, 2, 0, none, 0, 0, 0, some (16, 1)⟩]
    let a : State := { (dieRun false) with cnt := { forces := [(0, 3, 7)], watches := ws }, bar := { rels := [⟨0, 0, 1, false, none⟩] } }
    let b := (a.setF (barRound 16) 1).setB (barEn 0) true
    let o : State := { ((dieRun false).setN (counterA 0 3) 0xFFFFFFFF) with cnt := { adds := [⟨0, 0, 3, 1, false, 0⟩] } }
    a.unitNow = none ∧ (if true || a.unitNow.any (·.forced) then a.cnt.forces.take 1 else []) = [(0, 3, 7)] ∧
      0 < a.part.numCores ∧
    (0 : Nat) ≤ a.rn (counterA 0 3) ∧
        (⟨1, 1, 5, 1, 0, some 0, 0, 3, 9, none⟩ : Watch).deadline.any (fun d => decide (d ≤ a.now)) = true ∧
    a.rn (counterA 0 3) < 9 ∧ a.relDue ⟨0, 0, 1, false, none⟩ = true ∧ b.f (barRound (16 + 0)) = 1 ∧
    (a.watchesOf 7).length ≤ 8 ∧ a.bit (barEn 0) = false ∧ b.bit (barEn 0) = true ∧ o.unitNow = none ∧
    0xFFFFFFFF < o.rn (counterA 0 3) + incFor o.dueAdds (0, 3) ∧
      ¬ 0xFFFFFFFF < o.rn (counterA 0 4) + incFor o.dueAdds (0, 4) := by decide
/-- Requests of each kind that are due, and one of bad form. -/
theorem witness_CounterUnitCycle_due :
    let w := fun (op : Nat) => BitVec.ofNat 128 (op * 2 ^ 124 + 2 ^ 115)
    let x := fun (op : Nat) (bad : Option Nat) => ({ due := 0, acc := 0, port := 0, word := w op, bad := bad } : PendReq)
    let a : State := { State.reset with cnt := { pend := [x 2 none, x 3 none, x 4 (some 0), x 9 none, x 9 (some 1)] } }
    a.unitNow = none ∧
    a.cnt.pend.filter (fun x => decide (x.due ≤ a.now)) = a.cnt.pend ∧ rqOp (w 2) = 2 ∧ rqOp (w 3) = 3 ∧
      rqTarget (w 3) = 0 ∧
    rqOp (w 4) = 4 ∧ rqOp (w 9) = 9 ∧ rqOp (w 11) = 11 ∧ rqEntry (w 11) = 16 ∧
    rqOp (BitVec.ofNat 128 (10 * 2 ^ 124 + 2 * 2 ^ 80)) = 10 := by decide
/-- A single barrier request that is due for an enabled entry: it counts, fills the round, is refused, and waits. -/
theorem witness_CounterUnitCycle_barrier :
    let w := fun (op r : Nat) => BitVec.ofNat 128 (op * 2 ^ 124 + r * 2 ^ 88)
    let x := fun (op r : Nat) => ({ due := 0, acc := 0, port := 0, word := w op r, bad := none } : PendReq)
    let z : State := { State.reset with part := .die 0 0 0 }
    let a := fun (op r e : Nat) => { ((z.setB (barEn 0) true).setF (barExpect 0) e) with cnt := { pend := [x op r] } }
    (a 9 0 2).unitNow = none ∧ ((a 9 0 2).cnt.pend.filter (fun x => decide (x.due ≤ (a 9 0 2).now))).length = 1 ∧
    rqEntry (w 9 0) = 0 ∧ (a 9 0 2).bit (barEn 0) = true ∧ (a 9 0 2).f (barCur 0) + 1 < (a 9 0 2).f (barExpect 0) ∧
    (a 9 0 1).f (barCur 0) + 1 = (a 9 0 1).f (barExpect 0) ∧ (rqRound (w 8 1) + 4 - (a 8 1 2).f (barRound 0)) % 4 = 1 ∧
    (a 8 1 2).f (barNext 0) < (a 8 1 2).f (barExpect 0) ∧ (rqRound (w 8 2) + 4 - (a 8 2 2).f (barRound 0)) % 4 = 2 ∧
    (rqRound (w 10 3) + 4 - (a 10 3 2).f (barRound 0)) % 4 = 3 ∧ rqOp (w 10 3) = 10 ∧
        ((a 8 0 2).watchesOf 0).length < 8 ∧
    deadlineOf 0 (rqTimeout (w 8 0)) = none ∧ rqTag (w 8 0) = 0 ∧ 0 < z.part.numCores := by decide

theorem witness_CounterSaturation :
    let a : State := { ((dieRun false).setN (counterA 0 3) 0xFFFFFFFF) with cnt := { adds := [⟨0, 0, 3, 1, false, 0⟩] } }
    let b := a.setN (pairCfg 0) (2 ^ 31 + 3 * 2 ^ 14 + 4)
    let r := (rootRun false).setF COMMIT_EVERY 4
    let w := r.setF COMMIT_EVERY 1
    a.unitNow = none ∧ 0 < a.part.numCores ∧ 0xFFFFFFFF < a.rn (counterA 0 3) + incFor a.dueAdds (0, 3) ∧
    ¬ 0xFFFFFFFF < a.rn (counterA 0 4) + incFor a.dueAdds (0, 4) ∧ bitOf (b.rn (pairCfg 0)) 31 = true ∧
      b.hasCounter 0 3 = true ∧
    b.hasCounter 0 4 = true ∧ b.dueAdds.any (fun x => (x.1, x.2.1) == (0, 3) || (x.1, x.2.1) == (0, 4)) = true ∧
    b.enabledPairs = [0] ∧ (b.rn (pairCfg 0 + 4) : Int) < 0xFFFFFFFF ∧
      (b.setN (pairCfg 0 + 4) 0xFFFFFFFF).unitNow = none ∧
    (a.setN (pairCfg 0) (2 ^ 31 + 3 * 2 ^ 6 + 4 * 2 ^ 14)).unitNow = none ∧ b.bit (breachF 0) = false ∧
        r.unitNow = none ∧
    (r.armed && !r.bit VOTE_OUT && !r.bit GO_HELD && !r.leap.voteOff &&
        decide (r.rn READY_TARGET ≤ r.refVal (r.rn READY_SEL))) = true ∧
    r.enabledEntries = [] ∧ r.kidsIn r.leap.votes = true ∧ w.r64 PEND_COMMIT < w.pendStep ∧ r.atHall = true := by decide

theorem witness_CaddAtNode :
    let a := dieRun false
    let z : State := { State.reset with part := .die 0 0 0, nst := .live }
    let m := fun (due : Nat) => caddMsg 0 0 3 1 0 due
    let late : State := { a with time := 2 ^ 41 }
    let tw := ((State.reset.setB STRUCT_VALID true).setF NODE_ID 0x20000)
    let e := (((rootRun false).setF ⟨portBase .krasesta 0, 20, 3⟩ 1).setF ⟨portBase .krasesta 0, 0, 20⟩ 0xFFFFF)
    (isSync (m 9) 0 && decide (0 < a.part.numPorts) && a.acceptsCtl 0 (m 9) && !a.spare 0) = true ∧
    (isSync (m 9) 0 && decide (80 < a.part.numPorts)) = false ∧
        ({ a with nst := .fenced } : State).acceptsCtl 0 (m 9) = false ∧
    (isSync (m 9) 0 && decide (0 < e.part.numPorts) && e.acceptsCtl 0 (m 9) && e.spare 0) = true ∧
    a.quietTwin = false ∧ (cDest (m 9) == a.f NODE_ID) = true ∧
      (!a.armed || decide (a.dueNs (cDue (m 9)) * 65536 < (a.cnt.armedAt : Int))) = false ∧
    cCore (m 9) < a.part.numCores ∧ cCounter (m 9) < 48 ∧ cK (m 9) ≠ 0 ∧ (a.nowNs : Int) ≤ a.dueNs (cDue (m 9)) ∧
    a.cnt.hold.length < a.part.holdCap ∧ ¬ cCore (caddMsg 0 255 3 1 0 9) < a.part.numCores ∧
    late.dueNs (cDue (m 1)) < (late.nowNs : Int) ∧
      (!late.armed || decide (late.dueNs (cDue (m 1)) * 65536 < (late.cnt.armedAt : Int))) = false ∧
    late.quietTwin = false ∧ (cDest (m 1) == late.f NODE_ID) = true ∧
    z.armed = false ∧ z.quietTwin = false ∧ (cDest (m 9) == z.f NODE_ID) = true ∧ tw.quietTwin = true ∧
      tw.spare 0 = false ∧
    (cDest (caddMsg 7 0 3 1 0 9) == a.f NODE_ID) = false ∧ a.part.isK = false := by decide
/-- Routing at a Krasesta: a tray whose first port leads to die 0, and whose fifth is its up port. -/
theorem witness_CaddAtNode_route :
    let s := ((kUpPort 0 1).setF NODE_ID 0x40000).setF ⟨portBase .krasesta 4, 20, 3⟩ 2
    let kid := fun (t : State) (d : Nat) => t.kidPorts.find? (fun p => inSubtree (t.peerExp p) d)
    s.quietTwin = false ∧ bitOf 0 17 = false ∧ inSubtree (s.f NODE_ID) 0 = true ∧ kid s 0 = some 0 ∧ kid s 1 = none ∧
    s.fenced 0 = false ∧ (s.setB (portFence 0) true).fenced 0 = true ∧ inSubtree (s.f NODE_ID) 0x20 = false ∧
    s.upActive = [4] ∧ (kUpPort 0 1).upActive = [] ∧ s.armed = false := by decide
/-- A full hold buffer. -/
theorem witness_CaddAtNode_full :
    let a := dieRun false
    let full : State := { a with cnt := { hold := List.replicate a.part.holdCap ⟨0, 0, 0, 1, true, 0⟩ } }
    ¬ full.cnt.hold.length < full.part.holdCap := by
  intro a full
  exact Nat.not_lt.mpr (Nat.le_of_eq List.length_replicate.symm)

theorem witness_ResponsesAndForces :
    let a : State := { (dieRun false) with cnt := { rsps := [⟨0, 0, 5, 0⟩] }, time := 2 ^ 45 }
    let k : State := { State.reset with cnt := { rsps := [⟨0, 0, 5, 0⟩] } }
    let d : State := { State.reset with part := .die 0 0 0 }
    let w : State := { d with cnt := { ts := true, watches := [⟨1, 0, 5, 0, 0, none, 2, 3, 9, none⟩] } }
    State.reset.cnt.rsps.find? (fun r => r.port == 0 && decide (r.at_ ≤ State.reset.now)) = none ∧
    a.part.isK = false ∧ a.cnt.rsps.find? (fun r => r.port == 0 && decide (r.at_ ≤ a.now)) = some ⟨0, 0, 5, 0⟩ ∧
    k.part.isK = true ∧ k.cnt.rsps.find? (fun r => r.port == 0 && decide (r.at_ ≤ k.now)) = some ⟨0, 0, 5, 0⟩ ∧
    a.cnt.rsps.any (fun r => r.port == 0 && decide (r.at_ + 8 * 65536 < a.now)) = true ∧
    k.cnt.rsps.any (fun r => r.port == 0 && decide (r.at_ + 8 * 65536 < k.now)) = false ∧
    d.mainOn = true ∧ bitsOf (d.rn FORCE_ADDR) 8 8 < d.part.numCores ∧ bitsOf (d.rn FORCE_ADDR) 0 6 < 48 ∧
    ({ d with power := { held := true } } : State).mainOn = false ∧
    ¬ bitsOf ((d.setN FORCE_ADDR 0xFF00).rn FORCE_ADDR) 8 8 < d.part.numCores ∧ a.armed = true ∧ a.mainOn = true ∧
      d.armed = false ∧
    w.mainOn = true ∧ w.pending = [] ∧ w.cnt.ts = true ∧
      w.enabledEntries.any (fun k => w.roundDue k) = false := by decide

theorem witness_BarrierMessages :
    let a := (((kUpPort 0 1).setB LEAPS_ARMED true).setB (barEn 16) true).setF (barExpect 16) 2
    let b : State := { a.setB (childMap 0 0) true with beat := { regs := a.regs } }
    let c := (b.setB (barScope 16) true).setF (barCur 16) 1
    let d := ((dieRun false).setB (barEn 16) true)
    let m := barMsg 1 0 false 0 0 0
    let z := (kUpPort 0 1).setB (portFence 0) true
    (isSync m 1 && decide (0 < b.part.numPorts) && b.acceptsCtl 0 m) = true ∧ isSync m 2 = false ∧ b.unitNow = none ∧
    ({ d with nst := .fenced } : State).acceptsCtl 0 m = false ∧
    (isSync m 1 && decide (0 < z.part.numPorts)) = true ∧ z.acceptsCtl 0 m = false ∧
    ({ d with nst := .fenced } : State).acceptsCtl 0 (barMsg 2 0 false 0 0 0) = false ∧
        d.acceptsCtl 0 (barMsg 2 0 false 0 0 0) = true ∧
    (b.armed && b.bit (barEn (16 + 0)) && (b.childPorts 0).contains 0) = true ∧ bSlot m = 0 ∧
    (a.armed && a.bit (barEn (16 + 0)) && (a.childPorts 0).contains 0) = false ∧
    b.cnt.pend = [] ∧ b.bar.rels = [] ∧ b.bar.arrs = [] ∧
    (bRound m + 4 - b.f (barRound 16)) % 4 = 0 ∧ b.f (barCur 16) + 1 < b.f (barExpect 16) ∧
    c.f (barCur 16) + 1 = c.f (barExpect 16) ∧ c.bit (barScope 16) = true ∧
    (bRound (barMsg 1 1 false 0 0 0) + 4 - b.f (barRound 16)) % 4 = 1 ∧ b.f (barNext 16) < b.f (barExpect 16) ∧
    2 ≤ (bRound (barMsg 1 2 false 0 0 0) + 4 - b.f (barRound 16)) % 4 ∧
    (isSync (barMsg 2 0 false 0 0 0) 2 && decide (0 < d.part.numPorts)) = true ∧ d.bit (barScope 16) = false ∧
    (d.armed && d.bit (barEn 16) && d.selPort.contains 0 && bRound (barMsg 2 0 false 0 0 0) == d.f (barRound 16)) =
        true ∧
    (d.armed && d.bit (barEn 16) && d.selPort.contains 0 && bRound (barMsg 2 1 false 0 0 0) == d.f (barRound 16)) =
        false ∧
    d.dueNs (bDue (barMsg 2 0 true 0 0 0)) = 0 := by decide
/-- A release past its DUE, a stall and a deadlock. -/
theorem witness_BarrierMessages_late :
    let l : State := { (dieRun false) with time := 2 ^ 45 }
    let e : State := { ((dieRun false).setB (barEn 0) true).setN (barStall 0) 1 with bar := { ents := [(0, { stallAt := some 0 })] }, time := 2 ^ 45 }
    let q : State := { (dieRun false).setB DL_EN true with cnt := { watches := [⟨0, 0, 0, 0, 0, none, 0, 0, 9, none⟩] }, time := 2 ^ 80 }
    (bAligned (barMsg 2 0 true 0 0 0) && decide (l.dueNs (bDue (barMsg 2 0 true 0 0 0)) < (l.nowNs : Int))) = true ∧
    (e.bit (barEn 0) && !e.bit (barStalled 0) && e.rn (barStall 0) != 0) = true ∧ e.roundDue 0 = false ∧
        e.cnt.pend = [] ∧
    (e.ent 0).stallAt.any (fun x => decide (x + e.rn (barStall 0) * 65536 ≤ e.now)) = true ∧ e.bit (barEn 1) = false ∧
    q.dlQuiet = true ∧ q.bar.dlSince + q.f DL_WINDOW * 65536 ≤ q.now ∧ l.dlQuiet = false ∧ q.bit DL_VALID = false ∧
    q.bit LOG_FROZEN = false := by decide

theorem witness_FlitRoundTrip :
    let f : Flit := ⟨5, 7, 9, 1, 3, 2, 240, 0, false, List.replicate 240 0, 4, true⟩
    f.typ < 16 ∧ f.slot < 4096 ∧ f.sq < 4096 ∧ f.akind < 4 ∧ f.asq < 4096 ∧ f.queue < 64 ∧ f.plen < 256 ∧ f.otyp < 16 ∧
    f.cack < 4096 ∧ f.payload.length = 240 := by decide

theorem witness_PortTraining :
    let a : State := { State.reset with part := .die 0 0 0, nst := .armed }
    let t := fun (n : Nat) => a.setF ⟨a.pa 0 8, 0, 3⟩ n
    let ready : State := { (t 1) with rxLock := (List.range 8).map (fun l => (l, 0)), beat := { n := 1000 } }
    let late : State := { (t 1) with time := 2 ^ 80 }
    (a.portExists 0 && a.txOn) = true ∧ (a.portExists 1 && a.txOn) = false ∧ (t 0).tstate 0 = 0 ∧ ready.tstate 0 = 1 ∧
    ready.lanesReady 0 = true ∧ (t 1).lanesReady 0 = false ∧ (t 2).tstate 0 = 2 ∧ (t 3).tstate 0 = 3 ∧
    ((t 3).setB (bitF (a.pa 0 8) 8) true).bit (bitF (a.pa 0 8) 8) = true ∧
        ((t 3).setB (bitF (a.pa 0 8) 8) true).tstate 0 = 3 ∧
    (t 3).bit (bitF (a.pa 0 8) 8) = false ∧ 4 ≤ (t 4).tstate 0 ∧ late.tstate 0 = 1 ∧
    (late.port 0).trainAt + 40000000 * 65536 ≤ late.now ∧ ¬ ((t 1).port 0).trainAt + 40000000 * 65536 ≤ (t 1).now ∧
    (a.mainOn && a.portExists 0) = true ∧ (a.setB LEAPS_ARMED true).armed = true ∧ a.armed = false ∧
        (t 1).mainOn = true := by decide

theorem witness_LinkDeadAndReplay :
    let a := (kUpPort 0 1).setPort 0 { miss := [⟨5, 4, 0, 0⟩, ⟨6, 1, 0, 0⟩, ⟨7, 2, 0, 0⟩], replay := [(0, [])], txSeq := 1024 }
    let b : State := { a with time := 2 ^ 60 }
    let me := fun (sq : Nat) (m : Miss) => m.sq == sq && decide (m.at_ + b.rn (b.pa 0 0x1C) * 65536 ≤ b.now) &&
      !(b.port 0).reqs.contains m.sq
    (b.portExists 0 && b.portUp 0) = true ∧ (b.port 0).miss.any (fun m => decide (4 ≤ m.fails)) = true ∧
    (b.port 0).lastGood + 1000 * 65536 ≤ b.now ∧ b.replayFull 0 = true ∧ ¬ (a.port 0).lastGood + 1000 * 65536 ≤ a.now ∧
    (a.setF ⟨a.pa 0 8, 0, 3⟩ 2).tstate 0 = 2 ∧ (a.setF ⟨a.pa 0 8, 0, 3⟩ 2).portExists 0 = true ∧
        a.portExists 1 = false ∧
    (b.port 0).miss.any (me 9) = false ∧ (b.port 0).miss.find? (me 6) = some ⟨6, 1, 0, 0⟩ ∧
    (b.port 0).miss.find? (me 7) = some ⟨7, 2, 0, 0⟩ ∧ (b.port 0).miss.find? (me 5) = some ⟨5, 4, 0, 0⟩ ∧
        b.looped = false := by decide

theorem witness_FlitsOnTheLine :
    let a := kUpPort 0 1
    let b := (a.setB ROOTPLL_LOCK true).setPort 0 { slot := 0, laneCorr := [(0, 3000000)] }
    (b.portExists 0 && b.txOn && (b.tstate 0 == 3 || b.tstate 0 == 4)) = true ∧ b.inTadpole = false ∧ b.eftOn 0 = none ∧
    b.wheelAt 0 0 / 64 = 1 ∧ (b.port 0).slot < 4096 ∧ b.tstate 0 = 4 ∧
      ({ b with nst := .tadpole } : State).inTadpole = true ∧
    (a.portExists 0 && a.txOn && (a.tstate 0 == 3 || a.tstate 0 == 4)) = false ∧ a.portExists 0 = true ∧
        a.tstate 0 = 4 ∧
    (a.portExists 0 && a.portUp 0) = true ∧ (a.portExists 1 && a.portUp 1) = false ∧
    decide (b.rn (b.pa 0 0x30) < tget (fun _ => 0) (b.port 0).laneCorr 0) = true ∧
    decide (a.rn (a.pa 0 0x30) < tget (fun _ => 0) (a.port 0).laneCorr 0) = false := by decide
/-- Bytes that fail the CRC. -/
theorem witness_FlitsOnTheLine_bad : crcOk (List.replicate 256 0) = false := by decide +kernel
/-- The bits of two lanes in a codeword whose first 256 bytes are a good flit of the reserved type 12 with SEQ 2. -/
def lineBits : List Nat := [
    0x800C0 * 2 ^ 0 +
    0x0 * 2 ^ 340 +
    0x360D4000000000000000000000000000000000000000000000000000000000000000000000000000000 * 2 ^ 680 +
    0x0 * 2 ^ 1020 +
    0x0 * 2 ^ 1360 +
    0x0 * 2 ^ 1700 +
    0x0 * 2 ^ 2040 +
    0xD3232215957443F8BFB989F369DFA8716C398C00000000000000000000000000000000000000000000000 * 2 ^ 2380,
    0x0 * 2 ^ 0 +
    0x0 * 2 ^ 340 +
    0x14C1C00000000000000000000000000000000000000000000000000000000000000000000000000000 * 2 ^ 680 +
    0x0 * 2 ^ 1020 +
    0x0 * 2 ^ 1360 +
    0x0 * 2 ^ 1700 +
    0x0 * 2 ^ 2040 +
    0xB7BFC0B3B695EB4F353E1ED407FA8668F200D800000000000000000000000000000000000000000000000 * 2 ^ 2380]
/-- The flit in these bits is good; SEQ 0 and 1 before it are missing. -/
theorem witness_FlitsOnTheLine_good :
    let a := (kUpPort 0 1).setPort 0 { rxNext := some 0 }
    let ws := (a.rxWords 0 0 [lineBits] []).map rsDecode
    let flit := leBytes 256 (ws.foldr (fun w v => symbolBits (w.1.take 514) + 2 ^ 5140 * v) 0 / 2 ^ 0 % 2 ^ 2048)
    (!crcOk flit || ws.any (fun w => w.2.isNone)) = false ∧
    flit = (⟨12, 0, 2, 0, 0, 0, 0, 0, false, [], 0, false⟩ : Flit).bytes := by decide +kernel
theorem witness_FlitsOnTheLine_type :
    let f := readFlit (⟨12, 0, 2, 0, 0, 0, 0, 0, false, [], 0, false⟩ : Flit).bytes
    let a := (kUpPort 0 1).setPort 0 { rxNext := some 0 }
    (a.port 0).hasGot 2 = false ∧ f.typ ≠ 8 ∧ f.reserved = true ∧ f.sq = 2 ∧ seqDiff f.sq 0 = 2 ∧
    ((kUpPort 0 1).setPort 0 { cack := some 2 }).port 0 = { cack := some 2 } ∧
    ({ cack := some 2 } : Port).hasGot 2 = true := by decide +kernel

theorem witness_DieLanes :
    let a : State := { State.reset with part := .die 0 0 0 }
    let l := fun (n : Nat) => ({ a with rxLock := [(1, 0)] } : State).setF ⟨a.pa 0 8, 0, 3⟩ n
    let w : State := { a with outs := { ffeWait := [3], ffeNext := [(3, some 5)] } }
    a.part.isK = false ∧ State.reset.part.isK = true ∧ a.rxLock.any (fun x => x.1 == 1) = false ∧ a.power.held = false ∧
    ({ a with power := { held := true } } : State).power.held = true ∧ a.outs.ffeWait = [] ∧ w.outs.ffeWait ≠ [] ∧
    tget (fun _ => none) w.outs.ffeNext 3 = some 5 ∧
    (l 4).rxLock.any (fun x => x.1 == 1) = true ∧ (l 4).tstate 0 = 4 ∧ (l 2).tstate 0 = 2 ∧
        (l 1).tstate 0 = 1 := by decide

theorem witness_CroakAndDetector :
    let a := kUpPort 0 1
    let b : State := { a with time := 2 ^ 60 }
    let c := b.setPort 0 { newCroak := true }
    let d := b.setF (b.detMiss 0) 4
    let m := a.croakMsg 3 0
    let o := a.setB ORPHAN true
    let g := (kUpPort 4 1).setN 0x1040000 4
    b.flt.croakK * 10000 ≤ b.nowNs ∧ ¬ ({ a with flt := { croakK := 1 } } : State).flt.croakK * 10000 ≤ a.nowNs ∧
    b.portUp 0 = true ∧ mType m = 4 ∧ (b.portUp 0 && mType (leapMsg kGO 0 0 0) == 4) = false ∧ b.looped = false ∧
    (bitsOf m.toNat 92 20 == a.expectedId 0) = true ∧ bitOf m.toNat 115 = false ∧ mKind m = 2 ∧ a.armed = false ∧
    bitOf (o.croakMsg 3 0).toNat 115 = true ∧ (bitsOf (leapMsg 0 0 0 0).toNat 92 20 == 5) = false ∧
    (a.part.isK && a.use 0 == 1 && !a.quietTwin && !a.fenced 0 &&
        !eftEntries.any (fun e => a.bit (eftEn e) && !a.bit (bitF (eftStatus e) 4) && a.f (eftPortF e) == 0)) = true ∧
    (b.port 0).checkK * 10000 + 5000 ≤ b.nowNs ∧ (c.port 0).newCroak = true ∧ c.portUp 0 = true ∧
        (b.port 0).newCroak = false ∧
    b.f (b.detMiss 0) < 4 ∧ 4 ≤ d.f (d.detMiss 0) ∧ d.portUp 0 = true ∧ (d.port 0).newCroak = false ∧
      a.portUp 1 = false ∧
    g.gangedUpper 4 = true ∧ g.portUp 4 = true ∧ g.chanOf 4 = 0 := by decide

theorem witness_FaultNotices :
    let a := kUpPort 0 2
    let d := kUpPort 0 1
    let f := d.setB (portFence 0) true
    let w := d.setF NODE_ID 0x20000
    let r := (a.setB BME true).setHeld 5 (some [0, 0, 0x80000020])
    a.portUp 0 = true ∧ a.takesMgmt 0 (faultNotice 1 0 9 0) = true ∧ isNotice (faultNotice 1 0 9 0) 1 = true ∧
      a.use 0 = 2 ∧
    bitsOf (noticeRec (faultNotice 1 0 9 0)) 72 20 = a.f NODE_ID ∧ a.inTadpole = false ∧ a.nst ≠ .fenced ∧
    (bitsOf (noticeRec (faultNotice 1 0 9 7)) 72 20 == a.f NODE_ID) = false ∧ w.quietTwin = true ∧ w.portUp 0 = true ∧
    w.takesMgmt 0 (faultNotice 2 0 9 0) = true ∧ isNotice (faultNotice 2 0 9 0) 2 = true ∧ w.use 0 = 1 ∧
    isNotice (faultNotice 2 0 9 0) 1 = false ∧ isNotice (faultNotice 1 0 9 0) 2 = false ∧ f.portUp 0 = true ∧
    f.takesMgmt 0 (faultNotice 1 0 9 0) = false ∧ f.takesMgmt 0 (faultNotice 2 0 9 0) = false ∧ a.portUp 1 = false ∧
    a.part.isK = true ∧ (dieRun true).part.isK = false ∧ a.takeDesc 5 [] = none ∧
      r.takeDesc 5 [] = some [0, 0, 0x80000020] := by decide

theorem witness_FenceCommands :
    let a := kUpPort 0 1
    let b := (a.setB (portFence 0) true).setPort 0 { tadSeen := true }
    let w := a.setF NODE_ID 0x20000
    let e := a.setB (eftEn 0) true
    let l := e.setB (bitF (eftStatus 0) 4) true
    let find := fun (s : State) => eftEntries.find? (fun e => s.bit (eftEn e) && s.f (eftPortF e) == 0)
    State.reset.inTadpole = true ∧ a.inTadpole = false ∧ a.nst ≠ .fenced ∧
      ({ a with nst := .fenced } : State).inTadpole = false ∧
    bitOf (0x80000000 : Word).toNat 31 = true ∧ bitOf (0 : Word).toNat 31 = false ∧
    (a.part.isK && decide (0 < 72) && a.use 0 == 1 && a.portUp 0) = true ∧ (a.use 1 == 1) = false ∧ find a = none ∧
        find e = some 0 ∧
    find l = some 0 ∧ e.bit (bitF (eftStatus 0) 4) = false ∧ l.bit (bitF (eftStatus 0) 4) = true ∧ a.quietTwin = false ∧
    w.quietTwin = true ∧ w.fenced 0 = false ∧ (w.use 0 == 1 && w.portUp 0) = true ∧ b.armed = false ∧
      b.fenced 0 = true ∧
    (b.port 0).tadSeen = true ∧ a.fenced 0 = false ∧ b.bit LOG_FROZEN = false := by decide

theorem witness_GeckoAndLog :
    let r := rootRun true
    let d := dieRun true
    bitOf (0 : Word).toNat 0 = false ∧ bitOf (0 : Word).toNat 1 = false ∧ bitOf (0 : Word).toNat 2 = false ∧
    bitOf (7 : Word).toNat 0 = true ∧ bitOf (7 : Word).toNat 1 = true ∧ bitOf (4 : Word).toNat 2 = true ∧
      bitOf (4 : Word).toNat 1 = false ∧
    r.isRoot = true ∧ r.armed = true ∧ (d.isRoot && d.armed) = false ∧ d.nst = .running ∧ d.armed = true ∧
      State.reset.nst ≠ .running ∧
    d.atHall = false ∧ d.leap.failSteps.contains (d.step % 2 ^ 16) = false ∧
    State.reset.bit COND_VALID = false ∧ (State.reset.setB COND_VALID true).bit COND_VALID = true ∧
      State.reset.part.isK = true := by decide

theorem witness_MapsAndEfts :
    let d : State := { State.reset with part := .die 3 0 0 }
    let e : State := { d with nst := .live }
    let k := (kUpPort 0 1).setF NODE_ID 0x40000
    let k1 := ((k.setN (portBase .krasesta 4) (2 * 2 ^ 24 + 2 ^ 20 + 0xFFFFF)).setF ⟨portBase .krasesta 0, 24, 2⟩ 2)
    let cfg : Nat := 2 ^ 31 + 4 * 2 ^ 8
    let act := ((k.setB (eftEn 0) true).setB (bitF (eftStatus 0) 5) true).setR64 STEP_COUNT 5
    let mis := act.setEft 0 { mism := [(0, 1, 2, 3)] }
    d.part.isK = false ∧ d.bit LOAD_BUSY = false ∧ (d.setB LOAD_BUSY true).bit LOAD_BUSY = true ∧
      1 < d.part.numCores ∧ d.nst = .tadpole ∧
    (List.range d.part.numCores).any (fun k => k != 1 && d.f (coreMap k) == (9 : Word).toNat % 256) = false ∧
    e.nst ≠ .stopped ∧ e.nst ≠ .tadpole ∧ k.part.isK = true ∧ k.mainOn = true ∧ k.bit LOAD_BUSY = false ∧
    (k.setB LEAPS_ARMED true).armed = true ∧ k.armed = false ∧ bitOf cfg 31 = true ∧ k.eftOk cfg = false ∧
        k1.eftOk cfg = true ∧
    k1.armed = false ∧ k1.bit LOAD_BUSY = false ∧ k1.mainOn = true ∧ (k1.setB (eftEn 0) true).eftOk cfg = true ∧
    k1.bit (eftEn 0) = false ∧ act.bit (eftEn 0) = true ∧ act.bit (bitF (eftStatus 0) 5) = true ∧
    act.bit (bitF (eftStatus 0) 4) = false ∧ (act.eft 0).closeStep + 1 < act.step ∧
    (act.eft 0).judge (act.eft 0).closeStep = none ∧ (mis.eft 0).judge (mis.eft 0).closeStep = some (1, 2, 3) ∧
    (mis.eft 0).closeStep + 1 < mis.step ∧ mis.bit (eftEn 0) = true ∧ mis.bit (bitF (eftStatus 0) 5) = true := by decide

theorem witness_DataDelivery :
    let e : RxEnt := { due := 0, sq := 0, plen := 3, data := List.replicate 240 1, wrote := false, late := false }
    let k := ((kUpPort 0 1).setRxq 0 0 [e]).setN ((kUpPort 0 1).qa 0 0 4) 1
    let m := k.setN (k.qa 0 0 4) 0
    let n := m.setN (m.qa 0 0 8) 0x2000000
    let f := k.setN (k.qa 0 0 4) (2 * 2 ^ 30 + 2 ^ 16)
    let c := k.setN (k.qa 0 0 0x10) (2 ^ 31 + 3)
    let d : State := { State.reset with part := .die 0 0 0 }
    let r : BulkReq := { use := .dropped, addr := 0, len := 128, beats := 2, data := [] }
    let b : State := { d with bulk := { rdOut := [(3, r), (5, { r with beats := 1, use := .txRing 0 0 }), (6, { r with beats := 1, use := .eggRead 1 0 })], wrOut := [(3, { r with use := .rxRing 0 0 }), (4, { r with use := .eggWrite })] } }
    let x := b.setRxq 0 0 [e, { e with sq := 1, wrote := true }]
    let l : State := { x with time := 2 ^ 50 }
    let ready := fun (s : State) (e : RxEnt) => decide (e.due ≤ s.now) && (s.part.isK || e.wrote || s.rxKind 0 0 != 1)
    (State.reset.rxq 0 0).find? (ready State.reset) = none ∧ (k.rxq 0 0).find? (ready k) = some e ∧
        k.part.isK = true ∧ k.rxKind 0 0 ≠ 2 ∧
    k.rxSel 0 0 ≠ 0 ∧ e.data.length = 240 ∧ m.rxSel 0 0 = 0 ∧ f.rxKind 0 0 = 2 ∧ f.reduced (f.fwdPort 0 0) = false ∧
    (f.rxq 0 0).find? (ready f) = some e ∧ (f.setB (portFence 1) true).reduced (f.fwdPort 0 0) = true ∧
    (k.setRxq 0 0 [{ e with late := true }]).rxq 0 0 = [{ e with late := true }] ∧
    m.ringAddr 0 (m.qa 0 0 8) 0 0 < 64 * tileBytes ∧ 64 * tileBytes ≤ n.ringAddr 0 (n.qa 0 0 8) 0 0 ∧
    bitOf (c.rn (c.qa 0 0 0x10)) 31 = true ∧ c.hasCounter 0 3 = true ∧ bitOf (k.rn (k.qa 0 0 0x10)) 31 = false ∧
    (x.rxq 0 0).find? (ready x) = some e ∧ x.rxKind 0 0 ≠ 2 ∧ x.part.isK = false ∧ x.power.held = false ∧
    b.bulk.rdOut.find? (fun x => x.1 == 3) = some (3, r) ∧
    b.bulk.rdOut.find? (fun x => x.1 == 5) = some (5, { r with beats := 1, use := .txRing 0 0 }) ∧
    b.bulk.rdOut.find? (fun x => x.1 == 6) = some (6, { r with beats := 1, use := .eggRead 1 0 }) ∧
    b.bulk.wrOut.find? (fun x => x.1 == 3) = some (3, { r with use := .rxRing 0 0 }) ∧
    b.bulk.wrOut.find? (fun x => x.1 == 4) = some (4, { r with use := .eggWrite }) ∧
      b.bulk.wrOut.find? (fun x => x.1 == 9) = none ∧
    b.bulk.rdOut.find? (fun x => x.1 == 9) = none ∧ b.txSent 0 0 ≤ 0 ∧
    (x.rxq 0 0).find? (fun e => e.sq == 0 && !e.wrote) = some e ∧
        (x.rxq 0 0).find? (fun e => e.sq == 1 && !e.wrote) = none ∧
    (l.rxq 0 0).find? (fun e => e.sq == 0 && !e.wrote) = some e ∧ e.due < l.now ∧ x.now ≤ e.due ∧
    (1 < x.txSent 0 0 → False) ∧ ((x.setN (x.qa 0 0 0x30) 2).txSent 0 0 = 2) := by decide

theorem witness_SpawnCommands :
    let c : State := { kUpPort 0 1 with nst := .chorus }
    let k := (((c.setF EGG_COUNT 2).setN LAST_LEN 5).setF SPAWN_CACHE_SIZE 4)
    let a := k.setB S_ARMED true
    let w := a.setF NODE_ID 0x20000
    let u := { (kUpPort 0 2).setB S_ARMED true with spawn := { k.spawn with resend := true } }
    let pl : List Byte := eggHead 2 0 0 0 ++ List.replicate 16 0
    let re : List Byte := eggHead 2 0 0 0 ++ [0x80] ++ List.replicate 15 0
    k.mainOn = true ∧ (dieRun true).mainOn = true ∧
      ({ dieRun true with power := { held := true } } : State).mainOn = false ∧
    bitOf (0 : Word).toNat 1 = false ∧ bitOf (0 : Word).toNat 0 = false ∧ bitOf (3 : Word).toNat 1 = true ∧
      bitOf (3 : Word).toNat 0 = true ∧
    k.spawnOk = true ∧ a.spawnOk = false ∧ eggEtype pl = 2 ∧ eggEtype (eggHead 1 0 0 0) ≠ 2 ∧ k.use 0 ≠ 0 ∧
      k.chanOf 0 = 0 ∧
    k.reduced 0 = false ∧ (k.setB (portFence 0) true).reduced 0 = true ∧ k.use 1 = 0 ∧ bitOf (recBody pl) 127 = false ∧
    bitOf (recBody re) 127 = true ∧ w.isTwin = true ∧ w.quietTwin = true ∧ w.use 0 = 1 ∧ w.fencePort 0 = false ∧
      eggId pl = a.f SPAWN_ID ∧
    eggId (eggHead 2 7 0 0) ≠ a.f SPAWN_ID ∧ a.bit S_ARMED = true ∧ k.bit S_ARMED = false ∧ a.spawnDown 0 = true ∧
    a.spawnUp.contains 0 = false ∧ a.fenced 0 = false ∧
      eftEntries.all (fun e => !(a.bit (eftEn e) && a.f (eftPortF e) == 0)) = true ∧
    u.spawnUp.contains 0 = true ∧ u.spawn.resend = true ∧ u.reduced 0 = false ∧
    ((a.setDir 0 { a.dir 0 with due := true }).dir 0).due = true ∧ (a.dir 0).due = false ∧
    a.now < (a.dir 0).sentAt + 100000 * 65536 := by decide

theorem witness_EggsArrive :
    let c : State := { kUpPort 0 1 with nst := .chorus }
    let k := (((c.setF EGG_COUNT 2).setN LAST_LEN 5).setB S_ARMED true)
    let h : State := { k with spawn := { k.spawn with held := [0] } }
    let part := eggHead 0 0 0 0 ++ List.replicate 232 (7 : Byte)
    let part1 := eggHead 0 0 0 1 ++ List.replicate 232 (7 : Byte)
    let tr := eggHead 1 0 0 0 ++ List.replicate 40 (0 : Byte)
    let d : State := ({ k with part := .die 0 0 0 } : State)
    let o := k.setDir 0 { k.dir 0 with rxEgg := some 0, rxParts := 1 }
    let ck := fun (s : State) (ok : Bool) => s.setDir 0 { s.dir 0 with checks := [(0, ok, true)] }
    let up : State := { kUpPort 0 2 with nst := .chorus }
    let b : State := { up with spawn := { up.spawn with bad := [0, 0] } }
    k.chanOf 0 = 0 ∧ k.use 0 ≠ 0 ∧ k.use 1 = 0 ∧ k.reduced 0 = false ∧ (k.setB (portFence 0) true).reduced 0 = true ∧
    c.eggMine part = false ∧ k.eggMine part = true ∧ k.eggMine part1 = true ∧ k.eggMine tr = true ∧
      eggEtype part = 0 ∧ eggEtype tr = 1 ∧
    eggEtype part1 = 0 ∧ eggPart part = 0 ∧ eggPart part1 ≠ 0 ∧ (k.dir 0).rxEgg ≠ some (eggNum part1) ∧
      (o.dir 0).rxEgg = some (eggNum part1) ∧
    (o.dir 0).rxParts = eggPart part1 ∧ (decide (eggNum part < k.eggs) && !k.spawn.held.contains (eggNum part)) = true ∧
    (decide (eggNum part < h.eggs) && !h.spawn.held.contains (eggNum part)) = false ∧
        h.spawn.held.contains (eggNum tr) = true ∧
    k.spawn.held.contains (eggNum tr) = false ∧ k.part.isK = true ∧ d.part.isK = false ∧
    k.allPorts.all (fun p => (k.dir p).checks.isEmpty) = true ∧ (k.dir 0).checks.isEmpty = true ∧
    (ck k true).allPorts.all (fun q => q == 0 || ((ck k true).dir q).checks.isEmpty) = true ∧
        ((ck k true).dir 0).checks = [(0, true, true)] ∧
    ((ck h true).dir 0).checks.length = 1 ∧ ((ck k false).dir 0).checks.length = 1 ∧ (ck k false).spawnDown 0 = true ∧
    (ck up false).spawnDown 0 = false ∧ (ck up false).bit S_FAILED = false ∧
        decide (2 ≤ (ck up false).spawn.bad.count 0) = false ∧
    decide (2 ≤ (ck b false).spawn.bad.count 0) = true ∧ (0 : Nat) < k.part.numPorts := by decide

theorem witness_TileDescriptors :
    let p : Prog := { l := 0, base := 0, len := 4 }
    let q : Prog := { p with pc := 2 }
    let lr := tileRun2 (13 * 2 ^ 250 + 2 ^ 232 + 5 * 2 ^ 208)
    let ls := tileRun2 (13 * 2 ^ 250 + 2 ^ 232 + 2 ^ 208)
    let n := (tileRun (2 ^ 250)).setTile 0 { sent := some p }
    let m := (tileRun (9 * 2 ^ 250)).setTile 0 { sent := some p }
    let rc := tileRun (10 * 2 ^ 250 + 2 ^ 176)
    let si := tileRun (11 * 2 ^ 250 + 2 ^ 197)
    let sj := tileRun (11 * 2 ^ 250 + 2 ^ 219 + 2 ^ 197)
    let wa := tileRun (12 * 2 ^ 250)
    let ar := tileRun (12 * 2 ^ 250 + 2 * 2 ^ 238)
    let br := ar.setB (barEn 16) true
    let op := fun (s : State) (p : Prog) (k : Nat) => dOp (s.nextDesc 0 p) == k && p.mayIssue (s.nextDesc 0 p) &&
      ((s.tile 0).prog.isSome || s.sentAllowed p (s.nextDesc 0 p)) && descRuns p (s.nextDesc 0 p)
    (tileRun 0).part.isK = true ∧ (dieRun true).part.isK = false ∧ ((tileRun 0).tile 1).cur = none ∧
        ((tileRun 0).tile 0).cur = some p ∧
    dOp ((tileRun 0).nextDesc 0 p) ≠ opLOAD ∧ descRuns p ((tileRun (13 * 2 ^ 250)).nextDesc 0 p) = false ∧
    op (tileRun (2 ^ 250)) p opLOAD = true ∧ op n p opLOAD = true ∧ (n.tile 0).cur = some p ∧ (n.tile 0).prog = none ∧
    m.sentAllowed p (m.nextDesc 0 p) = false ∧ p.mayIssue (m.nextDesc 0 p) = true ∧ dOp (m.nextDesc 0 p) = opSEND ∧
      (m.tile 0).cur = some p ∧
    op rc p opRECV = true ∧ op si p opSIGNAL = true ∧ op sj p opSIGNAL = true ∧ op wa p opWATCH = true ∧
      op ar p opWATCH = true ∧
    (rqFlag (signalReq 0 (sj.nextDesc 0 p)) || rqDest (signalReq 0 (sj.nextDesc 0 p)) == sj.f NODE_ID) = false ∧
    (sj.badForm (signalReq 0 (sj.nextDesc 0 p))).isNone = true ∧ fd (wa.nextDesc 0 p) 239 238 = 0 ∧
        fd (ar.nextDesc 0 p) 239 238 = 2 ∧
    ar.arriveFails (ar.watchDescReq 0 0 (ar.nextDesc 0 p)) = true ∧ op br p opWATCH = true ∧
    op lr q opLOOP = true ∧ op ls q opLOOP = true ∧ 0 + 1 < loopCount (lr.nextDesc 0 q) ∧
      loopCount (ls.nextDesc 0 q) ≤ 0 + 1 := by decide +kernel

theorem witness_TileMemory :
    let p : Prog := { l := 0, base := 0, len := 4 }
    let ld := tileRun (2 ^ 250 + 2 ^ 213 * 4096 + 64 * 2 ^ 144)
    let lc := (tileRun (2 ^ 250 + 2 ^ 213 * 65536 + 2 ^ 171 + 65536 * 2 ^ 144 + 2 ^ 143)).setN 0x3401000 3
    let st := (tileRun (2 * 2 ^ 250 + 2 ^ 213 * 4096 + 2 ^ 171 + 64 * 2 ^ 144)).setN 0x3401000 3
    let sz := (tileRun (2 * 2 ^ 250 + 2 ^ 213 * 4096 + 2 ^ 171 + 64 * 2 ^ 144)).setN 0x3401000 0
    let sb := tileRun (2 * 2 ^ 250 + 2 ^ 213 * 4096 + 64 * 2 ^ 144)
    let se := tileRun (9 * 2 ^ 250 + 2 ^ 213 * 4096 + 2 ^ 176 + 2 ^ 168)
    let ss := (se.setN (se.qa 0 0 0x14) 1).setN 0x3401000 3
    let ve := tileRun (4 * 2 ^ 250 + 2 ^ 129 + 7 * 2 ^ 125 + 7 * 2 ^ 121)
    let re := tileRun (7 * 2 ^ 250 + 2 ^ 96 + 7 * 2 ^ 92 + 7 * 2 ^ 88 + 2 ^ 86)
    let op := fun (s : State) => dOp (s.nextDesc 0 p)
    let ok := fun (s : State) => p.mayIssue (s.nextDesc 0 p) && descRuns p (s.nextDesc 0 p) &&
      (s.tile 0).prog.isSome && s.part.isK
    (ld.tile 0).cur = some p ∧ ok ld = true ∧ ok lc = true ∧ ok st = true ∧ ok sb = true ∧ ok se = true ∧
        ok ss = true ∧ ok ve = true ∧ ok re = true ∧
    op ld = opLOAD ∧ op lc = opLOAD ∧ op st = opSTORE ∧ op sb = opSTORE ∧ op se = opSEND ∧ op ss = opSEND ∧
      op ve = opVECTOR ∧ op re = opREDUCE ∧
    ld.hasShare 0 (ld.nextDesc 0 p) = true ∧ lc.hasShare 0 (lc.nextDesc 0 p) = true ∧
      bitOf (lc.nextDesc 0 p) 143 = true ∧
    bitOf (ld.nextDesc 0 p) 143 = false ∧ fd (st.nextDesc 0 p) 172 171 = 1 ∧ st.hasShare 0 (st.nextDesc 0 p) = true ∧
    sz.hasShare 0 (sz.nextDesc 0 p) = false ∧ op sz = opSTORE ∧ fd (sb.nextDesc 0 p) 172 171 = 0 ∧
      se.hasShare 0 (se.nextDesc 0 p) = true ∧
    (fd 0 87 86 = 0 ∨ fd 0 87 86 = 3) ∧ isScaled 7 = false ∧ isScaled 9 = true ∧ fd (2 ^ 86) 87 86 = 1 ∧
        2 ^ 24 ≤ ({ cnt := 2 ^ 24 } : XAcc).cnt ∧
    ss.hasShare 0 (ss.nextDesc 0 p) = true ∧ se.txSel 0 0 = 0 ∧ ss.txSel 0 0 ≠ 0 ∧
      fd (re.nextDesc 0 p) 87 86 = 1 := by decide +kernel

theorem witness_TileCompletion :
    let o : TOp := { idx := 0, desc := 9 * 2 ^ 250 + 2 ^ 176, due := some 0, start := 0, wait := none }
    let p : Prog := { l := 0, base := 0, len := 4, pc := 4, units := [(3, o)] }
    let a := (tileRun 0).setTile 0 { prog := some p }
    let w := (tileRun 0).setTile 0 { prog := some { p with units := [], watch := some 3, arrives := [(7, 2)] } }
    let wl := (tileRun 0).setTile 0 { left := [(7, 20000)] }
    let rv := (tileRun 0).setTile 0 { prog := some { p with units := [(3, { o with desc := 10 * 2 ^ 250 + 2 ^ 176 })] } }
    let ar := (tileRun 0).setTile 0 { prog := some { p with units := [(4, o)] } }
    let rs := fun (s : State) (tag st : Nat) => ({ s with cnt := { rsps := [{ port := 0, acc := 7, at_ := 0, word := rspMsg 0 st tag 0 0 false false false }] } } : State)
    let here := fun (s : State) => (s.cnt.rsps.find? (fun r => r.port == 0 &&
      decide (r.at_ ≤ s.now))).map (fun r => (rsTag r.word, rsStatus r.word))
    let d := tileRun 0 |>.setTile 0 {}
    a.part.isK = true ∧ (dieRun true).part.isK = false ∧ (a.tile 0).cur = some p ∧ (a.tile 1).cur = none ∧
    p.units.find? (fun x => x.1 == 3 && a.unitDone 0 x) = some (3, o) ∧
      p.units.find? (fun x => x.1 == 0 && a.unitDone 0 x) = none ∧
    a.hasCounter (bitsOf (a.ringRef o.desc) 8 8) (bitsOf (a.ringRef o.desc) 0 6) = true ∧
    here (rs w 3 0) = some (3, 0) ∧ (w.runsAs 0).getD (w.physOf 0) = 0 ∧
      (w.tile 0).prog = some { p with units := [], watch := some 3, arrives := [(7, 2)] } ∧
    here (rs w 3 1) = some (3, 1) ∧ here (rs w (2 ^ 15 + 2) 10) = some (2 ^ 15 + 2, 10) ∧
      here (rs rv (2 ^ 14) 0) = some (2 ^ 14, 0) ∧
    here (rs rv (2 ^ 14) 1) = some (2 ^ 14, 1) ∧ here (rs ar (2 ^ 15) 11) = some (2 ^ 15, 11) ∧
      ((rv.tile 0).prog.bind (·.waits 3 0)).isSome = true ∧
    ((ar.tile 0).prog.bind (·.waits 4 0)).isSome = true ∧
        here (rs wl (2 ^ 15 + 20000 % 2 ^ 14) 11) = some (2 ^ 15 + 20000 % 2 ^ 14, 11) ∧
    (w.tile 0).left.find? (fun x => x.1 == 7 && x.2 % 2 ^ 14 == 2) = none ∧
        ((wl.tile 0).left.find? (fun x => x.1 == 7 && x.2 % 2 ^ 14 == 20000 % 2 ^ 14)).isSome = true ∧
    ([(7, 2)] : List (Nat × Nat)).find? (fun x => x.1 == 7 && x.2 % 2 ^ 14 == 2) = some (7, 2) ∧
    (d.tile 0).prog = none ∧ here (rs d (2 ^ 15) 11) = some (2 ^ 15, 11) ∧
    rv.hasShare 0 (10 * 2 ^ 250 + 2 ^ 176) = true := by decide +kernel
theorem witness_TileCompletion_map :
    let c := (((tileRun 0).setN 0x700C00 (2 ^ 31)).setR64 0x700C04 1).setTile 0 { sentReady := true }
    let d := ((c.setB LAUNCH_PEND true).setR96 NEXT_LAUNCH (tsOf (900000 * 65536))).setB STRUCT_VALID true
    let e := c.setTile 0 { sent := some { l := 0, base := 0, len := 0 } }
    let f := (tileRun (9 * 2 ^ 250)).setTile 0 { sent := some { l := 0, base := 0, len := 4 } }
    let m := (kUpPort 0 1).setB STRUCT_VALID true
    let st : State := { m with nst := .stopped }
    let u := fun (s : State) (l t : Nat) => (List.range 64).any (fun k => k != l && s.physOf k == t)
    d.logicalOf 0 = some 0 ∧ bitOf (d.rn 0x700C00) 31 = true ∧ bitOf (d.r64 0x700C04) 0 = true ∧
      (d.tile 0).sentReady = true ∧
    (d.tile 0).queued = 0 ∧ (d.tile 0).sent = none ∧ d.bit LAUNCH_PEND = true ∧
    d.now + d.rn 0x700C28 * 65536 < tsScalar (d.r96 NEXT_LAUNCH) ∧ c.bit LAUNCH_PEND = false ∧
    (e.tile 0).prog = none ∧ (e.tile 0).sent = some { l := 0, base := 0, len := 0 } ∧
        ({ l := 0, base := 0, len := 0 } : Prog).ended = true ∧
    crc32c (e.tRead 0 (e.rn 0x700C1C) (e.rn 0x700C20)) = e.r 0x700C24 ∧
    crc32c ((e.setN 0x700C24 1).tRead 0 ((e.setN 0x700C24 1).rn 0x700C1C) ((e.setN 0x700C24 1).rn 0x700C20)) ≠ (e.setN 0x700C24 1).r 0x700C24 ∧
    (f.tile 0).sent = some { l := 0, base := 0, len := 4 } ∧
        f.sentAllowed { l := 0, base := 0, len := 4 } (f.nextDesc 0 { l := 0, base := 0, len := 4 }) = false ∧
    m.mainOn = true ∧ m.bit LOAD_BUSY = false ∧ (m.setB LOAD_BUSY true).bit LOAD_BUSY = true ∧ st.nst = .stopped ∧
      u st 1 9 = false ∧
    u st 1 0 = true ∧ m.nst ≠ .stopped ∧ m.nst ≠ .tadpole ∧ st.logicalOf 0 = some 0 ∧ st.physOf 0 ≠ 9 ∧
      u st 0 9 = false := by decide +kernel

theorem witness_ParityAndStackErrors :
    let a := tileRun 0
    let b := a.setB (cleanF 0 3) true
    let c := b.setTile 0 { refetch := [3, 4], src := tset (fun _ => none) [] 3 (some 65536) }
    let f := a.setB LEAPS_ARMED true
    a.part.isK = true ∧ (dieRun true).part.isK = false ∧ b.bit (cleanF 0 3) = true ∧ a.bit (cleanF 0 3) = false ∧
      a.inPassStaging 0 3 = false ∧
    (c.tile 0).refetch.contains 3 = true ∧ tget (fun _ => none) (c.tile 0).src 3 = some 65536 ∧
        (c.tile 0).refetch.contains 4 = true ∧
    tget (fun _ => none) (c.tile 0).src 4 = none ∧ (a.tile 0).refetch.contains 3 = false ∧
    (f.armed && !f.atHall && !f.leap.failSteps.contains (f.step % 2 ^ 16)) = true ∧
    8192 < stackBytes ∧ 8192 / 4096 % 6 = 2 ∧ 8192 / 4096 % 6 ≠ 3 ∧ stackBytes ≤ 576 * 2 ^ 30 ∧
    (some 3 : Option Nat).all (fun x => decide (x < 72)) = true ∧
        (none : Option Nat).all (fun x => decide (x < 72)) = true := by decide

theorem witness_ClutchCommands :
    let k := kUpPort 0 1
    let o := k.setF (clSt 0) 1
    let p := o.setF (clPresent 0) 1
    let z := k.setF (clSt 0) 2
    let y := z.setB LEAPS_ARMED true
    let d := o.setF DOWN_CUM 5
    let e : State := { o with pfx := { o.pfx with imports := [(0, 0, 0)] } }
    let f : State := { p with pfx := { o.pfx with imports := [(0, 0, 0)] } }
    k.part.isK = true ∧ k.mainOn = true ∧ (dieRun true).part.isK = false ∧ k.f CMD_REF % 4096 = 0 ∧
      k.f (clGen 0) = k.f CMD_REF / 4096 ∧
    k.f (clSt 0) = 0 ∧ bitsOf (k.rn (clE 0 4)) 4 2 ≠ 3 ∧ bitsOf (k.rn (clE 0 4)) 0 2 ≠ 3 ∧ k.regionFree 0 = true ∧
      o.f (clSt 0) = 1 ∧
    bitsOf ((k.setN (clE 0 4) 3).rn (clE 0 4)) 0 2 = 3 ∧ (k.setF SPAWN_CACHE_SIZE 1).regionFree 0 = false ∧
    (k.setF CMD_REF 4096).f (clGen 0) ≠ (k.setF CMD_REF 4096).f CMD_REF / 4096 ∧ y.armed = true ∧ k.armed = false ∧
    o.f DOWN_CUM = 0xFFFFFF ∧ d.f DOWN_CUM ≠ 0xFFFFFF ∧
      d.rn CMD_ARG + ceilDiv (d.clutch 0).importBytes (2 ^ 20) - 1 ≤ d.f DOWN_CUM ∧
    p.f (clPresent 0) = (p.clutch 0).pages ∧ p.pfx.imports.isEmpty = true ∧ o.f (clPresent 0) ≠ (o.clutch 0).pages ∧
    f.pfx.imports.isEmpty = false ∧ z.f (clSt 0) = 2 ∧ z.bit (clEvictPend 0) = false ∧ y.bit (clEvictPend 0) = false ∧
    (z.setB (clEvictPend 0) true).bit (clEvictPend 0) = true := by
  refine ⟨?_, ?_, ?_, ?_, ?_, ?_, ?_, ?_, ?_, ?_, ?_, ?_, ?_, ?_, ?_, ?_, ?_, ?_, ?_, ?_, ?_, ?_, ?_, ?_, ?_,
    ?_⟩ <;> decide +kernel
theorem witness_ClutchCommands_import :
    let o := (kUpPort 0 1).setF (clSt 0) 1
    let e : State := { o with pfx := { o.pfx with imports := [(0, 0, 0)] } }
    let g : State := { o with pfx := { o.pfx with imports := [(0, 1, 0), (1, 0, 0)] } }
    e.pfx.imports.find? (fun y => y.1 == 0) = some (0, 0, 0) ∧ e.f (clGen 0) = 0 ∧ e.f (clSt 0) = 1 ∧
    g.pfx.imports.find? (fun y => y.1 == 0) = some (0, 1, 0) ∧ g.f (clGen 0) ≠ 1 ∧
      g.pfx.imports.eraseP (fun y => y.1 == 0) ≠ [] ∧
    e.pfx.imports.eraseP (fun y => y.1 == 0) = [] ∧ o.pfx.imports.find? (fun y => y.1 == 0) = none ∧
      (e.clutch 0).end_ ≤ stackBytes := by
  refine ⟨?_, ?_, ?_, ?_, ?_, ?_, ?_, ?_, ?_⟩ <;> decide +kernel

/-- A Krasesta with the write of page 0 of entry 0 in progress, of a GEN and with its bytes. -/
def pageDone (gen : Nat) (data : List Byte) : State :=
  let k := kUpPort 0 1
  { k with pfx := { k.pfx with writes := [{ ent := 0, gen := gen, page := 0, data := data, ntf := none }] } }
theorem witness_InstallPackets_wait :
    let a := instRun (3 * 2 ^ 124)
    a.part.isK = true ∧ a.diePort 0 = some 0 ∧ a.installs 0 = true ∧ a.waiting 0 (a.f PFX_IQ) ≠ 0 ∧
    bitsOf (beNat ((a.peekRing 0 (a.f PFX_IQ) 1).take 16)) 124 4 = 3 ∧
      a.waiting 0 (a.f PFX_IQ) < pageEntries (a.clutch 0) ∧
    a.f (clGen 0) = 0 ∧ (a.setN (a.qa 0 0 0x2C) 0).waiting 0 0 = 0 ∧ (a.setN (passR 0 8) 0).installs 0 = false := by
  refine ⟨?_, ?_, ?_, ?_, ?_, ?_, ?_, ?_, ?_⟩ <;> decide +kernel
theorem witness_InstallPackets_kinds :
    bitsOf (beNat (((instRun (4 * 2 ^ 124)).peekRing 0 0 1).take 16)) 124 4 = 4 ∧
      bitsOf (beNat (((instRun (5 * 2 ^ 124)).peekRing 0 0 1).take 16)) 124 4 = 5 ∧
    bitsOf (beNat (((instRun (6 * 2 ^ 124)).peekRing 0 0 1).take 16)) 124 4 = 6 ∧
    bitsOf (beNat (((instRun (3 * 2 ^ 124 + 4096 * 2 ^ 100)).peekRing 0 0 1).take 16)) 100 24 = 4096 ∧
    bitOf (beNat (((instRun (4 * 2 ^ 124 + 2 ^ 73)).peekRing 0 0 1).take 16)) 73 = true ∧
    bitsOf (beNat (((instRun (4 * 2 ^ 124 + 2 ^ 92)).peekRing 0 0 1).take 16)) 92 8 = 1 ∧
      ((instRun 0).clutch 0).layers = 1 := by
  refine ⟨?_, ?_, ?_, ?_, ?_, ?_, ?_⟩ <;> decide +kernel
theorem witness_InstallPackets_page :
    let a := ((instRun (3 * 2 ^ 124)).setN ((instRun 0).qa 0 0 0x2C) 200).setF (clSt 0) 1
    let b : State := { a with stack := a.stack.write (a.clutch 0).presentAt [1] }
    let h := beNat ((a.peekRing 0 (a.f PFX_IQ) 1).take 16)
    pageEntries (a.clutch 0) ≤ a.waiting 0 (a.f PFX_IQ) ∧ bitsOf h 92 8 < (a.clutch 0).layers ∧
      bitsOf h 86 6 < (a.clutch 0).heads ∧
    bitsOf h 74 12 < (a.clutch 0).pph ∧ a.f (clSt 0) = 1 ∧ bitOf h 73 = false ∧ a.pagePresent (a.clutch 0) 0 = false ∧
    b.pagePresent (b.clutch 0) 0 = true ∧ (a.setF (clPresent 0) 1).f (clPresent 0) = (a.clutch 0).pages ∧
      a.pfx.imports.isEmpty = true ∧
    (a.setF (clSt 0) 2).f (clSt 0) = 2 ∧ (a.setF (clSt 0) 2).bit (clEvictPend 0) = false := by
  refine ⟨?_, ?_, ?_, ?_, ?_, ?_, ?_, ?_, ?_, ?_, ?_, ?_⟩ <;> decide +kernel
theorem witness_InstallPackets_done :
    let c := pageDone 0 (List.replicate 33792 0)
    c.pfx.writes.find? (fun w => w.ent == 1) = none ∧
    c.pfx.writes.find? (fun w => w.ent == 0) =
      some { ent := 0, gen := 0, page := 0, data := List.replicate 33792 0, ntf := none } ∧
    c.f (clGen 0) = 0 ∧ 0 < (c.clutch 0).pages ∧
      (List.replicate 33792 (0 : Byte)).length = (c.clutch 0).pd + (c.clutch 0).ps ∧
    (pageDone 1 []).pfx.writes.find? (fun w => w.ent == 0) =
        some { ent := 0, gen := 1, page := 0, data := [], ntf := none } ∧
    (pageDone 1 []).f (clGen 0) ≠ 1 := by
  refine ⟨rfl, rfl, by decide +kernel, by decide +kernel, ?_, rfl, by decide +kernel⟩
  rw [List.length_replicate]
  decide +kernel

theorem witness_PassesAndMigration :
    let k := kUpPort 0 1
    let r : State := { (k.setB LEAPS_ARMED true) with pfx := { k.pfx with inStep := true } }
    let a := r.setN (passR 0 0) (2 ^ 31)
    let run : PassRun := { j := 0, due := 0, replies := [(0, List.replicate 240 1)] }
    let b : State := { k with pfx := { k.pfx with runs := [run] } }
    let m : Mig := { due := 0, done := false, drop := [], pages := [] }
    let c : State := { k with pfx := { k.pfx with migs := [m] } }
    let d : State := { (r.setB MIG_EN true).setN 0x3401104 1 with pfx := { k.pfx with slots := [0] } }
    k.part.isK = true ∧ a.armed = true ∧ a.pfx.inStep = true ∧ a.passEn 0 = true ∧ a.pfx.nextJ = 0 ∧
      a.passAt 0 ≤ a.now ∧ a.pfx.lastStart = none ∧
    (a.queries 0).isSome = true ∧ k.armed = false ∧
    (b.pfx.runs.find? (fun r => r.j == 0 && decide (r.due ≤ b.now) && !b.passHeld 0)) = some run ∧
    b.pfx.runs.find? (fun r => r.j == 1 && decide (r.due ≤ b.now) && !b.passHeld 1) = none ∧ k.bit MIG_EN = false ∧
      d.migDue = true ∧
    c.pfx.migs.findIdx? (fun m => c.part.isK && !m.done && decide (m.due ≤ c.now)) = some 0 ∧ k.pfx.migs = [] ∧
      d.migPick = none ∧ k.txSel 0 0 = 0 ∧ (k.setN (k.qa 0 0 0x14) 1).txSel 0 0 ≠ 0 := by
  refine ⟨?_, ?_, ?_, ?_, ?_, ?_, ?_, ?_, ?_, ?_, ?_, ?_, ?_, ?_, ?_, ?_, ?_, ?_⟩ <;> decide +kernel

theorem witness_RegionDecisions :
    let k := (kUpPort 0 1).setF CAP_MHZ 2000
    let a := (k.setF (rgFreq 0) 1700).setF (profCeil 0 0) 1600
    let b := (k.setF (rgFreq 0) 1500).setF (profCeil 0 0) 1600
    let c := b.setRegion 0 { rising := true, volt := some 700 }
    let h := k.setRegion 0 { therm := 1500 }
    let l := k.setF CAP_MHZ 1500
    let fp := fun (s : State) => max 1500 (min (s.f (profCeil (s.f PROFILE) 0)) (min (s.region 0).therm (s.f CAP_MHZ)))
    k.part.isK = true ∧ (dieRun true).part.isK = false ∧ ¬ (2 ^ 40 ≤ a.time) ∧ a.unpinned 0 = true ∧
      b.unpinned 0 = true ∧ c.unpinned 0 = true ∧
    fp a < a.f (rgFreq 0) ∧ b.f (rgFreq 0) < fp b ∧ (b.region 0).rising = false ∧ (c.region 0).rising = true ∧
      c.f (rgFreq 0) ≤ fp c ∧
    (k.setB (rgPinned 0) true).unpinned 0 = false ∧ (c.region 0).volt.isSome = true ∧ (k.region 0).volt = none ∧
        16 * (k.f T_LIMIT : Int) < 16 * 126 ∧
    (decide ((h.region 0).therm ≤ 1500)) = true ∧ k.bit TRIPPED = false ∧ (k.setB TRIPPED true).bit TRIPPED = true ∧
        l.f CAP_MHZ ≤ 1500 ∧
    10 * (k.f PWR_LIMIT) < 0xFFFF ∧ tileRegions.any (fun r => l.unpinned r) = true := by
  refine ⟨?_, ?_, ?_, ?_, ?_, ?_, ?_, ?_, ?_, ?_, ?_, ?_, ?_, ?_, ?_, ?_, ?_, ?_, ?_, ?_, ?_⟩ <;> decide
theorem clampMv_range (v : Int) : 600 ≤ clampMv v ∧ clampMv v ≤ 950 := by
  unfold clampMv
  split
  · omega
  · split <;> omega
theorem witness_RegionDecisions_volt :
    let b := (((kUpPort 0 1).setF CAP_MHZ 2000).setF (rgFreq 0) 1500).setF (profCeil 0 0) 1600
    let h := putReg b 0x3800104 950
    let l := putReg b 0x3800104 500
    h.f (rgFreq 0) < h.fperm 0 ∧ h.vfor 0 (1500 + 25) ≤ h.voltNow 0 ∧ l.f (rgFreq 0) < l.fperm 0 ∧
      l.voltNow 0 < l.vfor 0 (1500 + 25) := by
  intro b h l
  have hp : h.preVolt 0 = 0 := by decide
  have fh : h.voltNow 0 = 950 := by decide
  have fl : l.voltNow 0 = 500 := by decide
  refine ⟨by decide, ?_, by decide, ?_⟩
  · rw [fh]; unfold State.vfor State.vneed; rw [hp]
    have := (clampMv_range (Config.vf (1500 + 25) + h.trim 0)).2
    omega
  · rw [fl]; unfold State.vfor State.vneed
    have := (clampMv_range (Config.vf (1500 + 25) + l.trim 0)).1
    omega

theorem witness_RegionEvents :
    let k := kUpPort 0 1
    let a := putReg (k.setF ⟨rgPinv 0, 0, 16⟩ 700) 0x3800104 700
    let p := k.setRegion 0 { pin := some (1500, 700) }
    let z := a.setRegion 0 { undo := some { at_ := 0, freq := 1500, trim := 5, vset := 690, volt := none, rising := false, therm := 2000, floorT := false, floorP := false } }
    let d : State := { State.reset with part := .die 0 0 0 }
    let bad := fun (s : State) (v : Word) => decide (v.toNat % 2 ^ 16 < 1000) || decide (2000 < v.toNat % 2 ^ 16) ||
      decide (v.toNat % 2 ^ 16 % 25 ≠ 0) || (decide (v.toNat % 2 ^ 16 < 1500) && s.armed) ||
      decide (s.f ⟨rgPinv 0, 0, 16⟩ < 600) || decide (950 < s.f ⟨rgPinv 0, 0, 16⟩)
    k.part.isK = true ∧ k.mainOn = true ∧ k.bit LOAD_BUSY = false ∧ a.bit TRIPPED = false ∧
      bitOf (0x800005DC : Word).toNat 31 = true ∧
    bad a 0x800005DC = false ∧ a.f ⟨rgPinv 0, 0, 16⟩ ≤ a.f (rgVset 0) ∧ (putReg a 0x3800104 600).f (rgVset 0) < 700 ∧
      z.beat.n = 0 ∧
    bad (k.setF ⟨rgPinv 0, 0, 16⟩ 599) 0x800005DC = true ∧ bad a 0x800003E7 = true ∧ bad a 0x800003E8 = false ∧
      bitOf (0 : Word).toNat 31 = false ∧
    (p.region 0).pin = some (1500, 700) ∧ (z.region 0).undo.isSome = true ∧
        (k.setB (rgPinned 0) true).bit (rgPinned 0) = true ∧
    (k.setB TRIPPED true).bit TRIPPED = true ∧ (k.region 0).pin = none ∧ d.part.isK = false ∧ 0 < d.part.numRegions ∧
    (k.setB LOAD_BUSY true).bit LOAD_BUSY = true ∧
        ({ k with power := { k.power with main := false } } : State).mainOn = false := by decide

theorem witness_SubResets :
    let k := kUpPort 0 1
    let d : State := { State.reset with part := .die 0 0 0 }
    let r := k.setB LEAPS_ARMED true
    (0 : Word).toNat % 2 ^ 11 = 0 ∧ (0x6FF : Word).toNat % 2 ^ 11 ≠ 0 ∧
        (∀ b ∈ [0, 1, 2, 3, 4, 5, 6, 7, 9, 10], bitOf (0x6FF : Word).toNat b = true) ∧
    (k.armed && [0, 2, 3, 4, 5, 6, 7, 10].any (fun b => bitOf (0x6FF : Word).toNat b)) = false ∧
    (r.armed && [0, 2, 3, 4, 5, 6, 7, 10].any (fun b => bitOf (0x6FF : Word).toNat b)) = true ∧ k.part.isK = true ∧
        d.part.isK = false ∧
    hallRoot.isRoot = true ∧ k.inSub 4 0x140000 = true ∧ k.inSub 4 0x130000 = false ∧ inSubX 20 0x400000 = true ∧
      inSubX 20 0x500000 = false ∧
    (0x2C0001 : Word).toNat % 2 ^ 22 ≠ 0 ∧ bitOf (0x2C0001 : Word).toNat 18 = true ∧
        bitOf (0x2C0001 : Word).toNat 19 = true ∧
    bitOf (0x2C0001 : Word).toNat 21 = true ∧ bitOf (0x2C0001 : Word).toNat 0 = true ∧
      bitOf (0x2C0001 : Word).toNat 1 = false ∧
    k.bit (bitF SUBRESET_BUSY 4) = false ∧ (k.setB (bitF SUBRESET_BUSY 4) true).bit (bitF SUBRESET_BUSY 4) = true ∧
    (k.setB (bitF SUBRESET_X_BUSY 3) true).bit (bitF SUBRESET_X_BUSY 3) = true := by decide

theorem witness_LoadCommands :
    let k := kUpPort 0 1
    let r := State.reset
    let c : State := { k with nst := .chorus }
    let b := (r.setB LOAD_BUSY true).setF PHASE 1
    let f := b.setB BME true
    let g := f.setB (ringEn 0) true
    let d : State := { State.reset with part := .die 0 0 0 }
    let own (n : Nat) := List.replicate 8 (0 : Byte) ++ leBytes 4 (2 ^ 31 + n) ++ List.replicate 20 0
    r.mainOn = true ∧ r.bit LOAD_BUSY = false ∧ r.nst = .tadpole ∧ k.nst ≠ .tadpole ∧ c.nst = .chorus ∧
      k.nst ≠ .chorus ∧ k.nst ≠ .stopped ∧
    ({ r with power := { r.power with main := false } } : State).mainOn = false ∧ d.mainOn = true ∧ d.nst = .tadpole ∧
        d.part.isK = false ∧
    b.bit LOAD_BUSY = true ∧ b.f PHASE ≠ 3 ∧ ((g.setHeld 0 (some [0])).held 0).isSome = true ∧ g.bit BME = true ∧
      b.bit BME = false ∧ ((b.setHeld 0 (some [0])).held 0).isSome = true ∧ k.part.isK = true ∧ k.fetching = false ∧
    b.fetching = true ∧ b.takeDesc 0 [] = none ∧ b.f PHASE = 1 ∧ r.f PHASE ≠ 1 ∧ (b.setF PHASE 3).f PHASE = 3 ∧
    ((g.takeDesc 0 (own 4)).map descLen) = some 4 ∧ ((g.takeDesc 0 (own 0)).map descLen) = some 0 := by decide
theorem witness_LoadCommands_bits :
    (∀ i ∈ [1, 2, 3], bitOf (1 : Word).toNat i = false) ∧ (∀ i ∈ [0, 2, 3], bitOf (2 : Word).toNat i = false) ∧
    (∀ i ∈ [0, 1, 3], bitOf (4 : Word).toNat i = false) ∧ bitOf (3 : Word).toNat 0 = true ∧
        bitOf (3 : Word).toNat 1 = true ∧
    bitOf (3 : Word).toNat 2 = false ∧ bitOf (5 : Word).toNat 2 = true ∧ bitOf (5 : Word).toNat 3 = false ∧
      bitOf (8 : Word).toNat 3 = true := by decide

/-- A plan image for dies, written from Tables IMG-1 and IMG-3: class 1, one REG record that sets LEAP_PERIOD to 200,000 ns. -/
def planImage : List Byte :=
  leBytes 4 0x55737631 ++ leBytes 2 2 ++ leBytes 2 1 ++ leBytes 4 92 ++ leBytes 4 1 ++ leBytes 4 0 ++ leBytes 4 19 ++
    leBytes 2 0 ++ [1, 1] ++
    leBytes 2 2 ++ List.replicate 34 0 ++ leBytes 4 0x01000002 ++ leBytes 4 0x20020 ++ leBytes 4 0 ++ leBytes 4 0 ++
      leBytes 4 200000 ++
    leBytes 4 0 ++ leBytes 4 0x46A142B2
/-- A die in a phase of a plan load that has fetched that image. -/
def loadRun (ph : Nat) (again : List Byte) : State :=
  let s : State := { State.reset with part := .die 0 0 0 }
  { s.setF PHASE ph with load := { plan := true, bytes := planImage, got := 92, again := again } }
theorem witness_LoadStages_die :
    (loadRun 1 []).fetchedAll = true ∧ (loadRun 1 []).hdrBad true (planImage.take 64) = none ∧
        (loadRun 2 []).stageBad = false ∧
    (loadRun 2 []).checkImage true (loadRun 2 []).image = none ∧ (loadRun 3 []).part.isK = false ∧
        (loadRun 3 []).f PHASE = 3 ∧
    imgLength planImage ≤ (loadRun 3 []).load.got ∧
      crc32c ([].take (crcOfs planImage)) ≠ crc32c (planImage.take (crcOfs planImage)) ∧
    (loadRun 3 planImage).load.again = planImage ∧
        ({ loadRun 3 planImage with load := { (loadRun 3 planImage).load with plan := false } } : State).stageBad =
        false ∧ (loadRow (loadRun 3 []).part true 0x120020).isSome = true := by
  refine ⟨?_, ?_, ?_, ?_, ?_, ?_, ?_, ?_, ?_, ?_, ?_⟩ <;> decide +kernel
theorem witness_LoadStages :
    let r := State.reset
    let b := (r.setB LOAD_BUSY true).setF PHASE 1
    let h : State := { b with load := { bytes := List.replicate 64 0 } }
    let c : State := { r.setF PHASE 2 with load := { plan := true } }
    let p : State := { c with load := { plan := true, bytes := [0] }, host := { bad := [(c.stageBase, false)] } }
    let a : State := { r.setF PHASE 3 with load := { plan := true } }
    b.fetchedAll = false ∧ h.fetchedAll = true ∧ (h.hdrBad h.load.plan (h.load.bytes.take 64)).isSome = true ∧
      b.f PHASE ≠ 2 ∧ c.f PHASE = 2 ∧
    c.stageBad = false ∧ p.stageBad = true ∧ p.f PHASE = 2 ∧ (c.checkImage c.load.plan c.image).isSome = true ∧
      b.f PHASE ≠ 3 ∧ a.f PHASE = 3 ∧
    a.part.isK = true ∧ a.stageBad = false ∧ (p.setF PHASE 3).stageBad = true ∧
      ((h.setHeld 0 (some [0])).held 0).isSome = true ∧ (h.setB BME true).bit BME = true := by
  refine ⟨?_, ?_, ?_, ?_, ?_, ?_, ?_, ?_, ?_, ?_, ?_, ?_, ?_, ?_, ?_, ?_⟩ <;> decide +kernel

theorem witness_RegisterPorts :
    let k := kUpPort 0 1
    let a := passR 0 4
    let off : State := { k with power := { k.power with main := false } }
    k.served a = true ∧ off.served a = false ∧ k.absentPort a = false ∧ k.wheelPlace a = none ∧
    ((regRow k.part a).map (fun r => (r.wi, r.wn, r.isPlan, r.fds.any (fun f => f.acc.writes))) = some (0, 1, true,
        true)) ∧
    (k.ctrlWrite a 5).isNone = true ∧
    ((regRow k.part a).map (fun r => (k.loadLocked r a, k.locked r a, (k.setB LOAD_BUSY true).loadLocked r a)) =
        some (false, false, true)) ∧
    k.ignored a 5 = false ∧ a ≠ DL_EN.addr ∧ 0x200034 ≤ a ∧ k.blockPort a = none ∧
    (k.setB PLAN_VALID true).bit PLAN_VALID = true ∧ k.planAt a = true ∧ k.planAt 0x100000 = false := by
  refine ⟨?_, ?_, ?_, ?_, ?_, ?_, ?_, ?_, ?_, ?_, ?_, ?_, ?_, ?_⟩ <;> decide +kernel
theorem witness_RegisterPorts_wide :
    let k := kUpPort 0 1
    k.highAt 0x120024 = true ∧ k.highAt 0x120020 = false ∧ k.wideWords 0x120020 = [0x120020, 0x120024] ∧
      k.served 0x120020 = true ∧
    k.absentPort 0x120020 = false ∧ k.served PWR_PEAK = true ∧ regRow k.part 0x100FFC = none ∧
    ((k.setF (clSt 0) 1).ignored (clE 0 4) 0) = true ∧ (regRow k.part 0x1B0008).isSome = true ∧
        k.served 0x1B0008 = true ∧
    k.absentPort 0x1B0008 = false ∧ k.wheelPlace 0x1B0008 = none ∧ (k.wheelPlace (k.pa 0 0x1000)).isSome = true ∧
      k.served (k.pa 0 0x1000) = true ∧
    k.absentPort (k.pa 0 0x1000) = false := by
  refine ⟨?_, ?_, ?_, ?_, ?_, ?_, ?_, ?_, ?_, ?_, ?_, ?_, ?_, ?_, ?_⟩ <;> decide +kernel
theorem witness_RegisterPorts_commands :
    let k := kUpPort 0 1
    let l := k.setB LOAD_BUSY true
    (∀ a ∈ [0x120004, 0x1200AC, k.ch 0 4, k.pa 0 4, perfSelA false 1, NET_CTRL, PULSE_CTRL, 0x200004, 0x2F00004,
        rgPin 2, rgPinv 9, 0x50010C, 0x700400],
      (regRow k.part a).isSome = true ∧ k.wheelPlace a = none ∧ k.served a = true ∧ k.absentPort a = false) ∧
    k.part.isK = true ∧ k.bit LOAD_BUSY = false ∧ 0 < k.numCh ∧ 0 ∈ k.allPorts ∧
      (k.perfSelAt (perfSelA false 1)).isSome = true ∧
    (regRow k.part CHECK_INFO).isSome = true ∧ bitOf (0x300 : Word).toNat 8 = true ∧
        bitOf (0x300 : Word).toNat 9 = true ∧
    bitOf (0x80 : Word).toNat 7 = true ∧ (0x80 : Word).toNat &&& 15 = 0 ∧
      (∀ i ∈ [3, 7, 8, 9], bitOf (7 : Word).toNat i = false) ∧
    ((regRow k.part NODE_ID.addr).map (fun r => (l.loadLocked r NODE_ID.addr, r.fds.any (fun f => f.acc.writes)))) =
        some (true, false) := by
  refine ⟨?_, ?_, ?_, ?_, ?_, ?_, ?_, ?_, ?_, ?_, ?_, ?_, ?_⟩ <;> decide +kernel

theorem witness_HostWindow :
    let k := kUpPort 0 1
    let b := ((k.setB BME true).setB MSIX_EN true).setB MSIX_MASKED false
    let w : State := { b with host := { b.host with msixWait := 2, endTx0 := true }, outs := { b.outs with msixPend := true } }
    let i := ((k.setN HST_CAUSE 1).setN (HST_CAUSE + 4) 1)
    k.part.isK = true ∧ (dieRun true).part.isK = false ∧ bar0Takes 0 (List.replicate 8 true) = false ∧
      bar0Takes 0x8000 (List.replicate 8 true) = true ∧
    bar0Takes 0 [true, true, false, true] = false ∧ 1 ≤ [some (7 : Byte)].length ∧
    b.bit BME = true ∧ k.bit BME = false ∧ 0 < w.host.msixWait ∧ ((w.setHeld 0 (some [0])).held 0).isSome = true ∧
      w.host.endTx0 = true ∧ b.host.endTx0 = false ∧ w.outs.msixPend = true ∧ b.msixOpen = true ∧ k.msixOpen = false ∧
    k.host.msixWait = 0 ∧ k.outs.msixPend = false ∧ k.bit (bitF HST_STATUS 0) = false ∧
      (k.setB (bitF HST_STATUS 0) true).bit (bitF HST_STATUS 0) = true ∧
    k.mainOn = true ∧ (k.setN CFG_CAUSE 0).irq = false ∧ i.irq = true := by
  refine ⟨?_, ?_, ?_, ?_, ?_, ?_, ?_, ?_, ?_, ?_, ?_, ?_, ?_, ?_, ?_, ?_, ?_, ?_, ?_, ?_, ?_, ?_⟩ <;> decide +kernel

theorem witness_HostRings :
    let k := (kUpPort 0 1).setB BME true
    let e := fun (r : Nat) => (k.setB (ringEn r) true).setF (ringSize r) 16
    let own (n a : Nat) := List.replicate 8 (0 : Byte) ++ leBytes 4 (2 ^ 31 + n) ++ leBytes 4 a ++ List.replicate 16 0
    let l : State := { e 4 with flt := { (e 4).flt with logQ := [[1]] } }
    k.part.isK = true ∧ (dieRun true).part.isK = false ∧ (e 4).ringReads 4 = true ∧
      descOwn (descWords (own 32 0)) = true ∧ k.ringReads 4 = false ∧
    k.flt.logQ = [] ∧ l.flt.logQ = [[1]] ∧ (l.takeDesc 4 (own 32 0)).isSome = true ∧ k.takeDesc 1 [] = none ∧
      ((e 1).takeDesc 1 (own 4 0)).isSome = true ∧
    (e 1).mgmtStatus 0 4 [1, 2, 3, 4] = none ∧ (e 1).mgmtStatus 0 0 [] = some 2 ∧
        ((e 2).takeDesc 2 (own 32 64)).isSome = true ∧
    copyOk (descWords (own 32 64)) = true ∧ copyOk (descWords (own 31 64)) = false ∧
      ((e 6).takeDesc 6 (own 32 64)).isSome = true ∧
    k.mainOn = true ∧ k.bit LOAD_BUSY = false ∧ (k.setB LOAD_BUSY true).bit LOAD_BUSY = true ∧
      (e 1).bit (ringEn 1) = true ∧ k.bit (ringEn 1) = false := by
  refine ⟨?_, ?_, ?_, ?_, ?_, ?_, ?_, ?_, ?_, ?_, ?_, ?_, ?_, ?_, ?_, ?_, ?_, ?_, ?_, ?_, ?_⟩ <;> decide +kernel

theorem witness_PerfCounters :
    let k := kUpPort 0 1
    let d : State := { State.reset with part := .die 0 0 0 }
    let o := k.setN (perfSelA false 0) (2 ^ 30 + 2 ^ 16)
    let f : State := { o with perf := { o.perf with cnt := tset (fun _ => 0) [] 0 (2 ^ 48 - 1), run := 64 } }
    let g : State := { k with perf := { k.perf with early := [(perfKey false 0, 1, false)] } }
    k.mainOn = true ∧ k.bit LOAD_BUSY = false ∧ k.perfSelAt (perfSelA false 3) = some (false, 3) ∧
      selOk false (2 ^ 30 + 2 ^ 16) = true ∧
    selOk false (3 * 2 ^ 30) = false ∧ k.perfSelAt 0 = none ∧ k.part.isK = true ∧ bitOf (1 : Word).toNat 1 = false ∧
      bitOf (2 : Word).toNat 1 = true ∧
    d.part.isK = false ∧ d.mainOn = true ∧ d.bit LOAD_BUSY = false ∧ (k.setB LOAD_BUSY true).bit LOAD_BUSY = true ∧
    ({ k with power := { k.power with main := false } } : State).mainOn = false ∧ 0 < perfCount false ∧
        f.perfFrozen false = false ∧
    f.perf.run = 64 ∧ f.perfHit (f.rn (perfSelA false 0)) 1 0 = true ∧ f.perf.shut = [] ∧
    g.perf.early.find? (fun e => e.1 == perfKey false 0) = some (perfKey false 0, 1, false) ∧
      bitOf (1 : Word).toNat 0 = true ∧
    tget (fun _ => 0) f.perf.cnt (perfKey false 0) = 2 ^ 48 - 1 := by decide

theorem witness_PowerAndBlockResets :
    let k := kUpPort 0 1
    let off : State := { k with power := { k.power with main := false } }
    let d : State := { State.reset with part := .die 0 0 0 }
    let a : State := { d with nst := .armed }
    let l : State := { ((a.setB TEST_LOOP true).setF ⟨portBase a.part 0, 20, 3⟩ 1).setF ⟨portBase a.part 0 + 8, 0, 3⟩ 4 with outs := { loop := true } }
    let h : State := { d with power := { d.power with rstOn := [0, 1], held := true } }
    k.part.isK = true ∧ k.power.standby = true ∧ k.power.main = true ∧ off.power.main = false ∧
      off.power.standby = true ∧ d.part.isK = false ∧
    d.power.rstOn.contains 0 = false ∧ 0 ∈ h.power.rstOn ∧ h.power.rstOn.filter (· != 0) ≠ [] ∧ d.power.held = false ∧
      h.power.held = true ∧
    h.power.rstOn.contains 2 = false ∧ d.bit LCLK_FAULT = false ∧ (d.setB LCLK_FAULT true).bit LCLK_FAULT = true ∧
    d.bit LOAD_BUSY = false ∧ (d.setB LOAD_BUSY true).bit LOAD_BUSY = true ∧ bitOf (1 : Word).toNat 0 = true ∧
      bitOf (1 : Word).toNat 1 = false ∧
    d.nst ≠ .armed ∧ a.nst = .armed ∧ a.outs.loop = false ∧ l.looped = true ∧ l.portUp 0 = true ∧
      (l.exch 0).sentAt = none ∧ d.looped = false := by decide
theorem witness_PowerAndBlockResets_last :
    let d : State := { State.reset with part := .die 0 0 0 }
    let h : State := { d with power := { d.power with rstOn := [2], held := true } }
    let q : State := { d with power := { d.power with standby := false } }
    2 ∈ h.power.rstOn ∧ h.power.rstOn.filter (· != 2) = [] ∧ q.power.standby = false ∧
    ((d.modExch 0 (fun e => { e with sentAt := some d.beat.n })).exch 0).sentAt = some d.beat.n := by decide

theorem witness_AccumulatorContributions :
    ({} : XAcc).cnt < 2 ^ 24 ∧ ¬ ((false : Bool) = true ∧ (3 : Nat) = 0) ∧ (-149 : Int) ≤ -149 ∧
    -2 ^ 319 ≤ ({} : XAcc).value.toInt + 3 ∧ ({} : XAcc).value.toInt + 3 < 2 ^ 319 ∧
    ({} : XAcc).cnt + [Val.nan, .inf true].length ≤ 2 ^ 24 := by decide
theorem witness_AccumulatorContributions_perm : [Val.nan, .inf true].Perm [.inf true, .nan] := List.Perm.swap _ _ []

theorem witness_AccumulatorWriteOut :
    ({ pinf := true, ninf := true } : XAcc).pinf = true ∧
    ({ nz := true, cnt := 1 } : XAcc).out = .fin true 0 (-149) ∧ ({ value := 5 } : XAcc).value ≠ 0 ∧
    isScaled 7 = false ∧ isScaled 9 = true := by decide

end Sys2Proof.Tests
end

section
/-! The exact accumulator (R241 to R244): what one contribution does to each field, why the order of contributions does
not matter, and what an accumulator and a row of them yield at write-out. -/

namespace Sys2Proof.Machine

/-! ### One contribution within the count limit (R242) -/

section Contribution

variable {x : XAcc} (h : x.cnt < 2 ^ 24)
include h

theorem XAcc.add_nan : x.add .nan = ({ x with cnt := x.cnt + 1, nan := true }, false) := by
  simpa [XAcc.add] using h

theorem XAcc.add_posInf : x.add (.inf false) = ({ x with cnt := x.cnt + 1, pinf := true }, false) := by
  simpa [XAcc.add] using h

theorem XAcc.add_negInf : x.add (.inf true) = ({ x with cnt := x.cnt + 1, ninf := true }, false) := by
  simpa [XAcc.add] using h

theorem XAcc.add_negZero (e : Int) : x.add (.fin true 0 e) = ({ x with cnt := x.cnt + 1 }, false) := by
  simpa [XAcc.add] using h

theorem XAcc.add_number {n : Bool} {m : Nat} (hz : ¬ (n = true ∧ m = 0)) (e : Int) :
    x.add (.fin n m e) =
      ({ x with cnt := x.cnt + 1, nz := false
                value := x.value + BitVec.ofInt 320 (scaleTo n m e (-149)) }, false) := by
  simp only [XAcc.add, Nat.not_le.mpr h, if_neg hz, if_false]

end Contribution

/-- The number that `XAcc.add` adds, in units of 2^-149, is the value of the contribution. -/
theorem scaleTo_unit (n : Bool) (m : Nat) (e : Int) :
    scaleTo n m e (-149) = (if n then -1 else 1) * m * 2 ^ (e + 149).toNat := by
  cases n <;> simp [scaleTo]

/-- An addition to a two's-complement word is exact where the sum lies in the word's range. -/
theorem toInt_add_ofInt {w : Nat} (hw : 0 < w) (b : BitVec w) (k : Int)
    (hlo : -2 ^ (w - 1) ≤ b.toInt + k) (hhi : b.toInt + k < 2 ^ (w - 1)) :
    (b + BitVec.ofInt w k).toInt = b.toInt + k := by
  have hsum : b + BitVec.ofInt w k = BitVec.ofInt w (b.toInt + k) := by
    rw [BitVec.ofInt_add, BitVec.ofInt_toInt]
  rw [hsum, BitVec.toInt_ofInt_eq_self hw hlo hhi]

/-! ### The order of contributions -/

/-- What a contribution adds to the value of an accumulator; only a finite one adds anything. -/
def Val.units : Val → BitVec 320
  | .fin n m e => BitVec.ofInt 320 (scaleTo n m e (-149))
  | _ => 0

/-- A contribution after which NZ stands: every one but a finite value that is not −0. -/
def Val.keepsNz : Val → Bool
  | .fin n m _ => n && m == 0
  | _ => true

theorem Val.units_negZero (e : Int) : (Val.fin true 0 e).units = 0 := by simp [Val.units, scaleTo]

/-- Each field of an accumulator gathers the contributions by an operation of its own: the value and the count by a sum,
NAN, PINF and NINF by "or", NZ by "and". -/
theorem XAcc.add_fst {x : XAcc} (h : x.cnt < 2 ^ 24) (v : Val) :
    (x.add v).1 =
      { value := x.value + v.units
        nan := x.nan || v == .nan
        pinf := x.pinf || v == .inf false
        ninf := x.ninf || v == .inf true
        nz := x.nz && v.keepsNz
        cnt := x.cnt + 1 } := by
  match v with
  | .nan => simp [XAcc.add_nan h, Val.units, Val.keepsNz]
  | .inf false => simp [XAcc.add_posInf h, Val.units, Val.keepsNz]
  | .inf true => simp [XAcc.add_negInf h, Val.units, Val.keepsNz]
  | .fin n m e =>
    by_cases hz : n = true ∧ m = 0
    · obtain ⟨rfl, rfl⟩ := hz
      simp [XAcc.add_negZero h, Val.units_negZero, Val.keepsNz]
    · have hk : (Val.fin n m e).keepsNz = false := by simpa [Val.keepsNz] using hz
      simp [XAcc.add_number h hz, hk, Val.units]

theorem XAcc.cnt_add {x : XAcc} (h : x.cnt < 2 ^ 24) (v : Val) : (x.add v).1.cnt = x.cnt + 1 := by
  rw [XAcc.add_fst h]

/-- Two contributions within the count limit commute, since every field's operation does. -/
theorem XAcc.add_add_comm {x : XAcc} (h : x.cnt + 1 < 2 ^ 24) (v w : Val) :
    ((x.add v).1.add w).1 = ((x.add w).1.add v).1 := by
  have hx : x.cnt < 2 ^ 24 := by omega
  have hc (u : Val) : (x.add u).1.cnt < 2 ^ 24 := by rwa [XAcc.cnt_add hx]
  rw [XAcc.add_fst (hc v), XAcc.add_fst (hc w), XAcc.add_fst hx v, XAcc.add_fst hx w]
  congr 1
  · exact add_right_comm ..
  · exact Bool.or_right_comm ..
  · exact Bool.or_right_comm ..
  · exact Bool.or_right_comm ..
  · exact Bool.and_right_comm ..

/-- The state after contributions within the count limit is that after any permutation of them (R242). -/
theorem XAcc.foldl_add_perm {l l' : List Val} (hp : l.Perm l') (x : XAcc) (h : x.cnt + l.length ≤ 2 ^ 24) :
    l.foldl (fun a v => (a.add v).1) x = l'.foldl (fun a v => (a.add v).1) x := by
  induction hp generalizing x with
  | nil => rfl
  | cons v _ ih =>
    rw [List.length_cons] at h
    have hx : x.cnt < 2 ^ 24 := by omega
    exact ih _ (by rw [XAcc.cnt_add hx]; omega)
  | swap v w l =>
    simp only [List.length_cons] at h
    simp only [List.foldl_cons, XAcc.add_add_comm (x := x) (by omega) w v]
  | trans hp _ ih ih' => exact (ih x h).trans (ih' x (hp.length_eq ▸ h))

/-! ### Write-out (R243) -/

section WriteOut

variable {x : XAcc}

theorem XAcc.out_nan (h : x.nan = true ∨ (x.pinf = true ∧ x.ninf = true)) : x.out = .nan := by
  simp [XAcc.out, h]

theorem XAcc.out_posInf (hn : x.nan = false) (hp : x.pinf = true) (hm : x.ninf = false) : x.out = .inf false := by
  simp [XAcc.out, hn, hp, hm]

theorem XAcc.out_negInf (hn : x.nan = false) (hp : x.pinf = false) (hm : x.ninf = true) : x.out = .inf true := by
  simp [XAcc.out, hn, hp, hm]

theorem XAcc.out_zero (hn : x.nan = false) (hp : x.pinf = false) (hm : x.ninf = false) (hv : x.value = 0) :
    x.out = .fin (x.nz && decide (1 ≤ x.cnt)) 0 (-149) := by
  simp [XAcc.out, hn, hp, hm, hv]

theorem XAcc.out_value (hn : x.nan = false) (hp : x.pinf = false) (hm : x.ninf = false) (hv : x.value ≠ 0) :
    x.out = .fin (decide (x.value.toInt < 0)) x.value.toInt.natAbs (-149) := by
  have hi : x.value.toInt ≠ 0 := fun h0 => hv (BitVec.toInt_inj.mp (by simpa using h0))
  simp [XAcc.out, hn, hp, hm, hi]

end WriteOut

/-- Elements without block scales are converted one by one (Table TIL-5), and no scale is written. -/
theorem State.putRow_bonded_unscaled {c : Nat} (hc : isScaled c = false) (s : State) (t a sa : Nat) (vs : List Val) :
    (s.putRow t c a sa vs).bonded =
      (s.tWrite t a (packElems c (vs.map (fun v => (convert c v).code)))).bonded := by
  simp [State.putRow, convRow, hc, Function.comp_def]

/-- A scaled row is converted in blocks of 32 (R238): the elements of all blocks, then their scales. -/
theorem State.putRow_bonded_scaled {c : Nat} (hc : isScaled c = true) (s : State) (t a sa : Nat) (vs : List Val) :
    let b := (blocksOf (ceilDiv vs.length 32) vs).map (convBlock c)
    (s.putRow t c a sa vs).bonded = ((s.tWrite t a (packElems c ((b.flatMap (·.2)).map (·.code)))).tWrite t sa
      (b.map (fun x => BitVec.ofNat 8 x.1))).bonded := by
  simp [State.putRow, convRow, hc, Function.comp_def]

/-! ### The two statements -/

/-- Settles O59: the five cases of a contribution, and that contributions commute within the count limit. -/
theorem accumulatorContributions : Obligations.AccumulatorContributions := by
  unfold Obligations.AccumulatorContributions
  refine ⟨fun x h => ⟨XAcc.add_nan h, XAcc.add_posInf h, XAcc.add_negInf h, XAcc.add_negZero h, ?_⟩,
    fun x _ _ hp h => XAcc.foldl_add_perm hp x h⟩
  intro n m e hz _ k
  rw [XAcc.add_number h hz, scaleTo_unit]
  exact ⟨rfl, rfl, toInt_add_ofInt (by decide) x.value k⟩

/-- Settles O60: the rules of R243 in their order, then the conversion of a row, unscaled and scaled. -/
theorem accumulatorWriteOut : Obligations.AccumulatorWriteOut := by
  unfold Obligations.AccumulatorWriteOut
  refine ⟨fun x => ⟨XAcc.out_nan, fun hn hpm => ⟨fun hp => ?_, fun hp hm => XAcc.out_negInf hn hp hm,
    fun hp hm => ⟨XAcc.out_zero hn hp hm, XAcc.out_value hn hp hm⟩⟩⟩, fun s t c a sa l => ?_⟩
  · exact XAcc.out_posInf hn hp (by simpa [hp] using hpm)
  · exact ⟨fun hc => State.putRow_bonded_unscaled hc s t a sa _, fun hc => State.putRow_bonded_scaled hc s t a sa _⟩

end Sys2Proof.Machine
end
